-- ==== Sys2Proof/Word.lean ====
section
/-!
DEFINITION. Words, bytes and the keyed table the state is built from.
A `Tbl` is the sparse form of a memory or of an array of like units: strictly rising keys, and no entry that
equals the value an unlisted key has.
-/

namespace Sys2Proof

abbrev Byte := BitVec 8
abbrev Word16 := BitVec 16
abbrev Word32 := BitVec 32
abbrev Word64 := BitVec 64

/-- Sparse data by key; `Tbl.get` and `Tbl.set` (Machine/Tables.lean) are its only readers and writers. -/
abbrev Tbl (α : Type) := List (Nat × α)

end Sys2Proof
end

