-- ==== Sys2Proof/Machine/Types.lean ====
section
/-!
DEFINITION. The data that commands carry and that the state holds, unit by unit: masters, log entries, edge and mesh
traffic, supplies, host reads.
-/

namespace Sys2Proof

/-- R10: the masters that keep latches of their own: the host through function f's BAR0, and control core i in
MBX_CC_STATUS order (Table 15-9). -/
inductive Master where
  | host (f : Nat)
  | cc (i : Nat)
  deriving DecidableEq, Repr

/-- One number per master. -/
def Master.key : Master → Nat
  | .host f => f
  | .cc i => 32 + i

/-- R375, Table 13-3: the 8-bit master id. -/
def Master.id : Master → Nat
  | .host _ => 0x19
  | .cc i => if i = 0 then 0x1A else if i < 5 then (i - 1) * 64 + 0x0C else (i - 5) / 3 * 64 + 0x09 + (i - 5) % 3

/-- R431: the pigeonhole endpoint of a master; only the PF driver is the host endpoint. -/
def Master.endpoint : Master → Option Nat
  | .host f => if f = 0 then some 0 else none
  | .cc i => if i = 0 then some 2 else if i < 5 then some (4 + (i - 1)) else if i < 17 then some (8 + (i - 5)) else none

/-- R462: an error-log entry. -/
structure LogEntry where
  seq : Nat
  source : Nat
  cls : Nat
  addrValid : Bool
  locked : Bool
  time : Nat
  address : Nat
  event : Nat
  detail : Nat
  count : Nat
  deriving DecidableEq, Repr

def LogEntry.zero : LogEntry := ⟨0, 0, 0, false, false, 0, 0, 0, 0, 0⟩

/-- Table 17-2: word w of an entry. -/
def LogEntry.word (e : LogEntry) (w : Nat) : Nat :=
  if w = 0 then e.seq % 2 ^ 32
  else if w = 1 then e.source % 2 ^ 16 + (e.cls + (if e.addrValid then 8 else 0) + (if e.locked then 16 else 0)) * 2 ^ 16
  else if w = 2 then e.time % 2 ^ 32
  else if w = 3 then e.time / 2 ^ 32 % 2 ^ 32
  else if w = 4 then e.address % 2 ^ 32
  else if w = 5 then e.address / 2 ^ 32 % 2 ^ 32
  else if w = 6 then e.event % 256 * 2 ^ 24 + e.detail % 2 ^ 24
  else if w = 7 then e.count
  else 0

/-- What a host read returned: its bytes, or nothing when the read failed. -/
abbrev HostRead := Option (List Byte)

/-- Table 19-2: supplies in mV and the clocks' distance from nominal in ppm. -/
structure Supplies where
  vin : Nat
  vio : Nat
  vaon : Nat
  refPpm : Nat
  frefPpm : Nat
  deriving DecidableEq, Repr

/-! ### On-package network (chapter 12) -/

/-- Table 12-3: header fields of an edge flit. -/
structure EdgeHdr where
  seq : Nat
  ack : Nat
  nak : Bool
  seqd : Bool
  vc : Nat
  cls : Nat
  crVc : Nat
  crTotal : Nat
  len8 : Nat
  crCls : Nat
  deriving DecidableEq, Repr

/-- R362: an edge flit: header and the payload bytes in use. -/
structure EdgeFlit where
  hdr : EdgeHdr
  payload : List Byte
  deriving DecidableEq, Repr

/-- R364: the masks of an edge's modules at the end of a training: the ones side k holds, the ones it sent, and the same
of the other side. -/
structure EdgeMasks where
  own : List Word64
  sent : List Word64
  peer : List Word64
  peerSent : List Word64
  deriving DecidableEq, Repr

/-- Where a packet enters and leaves the network: the core, the slice island, a control core or the sideboard cache of a
router, or a unit of the plinth (R354). -/
inductive MeshPort where
  | core | slice | control | cache | plinth
  deriving DecidableEq, Repr

/-- R354-R361: a packet: its source (chest `home`, router, local port) and its destination (`chest`, router `dst`, local
port; router 9 is the plinth), virtual channel, class and stamped level, master id, whether it is a request, tag, the edges it has
crossed, its data bytes, and per data beat 0 good, 1 a corrected beat, 2 an uncorrectable one. -/
structure MeshPkt where
  home : Nat
  src : Nat
  srcPort : MeshPort
  chest : Nat
  dst : Nat
  port : MeshPort
  vc : Nat
  cls : Nat
  level : Nat
  master : Nat
  request : Bool
  tag : Nat
  crossed : Nat
  data : List Byte
  beats : List Nat
  deriving DecidableEq, Repr

/-! ### Fabric (chapter 11) -/

/-- Table 11-3: a fabric flit but for its op, which the command names. `opField` is header bits [95:74]. -/
structure FlitHdr where
  seq : Nat
  ack : Nat
  nak : Bool
  seqd : Bool
  vc : Nat
  dest : Nat
  src : Nat
  crVc : Nat
  crTotal : Nat
  opField : Nat
  deriving DecidableEq, Repr

/-- R329: header, op and the payload bytes in use (len16 x 16 of them). -/
structure Flit where
  op : Nat
  hdr : FlitHdr
  payload : List Byte
  deriving DecidableEq, Repr

/-- Table 11-5: the request prefix. -/
structure ReqPrefix where
  target : Nat
  length : Nat
  kind : Nat
  atomic : Nat
  deriving DecidableEq, Repr

/-- Who sees the response to a request. -/
inductive ReqSrc where
  | master (m : Nat)            -- master id of Table 13-3
  | fabric (dev tag op : Nat)   -- device id, tag and opcode of the request flit
  | gone                        -- a master that has reset since: its response is absorbed (R27, R429)
  deriving DecidableEq, Repr

/-- R238: where a run record comes from: the core with this key, a KV walker for the pass of a journal entry, a control
core, the host. -/
inductive Submitter where
  | core (u : Nat)
  | walker (c jid : Nat)
  | cc (i : Nat)
  | host
  deriving DecidableEq, Repr

/-- Table 13-2: what a request takes its class from: the unit at the port (a core's work item, a control core's register, a
fabric port's register, a KV walker), a host function, the journal entry of a COPY, the submitter of a puppet run, a
scheduled send. -/
inductive Origin where
  | unit
  | host (f : Nat)
  | copy (jid : Nat)
  | run (b : Submitter)
  | sched
  deriving DecidableEq, Repr

/-- R379-R382: a request at its master port: master id, what it takes its class from, chest and logical slice it targets, bytes,
and the latencies in NCLK of the responses that reached the port for its entry since its last request left. -/
structure PortReq where
  master : Nat
  origin : Origin
  chest : Nat
  slice : Nat
  bytes : Nat
  samples : List Nat
  deriving DecidableEq, Repr

/-- What the part sends to the world, oldest first in `State.out`. -/
inductive OutEvent where
  | readData (m : Master) (off : Nat) (v : Nat)      -- BAR0 completion
  | abort (m : Master) (off : Nat)                     -- Completer Abort (R9, R396, R397)
  | msix (f : Nat) (vector : Nat)                      -- an interrupt message (R398, R472)
  | hostWrite (addr : Nat) (bytes : List Byte)
  | bar2Data (addr : Nat) (bytes : List Byte)
  | response (to_ : ReqSrc) (status : Nat) (data : List Byte)
  | flit (port : Nat) (f : Flit)                       -- a fabric flit leaves on a port
  | pair (port : Nat) (lanes : List (Nat × List Nat))  -- the symbols of a codeword pair, by lane (R326)
  | training (port good : Nat)                         -- training begins, with the part's lane-good mask (R341)
  | meshEject (chest router : Nat) (port : MeshPort) (p : MeshPkt)   -- a packet leaves the network at a local port
  | ccInterrupt (i : Nat)                              -- machine external interrupt of control core i (R436)
  | accessFault (i : Nat)                              -- load or store access fault of control core i (R422)
  | mctp (bytes : List Byte)                           -- pigeonhole message to the BMC (Table 15-5)
  | spdm (code : Nat) (bytes : List Byte)              -- SPDM response
  | jtag (register : Nat) (value : Nat)                -- JTAG data register selected and its captured value
  | budget (chest demand ceiling : Nat)                -- R486 message on VC3
  | stamped (r : PortReq) (cls level : Nat)            -- a request leaves its master port (R373, R381)
  | granted (arbiter input : Nat)                      -- an arbiter's grant (R388)
  | heartbeat (i : Nat)                                -- R428
  deriving DecidableEq, Repr


/-! ### Memory requests (chapters 07, 08) -/

/-- A request at device memory: who sees the answer, the master id that errors name, whether it is a host BAR2 access,
the address, the length, for a write its bytes with their enables (none listed: every byte), and for an atomic, whose
operand the bytes are, its operation (0 ADD, 1 FADD, 2 SMAX, 3 SMIN, 4 UMAX, 5 UMIN, 6 FMAX, 7 FMIN, 8 SWAP, 9 CAS,
as Table 7-7 lists them) and compare value. -/
structure MemReq where
  src : ReqSrc
  mid : Nat
  host : Bool
  addr : Nat
  len : Nat
  write : Option (List Byte)
  enables : List Bool
  atom : Option (Nat × Nat)
  deriving DecidableEq, Repr

/-- R242: a claim: bank mask, first and last row, shared. -/
structure Claim where
  mask : BitVec 256
  first : Nat
  last : Nat
  shared : Bool
  deriving DecidableEq, Repr

/-! ### Cores (chapters 03-06) -/

/-- Table 4-4a: the fields of a chain instruction but for its opcode, which the command names. -/
structure VecF where
  vd : Nat
  va : Nat
  vb : Nat
  vc : Nat
  all : Bool
  pg : Nat
  mz : Bool
  bs : Bool
  rm : Nat
  sat : Bool
  fmt : Nat
  fn : Nat
  imm : Nat
  deriving DecidableEq, Repr

/-- A write that reaches a landing tile (R99, R557): receiving core key, landing index, byte offset, bytes, whether it
is the first and the last write of its transfer, whether it is posted, its sender (master id or fabric source and
tag), a fabric source marked by the requester. -/
structure LandWrite where
  core : Nat
  idx : Nat
  off : Nat
  bytes : List Byte
  first : Bool
  last : Bool
  posted : Bool
  src : ReqSrc
  deriving DecidableEq, Repr

/-- R152: a merge: the head width, the landing tiles of the sources in ascending source index with the byte offset of
the row's record in each, and the tile-store address the merged row goes to. -/
structure MergeReq where
  d : Nat
  sources : List (Nat × Nat)
  dest : Nat
  deriving DecidableEq, Repr

/-- R174: the dimensions of an operation at run time. -/
structure Shape where
  m : Nat
  n : Nat
  k : Nat
  batch : Nat
  heads : Nat
  deriving DecidableEq, Repr

/-! ### Layout images (chapter 10)

The spec gives the header (Table 10-1), the section table (R292) and the GROUP, ACTS and SLOTS sections byte by byte;
it names what the other sections hold and gives them no encoding. An image is therefore its header bytes and a list of
sections whose content is data. -/

/-- Table 10-5; the member ids are the 16-bit words, reserved bits included. -/
structure GroupSec where
  groupId : Nat
  members : Nat
  rank : Nat
  e : Nat
  g : Nat
  reserved : Nat
  digest : BitVec 512
  ids : List Nat
  deriving DecidableEq, Repr

/-- R315: an entry of the act schedule: act, epoch count, switch allowance. -/
structure SchedEnt where
  act : Nat
  epochs : Nat
  allow : Nat
  reserved : Nat
  deriving DecidableEq, Repr

/-- R308: a scheduled transfer. A source in the tile store names its package core id in `srcCore`. -/
structure SlotEnt where
  start : Nat
  len : Nat
  port : Nat
  dir : Nat
  peer : Nat
  landing : Nat
  core : Nat
  bytes : Nat
  srcAddr : Nat
  srcSpace : Nat
  srcCore : Nat
  reserved : Nat
  deriving DecidableEq, Repr

/-- R98, R317: a landing tile of a core: index, tile-store offset, length, resident (restored and set at a switch). -/
structure LandCfg where
  idx : Nat
  off : Nat
  len : Nat
  resident : Bool
  deriving DecidableEq, Repr

/-- R317 and Table 10-2, CORES: one core in one act. Regions are (offset, length) in the tile store; the areas are
device addresses. `l0entry` is the regulator entry scheduled sends are charged to (R379). -/
structure CoreCfg where
  act : Nat
  core : Nat
  pipeline : Nat
  regions : List (Nat × Nat)
  landings : List LandCfg
  spill : List (Nat × Nat)
  spillArea : Nat
  restore : List (Nat × Nat)
  restoreArea : Nat
  l0entry : Nat
  deriving DecidableEq, Repr

/-- DATA: bytes at a device address (space 0) or at a tile-store offset of a logical core (space 1). -/
structure DataEnt where
  space : Nat
  core : Nat
  addr : Nat
  bytes : List Byte
  deriving DecidableEq, Repr

/-- PUPPET: program image, filled cue-store entries and claims of one slice (R225, R226, R242). -/
structure PupSec where
  prog : List Word32
  cues : List (Nat × List Byte)
  claims : List (Nat × Claim)
  deriving DecidableEq, Repr

/-- R255, Table 9-1, with the table bases of R262-R264: `streams` gives the slice key (chest * 8 + logical slice) of each
stream; the plane bases are column addresses; `seqBase` and `hdrBase` are offsets in every sideboard slice; `mapBase` and
`mapStride` place the map of a sequence in its home chest's sideboard slice. -/
structure KvGeo where
  p : Nat
  h : Nat
  ks : Nat
  vs : Nat
  g : Nat
  f : Nat
  s : Nat
  x : Nat
  streams : List Nat
  scoreStream : Nat
  watermark : Nat
  keyBase : Nat
  valBase : Nat
  idBase : Nat
  cntBase : Nat
  sideBase : Nat
  seqBase : Nat
  sequences : Nat
  hdrBase : Nat
  mapBase : Nat
  mapStride : Nat
  budget : Nat
  deriving DecidableEq, Repr

/-- REGIONS: a memory region and what it is declared for (R213, R294, R299). -/
structure Region where
  base : Nat
  len : Nat
  hostWritable : Bool
  puppet : Bool
  shared : Bool
  deriving DecidableEq, Repr

/-- REGIONS: the configuration word of one exact reduction slot (R217). -/
structure SlotCfg where
  chest : Nat
  index : Nat
  c : Nat
  fixed : Bool
  enabled : Bool
  deriving DecidableEq, Repr

/-- ROUTES: the direction of the diagonal from one chest to another (R359, R361), and the edges the entry names. -/
structure RouteEnt where
  src : Nat
  dst : Nat
  dir : Nat
  edges : List Nat
  deriving DecidableEq, Repr

/-- QOS: regulator entries (master id, entry, word 0, word 1), host and port classes, cue shares by slice
chest * 9 + logical slice (R378). -/
structure QosSec where
  entries : List (Nat × Nat × Word32 × Word32)
  host0 : Nat
  host1 : Nat
  port : Nat
  shares : List (Nat × Nat)
  deriving DecidableEq, Repr

/-- Table 10-2: what a section holds. -/
inductive SecBody where
  | acts (count : Nat) (sched : List SchedEnt)
  | group (g : GroupSec)
  | slots (l : List SlotEnt)
  | routes (l : List RouteEnt)
  | cores (l : List CoreCfg)
  | desc (base : Nat) (l : List (List Byte))
  | chains (words : List Word64)
  | data (l : List DataEnt)
  | puppet (p : PupSec)
  | kv (g : KvGeo)
  | regions (l : List Region) (slots : List SlotCfg)
  | qos (q : QosSec)
  | power (mode : Nat) (steady : Bool)
  | other
  deriving DecidableEq, Repr

/-- R292: an entry of the section table with the section it names. -/
structure Section where
  type_ : Nat
  act : Nat
  chest : Nat
  unit : Nat
  reserved : Nat
  offset : Nat
  length : Nat
  body : SecBody
  deriving DecidableEq, Repr

/-- R291: an image: its 256 header bytes, its sections, the SHA-512 digest of everything before its signature, the
signature. -/
structure Image where
  header : List Byte
  sections : List Section
  digest : BitVec 512
  sig : BitVec 512
  deriving DecidableEq, Repr

/-- A section's content as a fetched image gives it: by its bytes, where the spec lays them out (GROUP, SLOTS); for ACTS the
act count, the place in the section of its 8-byte schedule entries and their number; by its fields where the spec gives
no bytes. (DESIGN CHOICE, log entry 87.) -/
inductive SecIn where
  | bytes
  | acts (count place n : Nat)
  | fields (b : SecBody)
  deriving DecidableEq, Repr

/-- R295: what the host's memory gave of an image: its bytes, up to a read that completed with an error. -/
structure ImageIn where
  ok : Bool
  bytes : List Byte
  content : List SecIn
  deriving DecidableEq, Repr

/-- R310: a close record. -/
structure CloseRec where
  rank : Nat
  epoch : Nat
  ready : Nat
  digest8 : Nat
  group : Nat
  deriving DecidableEq, Repr

/-! ### What commands carry -/

/-- R215: an atomic: as a memory request of 4 or 8 bytes; `swap` is the new value of a CAS. -/
structure AtomReq where
  src : ReqSrc
  mid : Nat
  host : Bool
  addr : Nat
  size : Nat
  v : Nat
  cmp : Nat
  deriving DecidableEq, Repr

/-- Tables 8-2 and 8-3: the fields of a puppet instruction but for its opcode, which the command names. -/
structure PupF where
  d : Nat
  a : Nat
  r : Nat
  inc : Bool
  bk : Nat
  fm : Nat
  lane : Nat
  b : Nat
  bs : Bool
  imm : Nat
  fn : Nat
  deriving DecidableEq, Repr

/-- R388: the ready requests of an arbiter (kind 0 slice port, 1 router output, 2 sideboard cache; chest; position;
resource): input, stamped level, master id; the time in ns since the last grant, and whether the resource is free or at
a break point. -/
structure ArbReq where
  kind : Nat
  chest : Nat
  pos : Nat
  res : Nat
  ready : List (Nat × Nat × Nat)
  waited : Nat
  free : Bool
  deriving DecidableEq, Repr

/-- R480: what a model update computes: model values by sensor, ceiling in W, resistance estimate, the sensor nearest
its soft limit 5 ms ahead with its forecast, whether a forecast crosses a soft limit, and whether the forecast at 1,400 W stays
below every soft limit. -/
structure ModelOut where
  model : List (Nat × Int)
  ceiling : Nat
  estimate : Nat
  fcSensor : Nat
  fcTemp : Int
  crosses : Bool
  sprintOk : Bool
  deriving DecidableEq, Repr

/-- A sensor conversion: reading in 0.1 °C, rise over the last 200 us less the model's, and over the last 2 ms, in
0.01 °C per ms. -/
structure SensorIn where
  reading : Int
  rise : Int
  rise2 : Int
  deriving DecidableEq, Repr

/-- R442, R505, R516: what the tests and the training of step 4 find: cores, slices (a failing sideboard cache as its
sideboard slice) and chests whose ECC checkers fail; failing items of a start-time self-test by (chest, kind) with
their count; (slice key, physical channel) that fail it, that fail the short eye check, and that fail full training;
cores whose connections fail. -/
structure SelfTestRes where
  eccCores : List Nat
  eccSlices : List Nat
  eccMesh : List Nat
  items : List (Nat × Nat × Nat)
  itemChans : List (Nat × Nat)
  itemCores : List Nat
  eyeFail : List (Nat × Nat)
  trainFail : List (Nat × Nat)
  deriving DecidableEq, Repr

end Sys2Proof
end

