-- ==== Sys2Proof/Syntax.lean ====
section
/-!
DEFINITION. The commands the part takes and the events its engines go through: one constructor per row of the table,
with what the environment chooses as operands; everything else a command needs is in the state. (DESIGN CHOICE, log entry 8.)
-/

namespace Sys2Proof

inductive Instr where
  /-- BAR0_BAD_ACCESS (R9) -/
  | bar0BadAccess (m : Master) (write : Bool) (off detail : Nat)
  /-- REG64_LO_READ (R10) -/
  | reg64LoRead (m : Master) (off : Nat)
  /-- REG64_HI_WRITE (R10) -/
  | reg64HiWrite (m : Master) (off v : Nat)
  /-- RC_READ (R11) -/
  | rcRead (m : Master) (off : Nat)
  /-- REGISTER_WRITE (R11) -/
  | registerWrite (m : Master) (off v hwSet : Nat)
  /-- POWER_UP (R543) -/
  | powerUp (inOrder : Bool)
  /-- POWER_REMOVAL (R544) -/
  | powerRemoval
  /-- BROWN_OUT (R545) -/
  | brownOut
  /-- VIO_EXCURSION (R545) -/
  | vioExcursion
  /-- VAON_EXCURSION (R545) -/
  | vaonExcursion
  /-- PERST_N_ASSERT (R549) -/
  | perstNAssert
  /-- PERST_N_RELEASE (R438) -/
  | perstNRelease (behavSel : Bool)
  /-- HOT_RESET (R399) -/
  | hotReset
  /-- LINK_DOWN (R399) -/
  | linkDown
  /-- FUNCTION_LEVEL_RESET (R399) -/
  | functionLevelReset (f : Nat)
  /-- BOOT_STEP_2 (R440) -/
  | bootStep2 (v : Nat) (fw park : HostRead)
  /-- BOOT_STEP_3 (R441) -/
  | bootStep3 (v faulted : Nat)
  /-- BOOT_STEP_4 (R442) -/
  | bootStep4 (v : Nat) (res : SelfTestRes)
  /-- BOOT_STEP_5 (R443) -/
  | bootStep5 (v badCores : Nat)
  /-- BOOT_STEP_6 (R444) -/
  | bootStep6 (v : Nat) (lic : HostRead)
  /-- BOOT_STEP_OUT_OF_ORDER (R439) -/
  | bootStepOutOfOrder (v : Nat)
  /-- BOOT_STEP_END (R439) -/
  | bootStepEnd (timeUs : Nat)
  /-- RESET_CORE (R450) -/
  | resetCore (v : Nat)
  /-- RESET_CLUSTER (R450) -/
  | resetCluster (v : Nat)
  /-- RESET_PARTITION (R452) -/
  | resetPartition (v : Nat)
  /-- UNIT_UNCORRECTABLE_RESET (R448) -/
  | unitUncorrectableReset (level chest target : Nat)
  /-- PARTIAL_RESET_END (R450) -/
  | partialResetEnd (level chest target badCores : Nat)
  /-- ISLAND_REGULATOR_FAULT (R455) -/
  | islandRegulatorFault (u : Nat)
  /-- ARR_SLOT_ISSUE (R78) -/
  | arrSlotIssue (u sub : Nat)
  /-- ARR_FILL_ROW (R82) -/
  | arrFillRow (u sub : Nat)
  /-- ARR_SLOT_COMPLETE (R80) -/
  | arrSlotComplete (u sub : Nat)
  /-- BLOCK_ROTATION (R92) -/
  | blockRotation (u sub : Nat)
  /-- DRAIN (R93) -/
  | drain (u sub : Nat)
  /-- ARR_HOLD (R100) -/
  | arrHold (u : Nat) (hold : Bool)
  /-- ARR_DUTY (R101) -/
  | arrDuty (u v : Nat)
  /-- DUTY_WINDOW (R101) -/
  | dutyWindow (u : Nat)
  /-- LANDING_WRITE (R557) -/
  | landingWrite (w : LandWrite)
  /-- EPILOGUE_INVOCATION (R106) -/
  | epilogueInvocation (u : Nat)
  /-- PROLOGUE_INVOCATION (R107) -/
  | prologueInvocation (u sub : Nat)
  /-- NOP (R119) -/
  | vNop (u : Nat) (f : VecF)
  /-- ADD (R119) -/
  | vAdd (u : Nat) (f : VecF)
  /-- SUB (R119) -/
  | vSub (u : Nat) (f : VecF)
  /-- MUL (R119) -/
  | vMul (u : Nat) (f : VecF)
  /-- FMA (R119) -/
  | vFma (u : Nat) (f : VecF)
  /-- FMS (R119) -/
  | vFms (u : Nat) (f : VecF)
  /-- MAX (R122) -/
  | vMax (u : Nat) (f : VecF)
  /-- MIN (R122) -/
  | vMin (u : Nat) (f : VecF)
  /-- UNA (R119) -/
  | vUna (u : Nat) (f : VecF)
  /-- CMP (R121) -/
  | vCmp (u : Nat) (f : VecF)
  /-- SEL (R119) -/
  | vSel (u : Nat) (f : VecF)
  /-- CVT (R129) -/
  | vCvt (u : Nat) (f : VecF)
  /-- EXP2 (R123) -/
  | vExp2 (u : Nat) (f : VecF)
  /-- LOG2 (R123) -/
  | vLog2 (u : Nat) (f : VecF)
  /-- RCP (R123) -/
  | vRcp (u : Nat) (f : VecF)
  /-- RSQRT (R123) -/
  | vRsqrt (u : Nat) (f : VecF)
  /-- SHUF (R121) -/
  | vShuf (u : Nat) (f : VecF)
  /-- RRED (R124) -/
  | vRred (u : Nat) (f : VecF)
  /-- STRD (R121) -/
  | vStrd (u : Nat) (f : VecF)
  /-- STWR (R121) -/
  | vStwr (u : Nat) (f : VecF)
  /-- PGEN (R127) -/
  | vPgen (u : Nat) (f : VecF)
  /-- PLOG (R121) -/
  | vPlog (u : Nat) (f : VecF)
  /-- LD (R128) -/
  | vLd (u : Nat) (f : VecF)
  /-- ST (R130) -/
  | vSt (u : Nat) (f : VecF)
  /-- SEND (R135) -/
  | vSend (u : Nat) (f : VecF)
  /-- SEND_ARRIVAL (R135) -/
  | sendArrival (u : Nat)
  /-- RECV (R135) -/
  | vRecv (u : Nat) (f : VecF)
  /-- SOP (R121) -/
  | vSop (u : Nat) (f : VecF)
  /-- MERGE (R152) -/
  | merge (u : Nat) (req : MergeReq)
  /-- DEFERRED_CHAIN (R160) -/
  | deferredChain (u : Nat)
  /-- FINISH_PASS (R164) -/
  | finishPass (u : Nat)
  /-- OPERATION_START (R175) -/
  | operationStart (u : Nat)
  /-- SHAPE_RECORD_READ (R174) -/
  | shapeRecordRead (u : Nat) (bad : Bool)
  /-- FETCH_UNIT (R173) -/
  | fetchUnit (u op : Nat) (isW : Bool)
  /-- MEMORY_READ (R194) -/
  | memoryRead (q : MemReq) (errs : List (Nat × BitVec 36))
  /-- MEMORY_WRITE (R194) -/
  | memoryWrite (q : MemReq)
  /-- PARTIAL_WRITE (R195) -/
  | partialWrite (q : MemReq) (errs : List (Nat × BitVec 36))
  /-- CORRECTED_WRITE_BACK (R198) -/
  | correctedWriteBack (u : Nat)
  /-- SCRUB_BURST (R200) -/
  | scrubBurst (u ch : Nat) (errs : List (Nat × BitVec 36))
  /-- REFRESH_DUE (R202) -/
  | refreshDue (u bank : Nat)
  /-- REFRESH (R202) -/
  | refresh (u bank : Nat)
  /-- ROW_REMAP (R206) -/
  | rowRemap (u bank row : Nat)
  /-- CHANNEL_RETIRE (R208) -/
  | channelRetire (u v : Nat)
  /-- CHANNEL_ERROR_THRESHOLD (R208) -/
  | channelErrorThreshold (u ch : Nat)
  /-- CHANNEL_RETRAIN_FAIL (R208) -/
  | channelRetrainFail (u ch : Nat)
  /-- CHANNEL_TO_SPARE (R209) -/
  | channelToSpare (u : Nat)
  /-- REWRITE_PASS_END (R209) -/
  | rewritePassEnd (u : Nat)
  /-- CHANNEL_CUT_OFF (R210) -/
  | channelCutOff (u : Nat)
  /-- ATOMIC_ADD (R215) -/
  | atomicAdd (q : AtomReq)
  /-- ATOMIC_FADD (R215) -/
  | atomicFadd (q : AtomReq)
  /-- ATOMIC_SMAX (R215) -/
  | atomicSmax (q : AtomReq)
  /-- ATOMIC_SMIN (R215) -/
  | atomicSmin (q : AtomReq)
  /-- ATOMIC_UMAX (R215) -/
  | atomicUmax (q : AtomReq)
  /-- ATOMIC_UMIN (R215) -/
  | atomicUmin (q : AtomReq)
  /-- ATOMIC_FMAX (R215) -/
  | atomicFmax (q : AtomReq)
  /-- ATOMIC_FMIN (R215) -/
  | atomicFmin (q : AtomReq)
  /-- ATOMIC_SWAP (R215) -/
  | atomicSwap (q : AtomReq)
  /-- ATOMIC_CAS (R215) -/
  | atomicCas (q : AtomReq)
  /-- SLOT_FP32_CONTRIBUTION (R68) -/
  | slotFp32Contribution (q : MemReq)
  /-- SLOT_FIXED_CONTRIBUTION (R68) -/
  | slotFixedContribution (q : MemReq)
  /-- SLOT_ZERO (R216) -/
  | slotZero (q : MemReq)
  /-- SLOT_READ (R218) -/
  | slotRead (q : MemReq)
  /-- MARGIN_TEST_START (R219) -/
  | marginTestStart (u v : Nat)
  /-- MARGIN_TEST_END (R219) -/
  | marginTestEnd (u errors : Nat)
  /-- RUN_SUBMIT (R237) -/
  | runSubmit (u : Nat) (rec_ : List Byte) (by_ : Submitter)
  /-- PUP_RUN_GO (R238) -/
  | pupRunGo (u : Nat) (m : Master)
  /-- RUN_START (R239) -/
  | runStart (u : Nat)
  /-- CUE_DISPATCH (R235) -/
  | cueDispatch (u : Nat)
  /-- CUE_END (R245) -/
  | cueEnd (u : Nat)
  /-- RETURN_RECORDS (R240) -/
  | returnRecords (u : Nat)
  /-- RUN_END (R241) -/
  | runEnd (u : Nat)
  /-- PUP_HALT (R248) -/
  | pupHalt (u : Nat) (halt : Bool)
  /-- PUP_NOP (R228) -/
  | pNop (u : Nat) (f : PupF) (iter : Nat)
  /-- LDC (R230) -/
  | pLdc (u : Nat) (f : PupF) (iter : Nat)
  /-- STC (R230) -/
  | pStc (u : Nat) (f : PupF) (iter : Nat)
  /-- CMUL (R228) -/
  | pCmul (u : Nat) (f : PupF) (iter : Nat)
  /-- CFMA (R228) -/
  | pCfma (u : Nat) (f : PupF) (iter : Nat)
  /-- CFMB (R228) -/
  | pCfmb (u : Nat) (f : PupF) (iter : Nat)
  /-- LDS (R228) -/
  | pLds (u : Nat) (f : PupF) (iter : Nat)
  /-- SACC (R236) -/
  | pSacc (u : Nat) (f : PupF) (iter : Nat)
  /-- BCV (R228) -/
  | pBcv (u : Nat) (f : PupF) (iter : Nat)
  /-- PUP_ADD (R228) -/
  | pAdd (u : Nat) (f : PupF) (iter : Nat)
  /-- PUP_MUL (R228) -/
  | pMul (u : Nat) (f : PupF) (iter : Nat)
  /-- PUP_FMA (R228) -/
  | pFma (u : Nat) (f : PupF) (iter : Nat)
  /-- PUP_MAX (R228) -/
  | pMax (u : Nat) (f : PupF) (iter : Nat)
  /-- LIM (R228) -/
  | pLim (u : Nat) (f : PupF) (iter : Nat)
  /-- RSUM (R228) -/
  | pRsum (u : Nat) (f : PupF) (iter : Nat)
  /-- RMAX (R228) -/
  | pRmax (u : Nat) (f : PupF) (iter : Nat)
  /-- PUP_EXP2 (R229) -/
  | pExp2 (u : Nat) (f : PupF) (iter : Nat)
  /-- EXP2R (R229) -/
  | pExp2r (u : Nat) (f : PupF) (iter : Nat)
  /-- PUP_SOP (R228) -/
  | pSop (u : Nat) (f : PupF) (iter : Nat)
  /-- PUTS (R240) -/
  | pPuts (u : Nat) (f : PupF) (iter : Nat)
  /-- PUTV (R240) -/
  | pPutv (u : Nat) (f : PupF) (iter : Nat)
  /-- END (R228) -/
  | pEnd (u : Nat) (f : PupF) (iter : Nat)
  /-- KV_CREATE (R271) -/
  | kvCreate (c : Nat)
  /-- KV_FORK (R272) -/
  | kvFork (c : Nat)
  /-- KV_APPEND (R273) -/
  | kvAppend (c : Nat)
  /-- KV_VERIFY_COMMIT (R284) -/
  | kvVerifyCommit (c : Nat)
  /-- KV_FREE (R273) -/
  | kvFree (c : Nat)
  /-- KV_OP_RESUME (R268) -/
  | kvOpResume (c : Nat)
  /-- KVM_HOLD (R290) -/
  | kvmHold (hold : Bool)
  /-- LAYOUT_LOAD (R295) -/
  | layoutLoad (v : Nat)
  /-- IMAGE_FETCH_END (R296) -/
  | imageFetchEnd (img : ImageIn)
  /-- LAYOUT_COMMIT (R297) -/
  | layoutCommit (failAt : Option Nat)
  /-- LAYOUT_START (R307) -/
  | layoutStart (v : Nat)
  /-- LAYOUT_UNLOAD (R300) -/
  | layoutUnload (v : Nat)
  /-- EPOCH_START (R307) -/
  | epochStart
  /-- SLOT_START (R309) -/
  | slotStart (i : Nat) (ready : Bool)
  /-- SEND_DATA_READY (R309) -/
  | sendDataReady (i : Nat) (fits : Bool)
  /-- MEMBER_READY (R310) -/
  | memberReady
  /-- EPOCH_BOUNDARY (R311) -/
  | epochBoundary
  /-- GROUP_BROKEN (R312) -/
  | groupBroken
  /-- ACT_SWITCH (R316) -/
  | actSwitch
  /-- FLIT_IDLE (R334) -/
  | flitIdle (p : Nat) (f : Flit)
  /-- SCHED (R337) -/
  | sched (p : Nat) (f : Flit)
  /-- FABRIC_READ (R331) -/
  | fabricRead (p : Nat) (f : Flit)
  /-- FABRIC_WRITE (R331) -/
  | fabricWrite (p : Nat) (f : Flit)
  /-- FABRIC_ATOMIC (R331) -/
  | fabricAtomic (p : Nat) (f : Flit)
  /-- FABRIC_DATA (R332) -/
  | fabricData (p : Nat) (f : Flit)
  /-- FABRIC_DONE (R332) -/
  | fabricDone (p : Nat) (f : Flit)
  /-- CLOSE (R351) -/
  | close (p : Nat) (f : Flit)
  /-- TIME (R350) -/
  | time (p : Nat) (f : Flit)
  /-- ASSIGN_ID (R347) -/
  | assignId (p : Nat) (f : Flit)
  /-- SET_BOUND (R349) -/
  | setBound (p : Nat) (f : Flit)
  /-- INIT (R336) -/
  | init (p : Nat) (f : Flit)
  /-- FLIT_DROPPED (R330) -/
  | flitDropped (p : Nat) (f : Flit)
  /-- FLIT_SEND (R335) -/
  | flitSend (p : Nat)
  /-- REPLAY_TIMEOUT (R340) -/
  | replayTimeout (p : Nat)
  /-- REQUEST_TIMEOUT (R348) -/
  | requestTimeout (tag : Nat)
  /-- TIME_SOURCE_LOSS (R350) -/
  | timeSourceLoss (p : Nat)
  /-- PORT_ENABLE (R343) -/
  | portEnable (p v : Nat)
  /-- PORT_RETRAIN (R343) -/
  | portRetrain (p : Nat)
  /-- PORT_LOOPBACK (R324) -/
  | portLoopback (p mode : Nat)
  /-- LANE_RETIRE (R342) -/
  | laneRetire (p lanes : Nat)
  /-- LANE_ERROR_WINDOW (R342) -/
  | laneErrorWindow (p lane errors codewords : Nat)
  /-- LANE_SIGNAL_LOSS (R342) -/
  | laneSignalLoss (p lane : Nat)
  /-- PORT_TRAINING_END (R341) -/
  | portTrainingEnd (p : Nat) (ok : Bool) (remote : Nat)
  /-- MESH_PACKET (R355) -/
  | meshPacket (chest router : Nat) (p : MeshPkt)
  /-- EDGE_FLIT_RECEIVE (R362) -/
  | edgeFlitReceive (k m : Nat) (f : EdgeFlit) (err : BitVec 8192)
  /-- EDGE_REPLAY_TIMEOUT (R363) -/
  | edgeReplayTimeout (k m : Nat)
  /-- EDGE_RETRAIN (R364) -/
  | edgeRetrain (k : Nat)
  /-- EDGE_FRAMING_LOSS (R364) -/
  | edgeFramingLoss (k : Nat)
  /-- EDGE_TRAINING_END (R364) -/
  | edgeTrainingEnd (k : Nat) (ms : EdgeMasks)
  /-- EDGE_FULL_RETRAIN (R365) -/
  | edgeFullRetrain (k : Nat)
  /-- EDGE_ATTEMPT_TIMEOUT (R366) -/
  | edgeAttemptTimeout (k : Nat)
  /-- EDGE_RETIRE (R366) -/
  | edgeRetire (k : Nat)
  /-- EDGE_STABLE (R366) -/
  | edgeStable (k : Nat)
  /-- REQUEST_LEAVE (R379) -/
  | requestLeave (q : PortReq)
  /-- ARBITER_GRANT (R388) -/
  | arbiterGrant (a : ArbReq)
  /-- SCALE_FACTOR_ARRIVE (R386) -/
  | scaleFactorArrive (master slice : Nat)
  /-- QOS_COMMIT (R390) -/
  | qosCommit (v : Nat)
  /-- STARVATION (R392) -/
  | starvation (arb input : Nat)
  /-- BAR2_READ (R396) -/
  | bar2Read (addr len : Nat)
  /-- BAR2_WRITE (R396) -/
  | bar2Write (addr : Nat) (bytes : List Byte) (enables : List Bool)
  /-- POISONED_WRITE (R396) -/
  | poisonedWrite (addr : Nat)
  /-- FETCHADD (R397) -/
  | fetchadd (addr size v : Nat)
  /-- SWAP_ATOMICOP (R397) -/
  | swapAtomicop (addr size v : Nat)
  /-- CAS_ATOMICOP (R397) -/
  | casAtomicop (addr size cmp v : Nat)
  /-- DOORBELL (R402) -/
  | doorbell (t v : Nat)
  /-- CQ_HEAD (R401) -/
  | cqHead (t v : Nat)
  /-- TRAY_ENABLE (R401) -/
  | trayEnable (t v : Nat)
  /-- TRAY_DISABLE (R399) -/
  | trayDisable (t v : Nat)
  /-- TRAY_FETCH (R403) -/
  | trayFetch (t : Nat) (data : List HostRead)
  /-- ENTRY_ACCEPT (R403) -/
  | entryAccept (t : Nat) (indexOk : Bool)
  /-- ENTRY_DISPATCH (R407) -/
  | entryDispatch (t jid : Nat)
  /-- WORK_FINISH (R408) -/
  | workFinish (u : Nat)
  /-- COPY_IN (R409) -/
  | copyIn (jid : Nat) (data : List HostRead)
  /-- COPY_OUT (R409) -/
  | copyOut (jid : Nat) (rejectAt : Option Nat)
  /-- COMPLETION_RECORD_WRITE (R410) -/
  | completionRecordWrite (t : Nat)
  /-- REQCLASS (R423) -/
  | reqclass (i v : Nat)
  /-- WDKICK (R428) -/
  | wdkick (i : Nat)
  /-- WATCHDOG_EXPIRY (R428) -/
  | watchdogExpiry (i : Nat)
  /-- HEARTBEAT (R428) -/
  | heartbeat (answered : Nat)
  /-- PIGEONHOLE_SEND (R433) -/
  | pigeonholeSend (m : Master) (i : Nat)
  /-- PIGEONHOLE_TAKE (R433) -/
  | pigeonholeTake (m : Master) (i : Nat)
  /-- MBX_BIND_WRITE (R432) -/
  | mbxBindWrite (m : Master) (i v : Nat)
  /-- MBX_LOCK (R432) -/
  | mbxLock (m : Master) (v : Nat)
  /-- MCTP_SEND (R436) -/
  | mctpSend (bytes : List Byte)
  /-- MCTP_OTHER (R436) -/
  | mctpOther (bytes : List Byte)
  /-- LOG_PATH_RETURN (R466) -/
  | logPathReturn (c : Nat)
  /-- LOG_WORD0_READ (R467) -/
  | logWord0Read (m : Master) (slot : Nat)
  /-- ERR_INJECT_ARM (R475) -/
  | errInjectArm (m : Master) (v : Nat)
  /-- INT_ENABLE_WRITE (R473) -/
  | intEnableWrite (v : Nat)
  /-- POWER_SAMPLE (R476) -/
  | powerSample (pkg : Nat) (chests : List Nat) (islands : List (Nat × Nat))
  /-- THERMAL_MODEL_UPDATE (R480) -/
  | thermalModelUpdate (c : Nat) (md : ModelOut)
  /-- SENSOR_SAMPLE (R482) -/
  | sensorSample (c i : Nat) (x : SensorIn)
  /-- FALLBACK_RELEASE (R482) -/
  | fallbackRelease (c i : Nat)
  /-- BUDGET_EXCHANGE (R486) -/
  | budgetExchange (c withheld : Nat)
  /-- BUDGET_MESSAGE (R486) -/
  | budgetMessage (c from_ demand ceiling : Nat)
  /-- BUDGET_MISSING (R486) -/
  | budgetMissing (c from_ : Nat)
  /-- PACKAGE_CHECK (R487) -/
  | packageCheck
  /-- GOVERNOR_UPDATE (R488) -/
  | governorUpdate (c : Nat)
  /-- SPRINT_WINDOW_CLOSE (R484) -/
  | sprintWindowClose (early : Bool) (ms : Nat)
  /-- PWR_MODE_WRITE (R483) -/
  | pwrModeWrite (v : Nat)
  /-- PWR_CAP_WRITE (R483) -/
  | pwrCapWrite (v : Nat)
  /-- PWRBRK_N_ASSERT (R485) -/
  | pwrbrkNAssert
  /-- PWRBRK_N_RELEASE (R485) -/
  | pwrbrkNRelease
  /-- THM_COOLANT_WRITE (R481) -/
  | thmCoolantWrite (v : Nat)
  /-- COOLANT_STALE (R481) -/
  | coolantStale
  /-- COOLING_DEGRADED (R492) -/
  | coolingDegraded
  /-- COOLING_RECOVERED (R492) -/
  | coolingRecovered
  /-- COOL_FAULT_N_ASSERT (R493) -/
  | coolFaultNAssert
  /-- PAUSE_COMPLETE (R493) -/
  | pauseComplete
  /-- PAUSED_REQUEST_TIMEOUT (R494) -/
  | pausedRequestTimeout
  /-- RESUME (R495) -/
  | resume
  /-- DISAGREE_WINDOW_END (R498) -/
  | disagreeWindowEnd (c h : Nat)
  /-- BST_PARK (R507) -/
  | bstPark (v : Nat) (x : Supplies)
  /-- PARK_TEST_END (R507) -/
  | parkTestEnd (fails : Nat) (chans : List (Nat × Nat)) (cores : List Nat) (lost : Bool)
  /-- SUPPLY_SAMPLE (R509) -/
  | supplySample (x : Supplies)
  /-- TOKEN_REGISTER_OWNER_KEY (R525) -/
  | tokenRegisterOwnerKey (x : Supplies)
  /-- TOKEN_REVOKE_OWNER_KEY (R525) -/
  | tokenRevokeOwnerKey (x : Supplies)
  /-- TOKEN_DEBUG_UNLOCK (R527) -/
  | tokenDebugUnlock
  /-- FUSE_BURN_END (R525) -/
  | fuseBurnEnd (ok : Bool)
  /-- DEBUG_ZERO_END (R528) -/
  | debugZeroEnd
  /-- JTAG_BYPASS (R529) -/
  | jtagBypass
  /-- JTAG_IDCODE (R529) -/
  | jtagIdcode
  /-- JTAG_SAMPLE_PRELOAD (R529) -/
  | jtagSamplePreload
  /-- JTAG_EXTEST (R529) -/
  | jtagExtest
  /-- JTAG_CLAMP (R529) -/
  | jtagClamp
  /-- JTAG_PRIVATE (R529) -/
  | jtagPrivate (ir : Nat)
  /-- GET_VERSION (R532) -/
  | getVersion
  /-- GET_CAPABILITIES (R532) -/
  | getCapabilities
  /-- NEGOTIATE_ALGORITHMS (R532) -/
  | negotiateAlgorithms (common : Bool)
  /-- GET_DIGESTS (R532) -/
  | getDigests
  /-- GET_CERTIFICATE (R520) -/
  | getCertificate (slot offset length : Nat)
  /-- CHALLENGE (R532) -/
  | challenge (slot : Nat) (nonce : List Byte)
  /-- GET_MEASUREMENTS (R533) -/
  | getMeasurements (index : Nat) (signed_ : Bool) (nonce : List Byte)
  /-- KEY_EXCHANGE (R532) -/
  | keyExchange (slot : Nat)
  /-- FINISH_SPDM (R532) -/
  | finishSpdm (session : Nat) (ok : Bool)
  /-- SPDM_HEARTBEAT (R532) -/
  | spdmHeartbeat (session : Nat)
  /-- KEY_UPDATE (R532) -/
  | keyUpdate (session : Nat)
  /-- END_SESSION (R532) -/
  | endSession (session : Nat)
  /-- SPDM_UNSUPPORTED (R532) -/
  | spdmUnsupported (code : Nat)
  /-- IDE_KM (R534) -/
  | ideKm (session stream msg sub keySet : Nat) (key : BitVec 256)
  /-- BAD_FLIT_RECEIVED (R339) -/
  | badFlitReceived (p : Nat) (b : List Byte) (uncorr : Bool)
  /-- EDGE_LANE_REPAIR (R364) -/
  | edgeLaneRepair (k m : Nat) (mask : Word64)
  /-- SENSOR_NO_CONVERSION (R499) -/
  | sensorNoConversion (c i : Nat)
  /-- COOL_FAULT_N_RELEASE (R495) -/
  | coolFaultNRelease
  /-- CONTROL_CORE_START (R429) -/
  | controlCoreStart (i : Nat)
  /-- MCTP_ROUTE_TO_BMC (R436) -/
  | mctpRouteToBmc
  /-- PLINTH_FLOOR_FAILURE (R32) -/
  | plinthFloorFailure (c : Nat)
  /-- TOKEN_REFUSED_KIND (R523) -/
  | tokenRefusedKind
  /-- KV_UNLISTED_OP (R266) -/
  | kvUnlistedOp (c : Nat)
  /-- RESET_LEVEL_REFUSED (R459) -/
  | resetLevelRefused (v : Nat)
  deriving DecidableEq, Repr

end Sys2Proof
end

