-- ==== Sys2Proof/Decode.lean ====
section
/-!
DEFINITION. Commands spelled as words. The table gives no row any bits (a command reaches the part as a register access,
a message or an event of its own), so no word spells one.
-/

namespace Sys2Proof

/-- The command a word of the table spells: none, for every row. (DESIGN CHOICE, log entry 10.) -/
def decodeTableWord (_nbits _w : Nat) : Option Instr := none

end Sys2Proof
end

