-- ==== Sys2Proof/Config.lean ====
section
/-!
DEFINITION. What one implementation fixes and the spec leaves open. Every constant here has no body: nothing can
evaluate it, so a statement about it holds for every value it could have.
-/

namespace Sys2Proof.Config

open Sys2Proof

/-- R123: EXP2 is within 1 ulp of the exact value and returns the same bits for the same operand everywhere.
Which of the values within the bound it returns, per operand in units of 2^-149: 0 toward zero, 1 the nearest, 2 away from
zero. (DESIGN CHOICE, log entry 23.) -/
opaque exp2Ulp : Int → Fin 3

/-- R123: as `exp2Ulp`, for LOG2, per operand bits. (DESIGN CHOICE, log entry 23.) -/
opaque log2Ulp : Word32 → Fin 3

/-- R197: three or more symbols in error may go undetected; whether a sector with this error mask is detected.
(DESIGN CHOICE, log entry 15.) -/
opaque undetected : Nat → BitVec 36 → Bool

/-- R507, R289: what a byte reads as where the spec calls the contents undefined (after a park; key-value tables
after a whole-device reset). First argument: the free-value counter when the contents were lost.
(DESIGN CHOICE, log entry 14.) -/
opaque lostByte : Nat → Nat → Byte

/-- R213: the way the sideboard cache gives up when a set is full, per line address and counter.
(DESIGN CHOICE, log entry 16.) -/
opaque victimWay : Nat → Nat → Fin 16

/-- SHA-512 of a byte string (R293, R426, R513, R533): the spec names the function and this model does not compute it.
(DESIGN CHOICE, log entry 51.) -/
opaque sha512 : List Byte → BitVec 512

/-- R518: whether an Ed25519 signature verifies under a key (key, message, signature). (DESIGN CHOICE, log entry 51.) -/
opaque ed25519Ok : BitVec 256 → List Byte → BitVec 512 → Bool

/-- R518: the Ed25519 signature of a message under a private seed. -/
opaque ed25519Sign : BitVec 256 → List Byte → BitVec 512

/-- R519: the public key of a seed. -/
opaque ed25519Pub : BitVec 256 → BitVec 256

/-- R518: the vendor public key held in the boot ROM. -/
opaque vendorKey : BitVec 256

/-- R519: the fused 256-bit device secret. -/
opaque deviceSecret : BitVec 256

/-- R533: the boot ROM image behind measurement 1. -/
opaque bootRom : List Byte

/-- R520: certificate slot 0, whose bytes the spec does not give. -/
opaque certChain : List Byte

/-- R532: the body of an SPDM response the spec takes from DSP0274 and does not spell out, per request code and
counter. -/
opaque spdmBody : Nat → Nat → List Byte

/-- R513: the challenge the security engine draws at a PERST_N release, by draw number. (DESIGN CHOICE, log entry 74.) -/
opaque challenge : Nat → BitVec 256

/-- R511: trained values of one physical channel (2 KiB), by chest, core, channel and counter. -/
opaque trainedValues : Nat → Nat → List Byte

/-- Table 9-3: the link of a free frame with no next free frame. -/
opaque lastLink : BitVec 22

/-- What a chain reads beyond the 40 MiB of a tile store, by offset and counter: no rule names the value.
(DESIGN CHOICE, log entry 27.) -/
opaque outsideTile : Nat → Nat → Byte

/-- R326: parity symbol i of a codeword, by its 514 message symbols. (DESIGN CHOICE, log entry 131.) -/
opaque fecParity : List Nat → Nat → BitVec 10

/-- A value the spec leaves open after a step that goes on: counter and width-free bits.
(DESIGN CHOICE, log entry 6; DEDUCED, log entry 78.) -/
opaque freeBits : Nat → (w : Nat) → BitVec w

end Sys2Proof.Config
end

