-- ==== Sys2Proof/Machine/Num.lean ====
section
/-!
DEFINITION. Number formats and their arithmetic (chapter 02): exact values, the element encodings of Table 2-2,
rounding and conversion (R47-R50), FP32 operations (R39-R42, R122, R123), microscaling (R43-R46), the exact path
(R54-R60) and the triple split (R51-R53).
-/

namespace Sys2Proof.Num

open Sys2Proof

/-- An exact value: NaN, a signed infinity, or (-1)^neg * m * 2^e (a zero keeps its sign). -/
inductive Val where
  | nan
  | inf (neg : Bool)
  | fin (neg : Bool) (m : Nat) (e : Int)
  deriving DecidableEq, Repr

/-- Floating-point layout of Table 2-2: exponent bits, mantissa bits, bias, largest finite magnitude bits, and
whether the all-ones exponent holds infinity and NaN (`ieee`), or only S.1111.111 is NaN (`e4m3`). -/
structure Fmt where
  ebits : Nat
  mbits : Nat
  bias : Nat
  maxBits : Nat
  ieee : Bool
  e4m3 : Bool
  nanBits : Nat
  deriving DecidableEq, Repr

def fp32 : Fmt := ⟨8, 23, 127, 0x7F7FFFFF, true, false, 0x7FC00000⟩
def bf16 : Fmt := ⟨8, 7, 127, 0x7F7F, true, false, 0x7FC0⟩
def fp16 : Fmt := ⟨5, 10, 15, 0x7BFF, true, false, 0x7E00⟩
def e4m3 : Fmt := ⟨4, 3, 7, 0x7E, false, true, 0x7F⟩
def e5m2 : Fmt := ⟨5, 2, 15, 0x7B, true, false, 0x7E⟩
def e3m2 : Fmt := ⟨3, 2, 3, 0x1F, false, false, 0⟩
def e2m3 : Fmt := ⟨2, 3, 1, 0x1F, false, false, 0⟩
def e2m1 : Fmt := ⟨2, 1, 1, 0x7, false, false, 0⟩

/-- Floating-point layout of a format code of Table 2-1; integer formats and reserved codes have none. -/
def fmtOf : Nat → Option Fmt
  | 0x0 => some fp32
  | 0x1 => some bf16
  | 0x2 => some fp16
  | 0x3 => some e4m3
  | 0x4 => some e5m2
  | 0x5 => some e4m3
  | 0x6 => some e5m2
  | 0x7 => some e3m2
  | 0x8 => some e2m3
  | 0x9 => some e2m1
  | 0xC => some e2m1
  | 0xF => some fp32
  | _ => none

/-- Bits of one element of a format code (Table 2-2). -/
def elemBits : Nat → Nat
  | 0x0 | 0xF => 32
  | 0x1 | 0x2 => 16
  | 0x7 | 0x8 => 6
  | 0x9 | 0xC => 4
  | _ => 8

/-- Accumulation class exact (Table 2-1). -/
def isExact (c : Nat) : Bool :=
  c == 0x3 || c == 0x5 || c == 0x7 || c == 0x8 || c == 0x9 || c == 0xA || c == 0xB || c == 0xC

/-- Formats with one E8M0 scale per block of 32 (R43). -/
def isMx (c : Nat) : Bool :=
  c == 0x5 || c == 0x6 || c == 0x7 || c == 0x8 || c == 0x9 || c == 0xA

/-- R35: the accumulation path of a pair of operand codes; `none` where the pair is refused.
`some true` is the exact path. -/
def pairPath (a b : Nat) : Option Bool :=
  if a == 0x1 || a == 0x2 || a == 0xF || b == 0x1 || b == 0x2 || b == 0xF then
    if a == b then some false else none
  else if isExact a && isExact b then some true
  else if (a == 0x4 || a == 0x6 || isExact a) && (b == 0x4 || b == 0x6 || isExact b) then some false
  else none

/-- The exact value of an encoded element of a floating-point layout (R36). -/
def decodeF (f : Fmt) (bits : Nat) : Val :=
  let neg := (bits >>> (f.ebits + f.mbits)) % 2 == 1
  let ex := (bits >>> f.mbits) % 2 ^ f.ebits
  let mant := bits % 2 ^ f.mbits
  if f.ieee && ex == 2 ^ f.ebits - 1 then
    if mant == 0 then .inf neg else .nan
  else if f.e4m3 && bits % 2 ^ (f.ebits + f.mbits) == 0x7F then .nan
  else if ex == 0 then .fin neg mant (1 - (f.bias : Int) - f.mbits)
  else .fin neg (mant + 2 ^ f.mbits) ((ex : Int) - f.bias - f.mbits)

/-- The value of an integer element (INT8), or of an MXINT8 element with its factor 2^-6 (R37). -/
def decodeI (bits : Nat) (e : Int) : Val :=
  if bits % 256 < 128 then .fin false (bits % 256) e else .fin true (256 - bits % 256) e

/-- The element value of a format code (Table 2-2). Codes 0xD and 0xE hold nothing: NaN. -/
def decodeElem (code bits : Nat) : Val :=
  match fmtOf code with
  | some f => decodeF f bits
  | none => if code == 0xB then decodeI bits 0 else if code == 0xA then decodeI bits (-6) else .nan

/-- R45: multiply by 2^(scale - 127); a scale of 0xFF makes the element NaN. -/
def scaleVal (scale : Nat) : Val → Val
  | .nan => .nan
  | .inf n => if scale == 0xFF then .nan else .inf n
  | .fin n m e => if scale == 0xFF then .nan else .fin n m (e + (scale : Int) - 127)

def neg : Val → Val
  | .nan => .nan
  | .inf n => .inf (!n)
  | .fin n m e => .fin (!n) m e

def abs : Val → Val
  | .nan => .nan
  | .inf _ => .inf false
  | .fin _ m e => .fin false m e

def isZero : Val → Bool
  | .fin _ m _ => m == 0
  | _ => false

/-- R42: the exact product; infinity times zero is NaN. -/
def mul (a b : Val) : Val :=
  match a, b with
  | .nan, _ => .nan
  | _, .nan => .nan
  | .inf s, .inf t => .inf (xor s t)
  | .inf s, .fin t m _ => if m == 0 then .nan else .inf (xor s t)
  | .fin s m _, .inf t => if m == 0 then .nan else .inf (xor s t)
  | .fin s m e, .fin t n f => .fin (xor s t) (m * n) (e + f)

/-- The signed integer (-1)^neg * m * 2^(e - base), for base at or below e. -/
def alignTo (base : Int) (n : Bool) (m : Nat) (e : Int) : Int :=
  let k : Int := ((m <<< (e - base).toNat : Nat) : Int)
  if n then -k else k

/-- R41: the exact sum, with the sign of a zero result as IEEE 754-2019 round to nearest gives it. -/
def add (a b : Val) : Val :=
  match a, b with
  | .nan, _ => .nan
  | _, .nan => .nan
  | .inf s, .inf t => if s == t then .inf s else .nan
  | .inf s, .fin _ _ _ => .inf s
  | .fin _ _ _, .inf t => .inf t
  | .fin s m e, .fin t n f =>
    let base := if e ≤ f then e else f
    let z := alignTo base s m e + alignTo base t n f
    if z == 0 then .fin (s && t) 0 base
    else .fin (decide (z < 0)) z.natAbs base

/-- Strict order of two values neither of which is NaN (-0 equals +0). -/
def lt (a b : Val) : Bool :=
  match a, b with
  | .nan, _ => false
  | _, .nan => false
  | .inf s, .inf t => s && !t
  | .inf s, .fin _ _ _ => s
  | .fin _ _ _, .inf t => !t
  | .fin s m e, .fin t n f =>
    let base := if e ≤ f then e else f
    decide (alignTo base s m e < alignTo base t n f)

def isNan : Val → Bool
  | .nan => true
  | _ => false

/-- Equal values (R121): -0 equals +0, NaN equals nothing. -/
def veq (a b : Val) : Bool := !isNan a && !isNan b && !lt a b && !lt b a

/-- Rounding modes of Table 2-3; codes 5 to 7 are refused at load. -/
inductive Rm where
  | rne | rtz | rup | rdn | rna
  deriving DecidableEq, Repr

def rmOf : Nat → Rm
  | 1 => .rtz
  | 2 => .rup
  | 3 => .rdn
  | 4 => .rna
  | _ => .rne

/-- Does the mode round the quotient q (remainder r of 2^sh) away from zero? -/
def roundsUp (rm : Rm) (n : Bool) (q r sh : Nat) : Bool :=
  match rm with
  | .rtz => false
  | .rup => r != 0 && !n
  | .rdn => r != 0 && n
  | .rna => decide (2 ^ sh ≤ 2 * r) && r != 0
  | .rne => decide (2 ^ sh < 2 * r) || (2 * r == 2 ^ sh && r != 0 && q % 2 == 1)

/-- m * 2^e rounded to a multiple of 2^lsb, as the multiple. -/
def roundAt (rm : Rm) (n : Bool) (m : Nat) (e lsb : Int) : Nat :=
  if lsb ≤ e then m <<< (e - lsb).toNat
  else
    -- beyond log2 m + 2 places the quotient is 0 and the remainder is below half, however far the places go
    let sh := min (lsb - e).toNat (Nat.log2 m + 2)
    let q := m >>> sh
    let r := m % 2 ^ sh
    if roundsUp rm n q r sh then q + 1 else q

/-- Magnitude bits of m * 2^e rounded to the layout with an unbounded exponent (R47); a value above `maxBits` is an
overflow. -/
def roundMag (f : Fmt) (rm : Rm) (n : Bool) (m : Nat) (e : Int) : Nat :=
  if m == 0 then 0
  else
    let emin : Int := 1 - (f.bias : Int) - f.mbits
    let top : Int := (Nat.log2 m : Int) + e - f.mbits
    let lsb := if emin ≤ top then top else emin
    (lsb - emin).toNat * 2 ^ f.mbits + roundAt rm n m e lsb

def signBit (f : Fmt) (n : Bool) : Nat := if n then 2 ^ (f.ebits + f.mbits) else 0

/-- Does the mode bring a magnitude above the range down to the largest finite value (Table 2-4, last paragraph)? -/
def truncates (rm : Rm) (n : Bool) : Bool :=
  match rm with
  | .rtz => true
  | .rup => n
  | .rdn => !n
  | _ => false

/-- Outcome of a conversion: the bits, and whether it sets conv_overflow and conv_invalid (R132). -/
structure Conv where
  bits : Nat
  ovf : Bool
  inv : Bool
  deriving DecidableEq, Repr

/-- Table 2-4: what an infinity or an overflow is written as. -/
def infBits (f : Fmt) (sat n : Bool) : Nat :=
  if sat then signBit f n + f.maxBits
  else if f.ieee then signBit f n + (2 ^ f.ebits - 1) * 2 ^ f.mbits
  else if f.e4m3 then f.nanBits
  else signBit f n + f.maxBits

/-- R47-R49: conversion to a floating-point layout. -/
def convF (f : Fmt) (rm : Rm) (sat : Bool) : Val → Conv
  | .nan => if f.ieee || f.e4m3 then ⟨f.nanBits, false, false⟩ else ⟨0, false, true⟩
  | .inf n => ⟨infBits f sat n, false, false⟩
  | .fin n m e =>
    let b := roundMag f rm n m e
    if f.maxBits < b then
      ⟨if truncates rm n then signBit f n + f.maxBits else infBits f sat n, true, false⟩
    else ⟨signBit f n + b, false, false⟩

/-- R50: conversion to an eight-bit integer at weight 2^lsb, clamped to lo..127. -/
def convI (lsb : Int) (lo : Nat) (rm : Rm) : Val → Conv
  | .nan => ⟨0, false, true⟩
  | .inf n => ⟨if n then 256 - lo else 127, false, false⟩
  | .fin n m e =>
    let q := roundAt rm n m e lsb
    if n then ⟨(256 - (if lo < q then lo else q)) % 256, decide (128 < q), false⟩
    else ⟨if 127 < q then 127 else q, decide (127 < q), false⟩

/-- Conversion to a format code (R47-R50). An MXINT8 element saturates to 127/64 in magnitude (R129). -/
def conv (code : Nat) (rm : Rm) (sat : Bool) (v : Val) : Conv :=
  match fmtOf code with
  | some f => convF f rm sat v
  | none => if code == 0xA then convI (-6) 127 rm v else convI 0 128 rm v

/-! ### FP32 operations (R122): every value is held as its bits. -/

def val (w : Word32) : Val := decodeF fp32 w.toNat

/-- Round to FP32, to nearest even, NaN as the canonical NaN (R40). -/
def rne (v : Val) : Word32 := BitVec.ofNat 32 (convF fp32 .rne false v).bits

def nanW : Word32 := 0x7FC00000#32
def pInf : Word32 := 0x7F800000#32
def nInf : Word32 := 0xFF800000#32
def zeroW : Word32 := 0#32
def oneW : Word32 := 0x3F800000#32

def isNanW (w : Word32) : Bool := isNan (val w)

def addW (a b : Word32) : Word32 := rne (add (val a) (val b))
def subW (a b : Word32) : Word32 := rne (add (val a) (neg (val b)))
def mulW (a b : Word32) : Word32 := rne (mul (val a) (val b))
/-- a * b + c with one rounding. -/
def fmaW (a b c : Word32) : Word32 := rne (add (mul (val a) (val b)) (val c))
def fmsW (a b c : Word32) : Word32 := rne (add (mul (val a) (val b)) (neg (val c)))

/-- R122: maximum; NaN when either operand is NaN; -0 below +0. -/
def maxW (a b : Word32) : Word32 :=
  if isNanW a || isNanW b then nanW
  else if lt (val a) (val b) then b
  else if lt (val b) (val a) then a
  else if a.msb then b else a

def minW (a b : Word32) : Word32 :=
  if isNanW a || isNanW b then nanW
  else if lt (val a) (val b) then a
  else if lt (val b) (val a) then b
  else if a.msb then a else b

/-- R40: an operation whose result is NaN writes the canonical NaN. -/
def canon (w : Word32) : Word32 := if isNanW w then nanW else w

def absW (a : Word32) : Word32 := canon (a &&& 0x7FFFFFFF#32)
def negW (a : Word32) : Word32 := canon (a ^^^ 0x80000000#32)

/-- A quotient 2^k / m kept with a sticky bit below it: (2 * floor + (remainder ≠ 0)). -/
def stickyDiv (k m : Nat) : Nat := 2 * (2 ^ k / m) + (if 2 ^ k % m == 0 then 0 else 1)

/-- R123: 1 / a, correctly rounded. -/
def rcpW (a : Word32) : Word32 :=
  match val a with
  | .nan => nanW
  | .inf n => if n then 0x80000000#32 else 0#32
  | .fin n m e =>
    if m == 0 then (if n then nInf else pInf)
    else
      let k := Nat.log2 m + 40
      rne (.fin n (stickyDiv k m) (-(k : Int) - 1 - e))

/-- Integer square root, bit by bit from 2^b. -/
def isqrtFrom : Nat → Nat → Nat → Nat
  | 0, n, acc => if (acc + 1) * (acc + 1) ≤ n then acc + 1 else acc
  | b + 1, n, acc =>
    let t := acc + 2 ^ (b + 1)
    isqrtFrom b n (if t * t ≤ n then t else acc)

def isqrt (n : Nat) : Nat := isqrtFrom (Nat.log2 n / 2 + 1) n 0

/-- R123: 1 / sqrt a, correctly rounded. -/
def rsqrtW (a : Word32) : Word32 :=
  match val a with
  | .nan => nanW
  | .inf n => if n then nanW else 0#32
  | .fin n m e =>
    if m == 0 then (if n then nInf else pInf)
    else if n then nanW
    else
      let m' := if e % 2 == 0 then m else 2 * m
      let e' := if e % 2 == 0 then e else e - 1
      let k := Nat.log2 m' / 2 + 34
      let r := isqrt (2 ^ (2 * k) / m')
      let st := if r * r * m' == 2 ^ (2 * k) then 0 else 1
      rne (.fin false (2 * r + st) (-(k : Int) - 1 - e' / 2))

/-- Fraction bits of the fixed-point arithmetic behind EXP2 and LOG2. -/
def fxBits : Nat := 96

/-- ln 2 * 2^96, rounded down. -/
def ln2Fx : Nat := 0xB17217F7D1CF79ABC9E3B398

/-- Terms t_(i+1) = t_i * z / (i + 1) added up. -/
def expSum (z : Nat) : Nat → Nat → Nat → Nat → Nat
  | 0, _, _, acc => acc
  | fuel + 1, i, term, acc =>
    let t := (term * z) / 2 ^ fxBits / (i + 1)
    expSum z fuel (i + 1) t (acc + t)

/-- 2^f for a fraction f at weight 2^-96, at weight 2^-96. -/
def exp2Frac (f : Nat) : Nat := expSum (f * ln2Fx / 2 ^ fxBits) 40 0 (2 ^ fxBits) (2 ^ fxBits)

/-- The FP32 neighbour below (by one ulp, in magnitude) of an exact result, or above it; the neighbour below a zero is the
smallest value of the other sign. -/
def ulpBelow (w : Word32) : Word32 := if w &&& 0x7FFFFFFF#32 == 0#32 then (w ^^^ 0x80000000#32) + 1#32 else w - 1#32
def ulpAbove (w : Word32) : Word32 := if w &&& 0x7FFFFFFF#32 == pInf then w else w + 1#32

/-- R123: an FP32 value within one ulp of a finite value: its two neighbours where it lies between two, itself and both of
its neighbours where it is one. From 2^128 on it is an infinity. (DESIGN CHOICE, log entry 23.) -/
def withinUlp (c : Fin 3) (n : Bool) (m : Nat) (e : Int) : Word32 :=
  let v : Val := .fin n m e
  let lo := BitVec.ofNat 32 (convF fp32 .rtz false v).bits
  let hi := BitVec.ofNat 32 (convF fp32 (if n then .rdn else .rup) false v).bits
  if 128 ≤ (Nat.log2 m : Int) + e then hi
  else match c with
  | 0 => if lo == hi then ulpBelow lo else lo
  | 1 => rne v
  | 2 => if lo == hi then ulpAbove hi else hi

/-- Floor of a finite value, the fraction above it at weight 2^-96 (truncated), and whether the truncation lost anything. -/
def floorFrac (n : Bool) (m : Nat) (e : Int) : Int × Nat × Bool :=
  if 0 ≤ e then
    (alignTo 0 n m e, 0, false)
  else
    let sh := (-e).toNat
    let z : Int := if n then -(m : Int) else m
    let fl := z / (2 ^ sh : Nat)
    let fr := (z - fl * (2 ^ sh : Nat)).toNat
    (fl, fr * 2 ^ fxBits / 2 ^ sh, fr * 2 ^ fxBits % 2 ^ sh != 0)

/-- 2^x as m * 2^e, from below; m is odd where the value lies strictly above (2^x is exact for an integer x only). -/
def exp2Exact (n : Bool) (m : Nat) (e : Int) : Nat × Int :=
  if 9 ≤ (Nat.log2 m : Int) + e ∧ m ≠ 0 then (1, if n then -512 else 512)
  else
    let p := floorFrac n m e
    (2 * exp2Frac p.2.1 + (if p.2.1 == 0 && !p.2.2 then 0 else 1), p.1 - fxBits - 1)

/-- 2^x correctly rounded to FP32. -/
def exp2Rounded (n : Bool) (m : Nat) (e : Int) : Word32 := let p := exp2Exact n m e; rne (.fin false p.1 p.2)

/-- R123: EXP2 of a finite value that is a multiple of 2^-149: a value within one ulp, which one the spec leaves open. -/
def exp2V (n : Bool) (m : Nat) (e : Int) : Word32 :=
  let p := exp2Exact n m e
  withinUlp (Config.exp2Ulp (alignTo (-149) n m e)) false p.1 p.2

/-- R123: EXP2 with its special cases. -/
def exp2W (a : Word32) : Word32 :=
  match val a with
  | .nan => nanW
  | .inf n => if n then 0#32 else pInf
  | .fin n m e => exp2V n m e

/-- Bits of log2 of x in [1, 2) at weight 2^-96, by repeated squaring. -/
def log2Frac : Nat → Nat → Nat → Nat
  | 0, _, acc => acc
  | fuel + 1, x, acc =>
    let y := x * x / 2 ^ fxBits
    if 2 ^ (fxBits + 1) ≤ y then log2Frac fuel (y / 2) (2 * acc + 1)
    else log2Frac fuel y (2 * acc)

/-- Number of fraction bits `log2Exact` computes. -/
def log2Steps : Nat := 72

/-- log2 of a positive value as sign, m and e, toward -infinity; m is odd where the value lies above (log2 is exact for powers
of two only). -/
def log2Exact (m : Nat) (e : Int) : Bool × Nat × Int :=
  let k := Nat.log2 m
  let f := log2Frac log2Steps (m * 2 ^ fxBits / 2 ^ k) 0
  let z : Int := (((k : Int) + e) * (2 ^ log2Steps : Nat) + f) * 2 + (if m == 2 ^ k then 0 else 1)
  (decide (z < 0), z.natAbs, -(log2Steps : Int) - 1)

/-- R123: LOG2. -/
def log2W (a : Word32) : Word32 :=
  match val a with
  | .nan => nanW
  | .inf n => if n then nanW else pInf
  | .fin n m e =>
    if m == 0 then nInf
    else if n then nanW
    else let p := log2Exact m e; withinUlp (Config.log2Ulp a) p.1 p.2.1 p.2.2

/-- The integer below a finite value (floor). -/
def floorVal : Val → Int
  | .fin n m e => (floorFrac n m e).1
  | _ => 0

/-- The integer at or above a finite value. -/
def ceilVal : Val → Int
  | .fin n m e => -(floorFrac (!n) m e).1
  | _ => 0

/-- An integer as FP32 (R144: references are integers small enough to be exact). -/
def ofIntW (z : Int) : Word32 := rne (.fin (decide (z < 0)) z.natAbs 0)

/-- ceil as FP32; infinities and NaN unchanged (Table 8-5, fn 4). -/
def ceilW (a : Word32) : Word32 :=
  match val a with
  | .fin _ _ _ =>
    let z := ceilVal (val a)
    if z == 0 then (if a.msb then 0x80000000#32 else 0#32) else ofIntW z
  | .nan => nanW
  | _ => a

/-- 2^k for an integer k, rounded to FP32. -/
def pow2W (k : Int) : Word32 := rne (.fin false 1 k)

/-- x - floor(x), exact, as its magnitude at a weight, with that weight (R145). -/
def fracOf (n : Bool) (m : Nat) (e : Int) : Nat × Int :=
  if 0 ≤ e then (0, 0)
  else
    let sh := (-e).toNat
    let z : Int := if n then -(m : Int) else m
    ((z % (2 ^ sh : Nat)).toNat, e)

/-- R145, R229: exp2(x - floor x) * 2^(floor x - r), one rounding; an infinite x. -/
def exp2Ref (x : Word32) (r : Int) : Word32 :=
  match val x with
  | .fin n m e =>
    let f := fracOf n m e
    rne (mul (val (exp2V false f.1 f.2)) (.fin false 1 ((floorFrac n m e).1 - r)))
  | .inf true => 0#32
  | .inf false => pInf
  | .nan => nanW

/-- R124: one level of the pairwise tree. -/
def pairLevel (op : Word32 → Word32 → Word32) : List Word32 → List Word32
  | a :: b :: t => op a b :: pairLevel op t
  | l => l

/-- R124: the pairwise tree, `fuel` levels. -/
def tree (op : Word32 → Word32 → Word32) : Nat → List Word32 → Word32
  | 0, l => l.headD zeroW
  | k + 1, l => tree op k (pairLevel op l)

/-- R124: rounded pairwise sum of 2^k lanes. -/
def treeSum (k : Nat) (l : List Word32) : Word32 := tree addW k l

/-- Maximum of a list of lanes (R122, R124); -inf for none. -/
def maxList (l : List Word32) : Word32 := l.foldl maxW nInf
def minList (l : List Word32) : Word32 := l.foldl minW pInf

/-! ### Microscaling (R43-R46) -/

/-- R46: emax of an element format. -/
def emaxOf : Nat → Int
  | 0x5 => 8
  | 0x6 => 15
  | 0x7 => 4
  | 0x8 => 2
  | 0x9 => 2
  | _ => 0

/-- floor(log2 |x|) of a nonzero finite value. -/
def expOf : Val → Int
  | .fin _ m e => (Nat.log2 m : Int) + e
  | _ => 0

/-- R46, R129: quantise the active lanes of one group of 32: its scale byte and each lane's element. -/
def mxScale (code : Nat) (xs : List Word32) : Nat :=
  let vs := xs.map val
  if vs.any (fun v => match v with | .fin _ _ _ => false | _ => true) then 0xFF
  else
    let amax := vs.foldl (fun a v => if lt (abs a) (abs v) then v else a) (.fin false 0 0)
    if isZero amax then 0
    else
      let e := expOf amax - emaxOf code
      let e' := if e < -127 then -127 else if 127 < e then 127 else e
      (e' + 127).toNat

/-- R46: an element of a quantised group under its scale byte; it always saturates. -/
def mxElem (code : Nat) (rm : Rm) (scale : Nat) (x : Word32) : Nat :=
  if scale == 0xFF then 0
  else (conv code rm true (mul (val x) (.fin false 1 (127 - (scale : Int))))).bits

/-- R46, R129: one group of up to 32 lanes, inactive ones absent: its elements and its scale. Where every active lane is a
zero, every element is 0. -/
def mxGroup (code : Nat) (rm : Rm) (g : List (Option Word32)) : List (Option Nat) × Option Nat :=
  let a := g.filterMap (fun x => x)
  let sc := mxScale code a
  let zero := a.all (fun x => isZero (val x))
  (g.map (fun x => x.map (fun v => if zero then 0 else mxElem code rm sc v)), if a.isEmpty then none else some sc)

/-! ### The exact path (R54-R60) -/

/-- A partial sum of the exact path with its three sticky bits (R58). -/
structure Fixed where
  q : BitVec 64
  nan : Bool
  ovf : Bool
  lost : Bool
  deriving DecidableEq, Repr

def Fixed.zero : Fixed := ⟨0#64, false, false, false⟩

/-- R55, R56: one exact term under scale ceiling C. -/
def fixedTerm (c : Int) : Val → Fixed
  | .nan => ⟨0#64, true, false, false⟩
  | .inf _ => ⟨0#64, true, false, false⟩
  | .fin n m e =>
    if m == 0 then Fixed.zero
    else if c ≤ (Nat.log2 m : Int) + e then
      ⟨BitVec.ofInt 64 (if n then -(2 ^ 44 - 1) else 2 ^ 44 - 1), false, true, false⟩
    else
      let lsb := c - 44
      let q := roundAt .rtz n m e lsb
      let back := decide (e < lsb) && m % 2 ^ (lsb - e).toNat != 0
      ⟨BitVec.ofInt 64 (if n then -(q : Int) else q), false, false, back⟩

/-- R57, R58: partial sums add modulo 2^64 and their sticky bits are ORed. -/
def Fixed.add (a b : Fixed) : Fixed := ⟨a.q + b.q, a.nan || b.nan, a.ovf || b.ovf, a.lost || b.lost⟩

/-- R60: conversion at the drain: the FP32 value and whether it overflowed. -/
def Fixed.drain (c : Int) (a : Fixed) : Word32 × Bool :=
  if a.nan then (nanW, false)
  else
    let z := a.q.toInt
    let r := convF fp32 .rne false (.fin (decide (z < 0)) z.natAbs (c - 44))
    (BitVec.ofNat 32 r.bits, r.ovf)

/-! ### The ordered path (R51-R53, R62) -/

/-- Truncate a value to a bf16-representable one, toward zero (R51). -/
def truncBf16 (v : Val) : Val :=
  match v with
  | .fin n m e => decodeF bf16 ((convF bf16 .rtz true (.fin n m e)).bits)
  | w => w

/-- R51: the three parts of an FP32 operand. -/
def split3 (v : Val) : Val × Val × Val :=
  let a0 := truncBf16 v
  let r1 := add v (neg a0)
  let a1 := truncBf16 r1
  let r2 := add r1 (neg a1)
  (a0, a1, truncBf16 r2)

/-- One ordered step: s + a*b rounded once (R62). -/
def stepO (s : Word32) (p : Val) : Word32 := rne (add (val s) p)

def isFin : Val → Bool
  | .fin _ _ _ => true
  | _ => false

/-- R52, R53: the six ordered steps of one k of a triple-split product. -/
def stepSplit (s : Word32) (a b : Val) : Word32 :=
  if isFin a && isFin b then
    let x := split3 a
    let y := split3 b
    [mul x.2.2 y.1, mul x.2.1 y.2.1, mul x.1 y.2.2, mul x.2.1 y.1, mul x.1 y.2.1, mul x.1 y.1].foldl stepO s
  else
    (List.replicate 5 (Val.fin false 0 0) ++ [mul a b]).foldl stepO s

end Sys2Proof.Num
end

