-- ==== Sys2Proof/Machine/Tables.lean ====
section
/-!
DEFINITION. Reading and writing a sparse table (`Tbl`): one canonical form, rising keys and no entry equal to what
an unlisted key reads as. Byte ranges of a byte table are little-endian.
-/

namespace Sys2Proof

variable {α : Type}

/-- The value under a key; an unlisted key reads as `d`. -/
def Tbl.get (d : α) : Tbl α → Nat → α
  | [], _ => d
  | (k, v) :: t, i => if i = k then v else Tbl.get d t i

/-- Put an entry before the first larger key. -/
def Tbl.insert (i : Nat) (v : α) : Tbl α → Tbl α
  | [] => [(i, v)]
  | (k, w) :: t => if i < k then (i, v) :: (k, w) :: t else (k, w) :: Tbl.insert i v t

/-- Write a key; writing the value an unlisted key reads as removes the entry. -/
def Tbl.set [DecidableEq α] (d : α) (t : Tbl α) (i : Nat) (v : α) : Tbl α :=
  let rest := t.filter (fun p => p.1 != i)
  if v = d then rest else Tbl.insert i v rest

/-- Change the value under a key. -/
def Tbl.modify [DecidableEq α] (d : α) (t : Tbl α) (i : Nat) (f : α → α) : Tbl α :=
  Tbl.set d t i (f (Tbl.get d t i))

/-- The canonical form. -/
abbrev Tbl.wf (d : α) (t : Tbl α) : Prop :=
  t.Pairwise (fun p q => p.1 < q.1) ∧ ∀ p ∈ t, p.2 ≠ d

/-- Write consecutive keys from `a`. -/
def Tbl.setList [DecidableEq α] (d : α) : Tbl α → Nat → List α → Tbl α
  | t, _, [] => t
  | t, a, v :: vs => Tbl.setList d (Tbl.set d t a v) (a + 1) vs

/-- Read `n` consecutive keys from `a`. -/
def Tbl.getList (d : α) (t : Tbl α) (a n : Nat) : List α := (List.range n).map (fun i => Tbl.get d t (a + i))

/-- Keep the entries whose key a test accepts (bulk clearing). -/
def Tbl.keep (t : Tbl α) (p : Nat → Bool) : Tbl α := t.filter (fun e => p e.1)

/-- Little-endian number of a byte list. -/
def leNat : List Byte → Nat
  | [] => 0
  | b :: t => b.toNat + 256 * leNat t

/-- The `n` low bytes of a number, little-endian. -/
def leBytes : Nat → Nat → List Byte
  | 0, _ => []
  | n + 1, v => BitVec.ofNat 8 (v % 256) :: leBytes n (v / 256)

/-- Bits [hi:lo] of a number. -/
def bits (v hi lo : Nat) : Nat := v / 2 ^ lo % 2 ^ (hi + 1 - lo)

/-- Bit i of a number. -/
def bit (v i : Nat) : Bool := v / 2 ^ i % 2 == 1

/-- Number of set bits among the low `n`. -/
def popcount : Nat → Nat → Nat
  | 0, _ => 0
  | n + 1, v => v % 2 + popcount n (v / 2)

/-- `v` with bit i set to `b`. -/
def setBit (v i : Nat) (b : Bool) : Nat :=
  if bit v i == b then v else if b then v + 2 ^ i else v - 2 ^ i

/-- Two's complement reading of the low `w` bits. -/
def signed (w v : Nat) : Int :=
  let m := v % 2 ^ w
  if m < 2 ^ (w - 1) then (m : Int) else (m : Int) - 2 ^ w

/-- The two's complement of an integer in `w` bits. -/
def unsigned (w : Nat) (z : Int) : Nat := (z % (2 ^ w : Nat)).toNat

/-- The number `n`-long bytes of a field at an offset in a byte list hold. -/
def fieldAt (bs : List Byte) (off n : Nat) : Nat := leNat ((bs.drop off).take n)

/-- Ceiling of a quotient. -/
def cdiv (a b : Nat) : Nat := (a + b - 1) / b

/-- Saturating increment. -/
def satAdd (cap a b : Nat) : Nat := if cap < a + b then cap else a + b

end Sys2Proof
end

