-- ==== Sys2Proof/Machine/Operands.lean ====
section
/-!
DEFINITION. The operation descriptor and what it makes of a run-time shape (chapter 06): the fields of Tables 6-1 and
6-2, tiles, blocks and folded rows (R179-R185), unit numbering (R181), and the element and scale addresses of X, W
and Y.
-/

namespace Sys2Proof.Machine

open Sys2Proof

/-- A descriptor is its 256 bytes (R168). -/
abbrev Desc := List Byte

namespace Desc

def kind (d : Desc) : Nat := fieldAt d 0x00 1
def mode (d : Desc) : Nat := bits (fieldAt d 0x01 1) 1 0
def subMap (d : Desc) : Nat := bits (fieldAt d 0x01 1) 3 2
def loopOrder (d : Desc) : Nat := bits (fieldAt d 0x01 1) 7 4
def fmtX (d : Desc) : Nat := bits (fieldAt d 0x02 1) 3 0
def fmtW (d : Desc) : Nat := bits (fieldAt d 0x02 1) 7 4
def fmtOut (d : Desc) : Nat := bits (fieldAt d 0x03 1) 3 0
def fmtStage (d : Desc) : Nat := bits (fieldAt d 0x03 1) 7 4
def fmtDef (d : Desc) : Nat := bits (fieldAt d 0x04 1) 3 0
def flags (d : Desc) : Nat := fieldAt d 0x05 1
def strict (d : Desc) : Bool := bit d.flags 0
def orderedSplit (d : Desc) : Bool := bit d.flags 1
def deferred (d : Desc) : Bool := bit d.flags 2
def tripleOut (d : Desc) : Bool := bit d.flags 3
def deferredIn (d : Desc) : Bool := bit d.flags 4
def hostVisible (d : Desc) : Bool := bit d.flags 5
/-- R54: the scale ceiling C. -/
def ceiling (d : Desc) : Int := signed 8 (fieldAt d 0x06 1)
def shapeSrc (d : Desc) : Nat := bits (fieldAt d 0x07 1) 1 0
def planM (d : Desc) : Nat := fieldAt d 0x08 4
def planN (d : Desc) : Nat := fieldAt d 0x0C 4
def planK (d : Desc) : Nat := fieldAt d 0x10 4
def planBatch (d : Desc) : Nat := fieldAt d 0x14 2
def planHeads (d : Desc) : Nat := fieldAt d 0x16 2
def group (d : Desc) : Nat := fieldAt d 0x18 1
def sa (d : Desc) : Nat := bits (fieldAt d 0x19 1) 3 0
def sb (d : Desc) : Nat := bits (fieldAt d 0x19 1) 7 4
def shapeLanding (d : Desc) : Nat := bits (fieldAt d 0x1A 2) 11 0
def tscaleX (d : Desc) : Nat := fieldAt d 0x1C 1
def tscaleW (d : Desc) : Nat := fieldAt d 0x1D 1
def tscaleOut (d : Desc) : Nat := fieldAt d 0x1E 1
def predPolicy (d : Desc) : Nat := bits (fieldAt d 0x1F 1) 1 0
def proChain (d : Desc) : Nat := fieldAt d 0x80 2
def epiChain (d : Desc) : Nat := fieldAt d 0x82 2
def defChain (d : Desc) : Nat := fieldAt d 0x84 2
def constBlock (d : Desc) : Nat := fieldAt d 0x88 4
def statsArea (d : Desc) : Nat := fieldAt d 0x8C 4
def sumArea (d : Desc) : Nat := fieldAt d 0x90 4
def proCopy (d : Desc) : Nat := fieldAt d 0x94 4
def defRegion (d : Desc) : Nat := fieldAt d 0x98 8
def defvecLanding (d : Desc) : Nat := bits (fieldAt d 0xA0 2) 11 0
def defvecTarget (d : Desc) : Nat := fieldAt d 0xA2 2
def definLanding (d : Desc) : Nat := bits (fieldAt d 0xA4 2) 11 0
def partner (d : Desc) : Nat := fieldAt d 0xA6 2
def kFirst (d : Desc) : Nat := fieldAt d 0xA8 4
def kTotal (d : Desc) : Nat := fieldAt d 0xAC 4
def holder (d : Desc) : Nat := fieldAt d 0xB0 2
def holders (d : Desc) : Nat := fieldAt d 0xB2 2
def owner (d : Desc) : Nat := fieldAt d 0xB4 4
def partialLanding (d : Desc) : Nat := bits (fieldAt d 0xB8 2) 11 0
def outTag (d : Desc) : Nat := fieldAt d 0xBA 2
def next (d : Desc) : Nat := fieldAt d 0xBC 2
def nextValid (d : Desc) : Bool := bit (fieldAt d 0xBE 2) 0

/-- R168: every reserved byte and bit of Table 6-1 that must be zero. -/
def reservedOk (d : Desc) : Bool :=
  bits (fieldAt d 0x04 1) 7 4 == 0 && bits d.flags 7 6 == 0 && bits (fieldAt d 0x07 1) 7 2 == 0 &&
  bits (fieldAt d 0x1A 2) 15 12 == 0 && bits (fieldAt d 0x1F 1) 7 2 == 0 &&
  bits d.proChain 14 10 == 0 && bits d.epiChain 14 10 == 0 && bits d.defChain 14 10 == 0 && fieldAt d 0x86 2 == 0 &&
  bits (fieldAt d 0xA0 2) 15 12 == 0 && bits d.defvecTarget 14 5 == 0 && bits (fieldAt d 0xA4 2) 15 12 == 0 &&
  bits d.defRegion 63 41 == 0 && bits d.owner 31 18 == 0 && bits (fieldAt d 0xB8 2) 15 12 == 0 && bits (fieldAt d 0xBE 2) 15 1 == 0 &&
  fieldAt d 0xC0 64 == 0

end Desc

/-- A chain pointer: its chain-store index when present. -/
def chainPtr (v : Nat) : Option Nat := if bit v 15 then some (bits v 9 0) else none

/-- R172: an operand record, read from its 32 bytes at an offset of the descriptor. -/
structure Operand where
  addr : Nat
  space : Nat
  trans : Bool
  target : Nat
  reserved : Nat
  rowStride : Nat
  headStride : Nat
  batchStride : Nat
  landing : Nat
  consume : Bool
  count : Nat
  scaleAddr : Nat
  scaleSpace : Nat
  deriving DecidableEq, Repr

def Operand.at (d : Desc) (o : Nat) : Operand :=
  let b := fieldAt d o 8
  let l := fieldAt d (o + 0x14) 2
  let c := fieldAt d (o + 0x16) 2
  let sc := fieldAt d (o + 0x18) 8
  ⟨bits b 38 0, bits b 40 39, bit b 41, bits b 46 42, bits b 63 47 + bits l 14 12 + bits c 15 13 + bits sc 63 41,
   fieldAt d (o + 8) 4, fieldAt d (o + 0xC) 4, fieldAt d (o + 0x10) 4, bits l 11 0, bit l 15, bits c 12 0,
   bits sc 38 0, bits sc 40 39⟩

def Desc.x (d : Desc) : Operand := Operand.at d 0x20
def Desc.w (d : Desc) : Operand := Operand.at d 0x40
def Desc.y (d : Desc) : Operand := Operand.at d 0x60

def Desc.planShape (d : Desc) : Shape := ⟨d.planM, d.planN, d.planK, d.planBatch, d.planHeads⟩

/-- R174: a shape record or a tray entry's shape words. -/
def shapeOfBytes (bs : List Byte) : Shape :=
  ⟨fieldAt bs 0 4, fieldAt bs 4 4, fieldAt bs 8 4, fieldAt bs 12 2, fieldAt bs 14 2⟩

/-- R175: which dimensions exceed their planned value (bit 0 M, 1 N, 2 K, 3 batch, 4 heads). -/
def shapeOver (s p : Shape) : Nat :=
  (if p.m < s.m then 1 else 0) + (if p.n < s.n then 2 else 0) + (if p.k < s.k then 4 else 0) +
  (if p.batch < s.batch then 8 else 0) + (if p.heads < s.heads then 16 else 0)

/-- R177: a zero M, N, batch or heads. -/
def shapeEmpty (s : Shape) : Bool := s.m == 0 || s.n == 0 || s.batch == 0 || s.heads == 0

/-! ### Sub-arrays and tiles (R74, R75, R86, R180) -/

/-- R74: rows that share a slot. -/
def packing (code : Nat) : Nat :=
  if code == 0x9 || code == 0xC then 4 else if 3 ≤ code && code ≤ 8 then 2 else 1

/-- R74: a mixed pair uses the P of its lower rate. -/
def pairPacking (a b : Nat) : Nat := min (packing a) (packing b)

/-- R86: number of sub-arrays of a mode, and a sub-array's K. -/
def subCount (mode : Nat) : Nat := if mode = 0 then 1 else if mode = 1 then 4 else 16
def subK (mode : Nat) : Nat := if mode = 0 then 512 else if mode = 1 then 256 else 128

/-- R75: formats that use column pairs. -/
def isPaired (code : Nat) : Bool := code == 0x2 || code == 0xF

/-- A sub-array's logical N (R89, R180). -/
def subN (d : Desc) : Nat := if isPaired d.fmtX then subK d.mode / 2 else subK d.mode

/-- R90: rows of one output block. -/
def blockRows (d : Desc) : Nat := subK d.mode

/-- Does the pair of formats accumulate on the exact path (R35)? -/
def Desc.exact (d : Desc) : Bool := Num.pairPath d.fmtX d.fmtW == some true

/-- R182: the folded M. -/
def foldedM (d : Desc) (s : Shape) : Nat :=
  if d.subMap = 0 then s.batch * s.heads * d.group * s.m else s.batch * d.group * s.m

def nTiles (d : Desc) (s : Shape) : Nat := cdiv s.n (subN d)
def kTiles (d : Desc) (s : Shape) : Nat := cdiv s.k (subK d.mode)
def blocks (d : Desc) (s : Shape) : Nat := cdiv (foldedM d s) (blockRows d)

/-- One stationary tile of a sub-array's share: stationary head, N tile, K tile. -/
structure TilePos where
  head : Nat
  nt : Nat
  kt : Nat
  deriving DecidableEq, Repr

/-- R181: heads (head-deal) or N tiles (N-deal) dealt to sub-array i. -/
def dealt (d : Desc) (s : Shape) (i : Nat) : List (Nat × Nat) :=
  let c := subCount d.mode
  if d.subMap = 0 then ((List.range (nTiles d s)).filter (fun j => j % c == i)).map (fun j => (0, j))
  else ((List.range s.heads).filter (fun h => h % c == i)).flatMap
    (fun h => (List.range (nTiles d s)).map (fun j => (h, j)))

/-- R179: the stationary tiles of sub-array i in order. With a run-time K of zero each N tile has one pass that issues
nothing (R178). -/
def tileSeq (d : Desc) (s : Shape) (i : Nat) : List TilePos :=
  (dealt d s i).flatMap (fun hj => (List.range (kTiles d s)).map (fun t => ⟨hj.1, hj.2, t⟩))

/-- The stationary tiles for which the streamed operand itself is read: with a prologue, those of the first N tile (R107). -/
def xTiles (d : Desc) (s : Shape) (i : Nat) : List TilePos :=
  if (chainPtr d.proChain).isSome then (tileSeq d s i).filter (fun p => p.nt == 0) else tileSeq d s i

/-- R181: how many units of w, x and y each sub-array has in its own sequence. -/
def wCounts (d : Desc) (s : Shape) : List Nat := (List.range (subCount d.mode)).map (fun i => (tileSeq d s i).length)
def xCounts (d : Desc) (s : Shape) : List Nat :=
  (List.range (subCount d.mode)).map (fun i => (xTiles d s i).length * blocks d s)
def yCounts (d : Desc) (s : Shape) : List Nat :=
  (List.range (subCount d.mode)).map (fun i => (dealt d s i).length * blocks d s)

/-- R181: the number of the unit at a position of sub-array i's sequence: all positions 0 in ascending sub-array index,
then all positions 1, and so on; a sub-array with no unit at a position is skipped. -/
def unitNo (counts : List Nat) (pos i : Nat) : Nat :=
  (List.range counts.length).foldl (fun n j => n + min (counts.getD j 0) (pos + (if j < i then 1 else 0))) 0

/-- R181: the (position, sub-array) of unit t. -/
def unitAt (counts : List Nat) (t : Nat) : Option (Nat × Nat) :=
  ((List.range (counts.foldl max 0)).flatMap (fun pos =>
    ((List.range counts.length).filter (fun j => decide (pos < counts.getD j 0))).map (fun j => (pos, j))))[t]?

/-- R172: the landing tile of unit t of an operand. -/
def Operand.tile (o : Operand) (t : Nat) : Nat := o.landing + t % (if o.count = 0 then 1 else o.count)

/-- R183, R182: batch item, streamed head and row of folded row r (stationary head h under head-deal). -/
def unfold (d : Desc) (s : Shape) (h r : Nat) : Nat × Nat × Nat :=
  let m := if s.m = 0 then 1 else s.m
  if d.subMap = 0 then
    let hg := s.heads * d.group
    (r / m / (if hg = 0 then 1 else hg), r / m % (if hg = 0 then 1 else hg), r % m)
  else (r / m / d.group, h * d.group + r / m % d.group, r % m)

/-- R183: the byte address of row m of streamed head q of batch item b. -/
def Operand.rowAddr (o : Operand) (bqm : Nat × Nat × Nat) : Nat :=
  o.addr + bqm.1 * o.batchStride + bqm.2.1 * o.headStride + bqm.2.2 * o.rowStride

/-- Bits [bit0 + w - 1 : bit0] of a little-endian byte string. -/
def bitField (bs : List Byte) (bit0 w : Nat) : Nat := leNat bs / 2 ^ bit0 % 2 ^ w

/-- R44: blocks of 32 in a row of `k` elements. -/
def mxBlocks (k : Nat) : Nat := cdiv k 32

/-- Table 2-2: bytes of n packed elements. -/
def packedBytes (code n : Nat) : Nat := cdiv (n * Num.elemBits code) 8

/-! ### Planned extents (R163, R188, R554) -/

/-- Bytes of a planned operand of rows x cols elements, from its first. -/
def spanOf (d : Desc) (o : Operand) (rows cols fmt heads : Nat) : Nat :=
  (d.planBatch - 1) * o.batchStride + (heads - 1) * o.headStride + (rows - 1) * o.rowStride + packedBytes fmt cols

/-- R151: bytes of a triple record of head width n. -/
def tripleLen (n : Nat) : Nat := (8 + 4 * n + 63) / 64 * 64

/-- Bytes of a planned output row from its first: the elements, or a triple record (R150). -/
def yRowBytes (d : Desc) : Nat := if d.kind = 3 ∧ d.tripleOut = true then tripleLen d.planN else packedBytes d.fmtOut d.planN

def ySpan (d : Desc) : Nat × Nat :=
  (d.y.addr, spanOf d d.y d.planM 0 0 (d.planHeads * d.group) + yRowBytes d)
def xSpan (d : Desc) : Nat × Nat := (d.x.addr, spanOf d d.x d.planM d.planK d.fmtX (d.planHeads * d.group))
def wSpan (d : Desc) : Nat × Nat :=
  (d.w.addr, (d.planHeads - 1) * d.w.headStride +
    (if d.w.trans then (d.planN - 1) * d.w.rowStride + packedBytes d.fmtW d.planK
     else (d.planK - 1) * d.w.rowStride + packedBytes d.fmtW d.planN))

/-- R44: the scale arrays of a descriptor: space, first byte, bytes. -/
def scaleSpans (d : Desc) : List (Nat × Nat × Nat) :=
  let rows := d.planBatch * (d.planHeads * d.group) * d.planM
  (if Num.isMx d.fmtX then [(d.x.scaleSpace, d.x.scaleAddr, rows * mxBlocks d.planK)] else []) ++
  (if Num.isMx d.fmtW then [(d.w.scaleSpace, d.w.scaleAddr, d.planHeads * d.planN * mxBlocks d.planK)] else []) ++
  (if Num.isMx d.fmtOut then [(d.y.scaleSpace, d.y.scaleAddr, rows * mxBlocks d.planN)] else [])

/-- R164: where the tiles of a deferred output without a consumer go, and their bytes. -/
def defSpan (d : Desc) : Nat × Nat := (bits d.defRegion 38 0, (ySpan d).2 * Num.elemBits d.fmtDef / Num.elemBits d.fmtOut)

/-- R161: the core whose landing tiles take a descriptor's scale-and-shift vectors, as a package core id; `id` is its own. -/
def vecCore (d : Desc) (id : Nat) : Nat := if bit d.defvecTarget 15 then bits d.defvecTarget 4 0 else id

/-- R162: does a descriptor on core `on` of an act take the deferred vectors of descriptor d of core `id`? -/
def takesVector (d : Desc) (id on : Nat) (e : Desc) : Bool :=
  e.deferredIn && on == vecCore d id && decide (d.defvecLanding ≤ e.definLanding) &&
    decide (e.definLanding < d.defvecLanding + max 1 (blocks d d.planShape))

/-- The unit of the stationary operand: sub-array K x sub-array N elements, packed (R172). -/
def wUnitBytes (d : Desc) : Nat := packedBytes d.fmtW (subK d.mode * subN d)

end Sys2Proof.Machine
end

