-- ==== Sys2Proof/Machine/Regs.lean ====
section
/-!
DEFINITION. The BAR0 register map (Table 14-3 and the register tables of every chapter): where each register lies,
its fields, their access types (Table 0-3) and their Reset values. `R.<REGISTER>.<field>` names a field; a register
that exists once per unit takes the unit's key `k`, an indexed one its index `i`.
Keys: tray f * 64 + t; pigeonhole i; fabric port p; regulator entry masterId * 16 + e; core and slice island
chest * 9 + physical index; edge side chest * 2 + side; LNK and CHS the chest.
-/

namespace Sys2Proof

/-- Access types of Table 0-3. -/
inductive Acc where
  | ro | rw | wo | w1c | w1s | rc | rws
  deriving DecidableEq, Repr

/-- One field of a register table. -/
structure FieldSpec where
  hi : Nat
  lo : Nat
  acc : Acc
  reset : Nat
  deriving DecidableEq, Repr

/-- A field of one register: BAR0 offset and bit range. -/
structure Fld where
  off : Nat
  hi : Nat
  lo : Nat
  deriving DecidableEq, Repr

namespace R

def chestBase (c : Nat) : Nat := 0x1000000 + c * 0x400000
/-- R104: COR block of core key k. -/
def corBase (k : Nat) : Nat := chestBase (k / 9) + k % 9 * 0x20000
/-- R220: SLC block of slice key k; PUP registers follow at +0x8000. -/
def slcBase (k : Nat) : Nat := chestBase (k / 9) + 0x200000 + k % 9 * 0x10000
def lnkBase (c : Nat) : Nat := chestBase c + 0x300000
def sideBase (k : Nat) : Nat := lnkBase (k / 2) + 0x1000 + k % 2 * 0x1000
def chsBase (c : Nat) : Nat := chestBase c + 0x380000
/-- R420: registers of function f, tray t, key f * 64 + t. -/
def trayBase (k : Nat) : Nat := 0x110000 + k / 64 * 0x4000 + k % 64 * 0x100

/-- R359, Table 12-4: the default route word of a chest: bits [2d+1:2d] give the route to chest d. -/
def routeReset (c : Nat) : Nat :=
  if c = 0 then 0b01_10_01_00 + 0
  else if c = 1 then 0b10_10_00_01
  else if c = 2 then 0b01_00_10_10
  else 0b00_10_01_10

/-- R378: the default regulator set. 0 no entry; 1 a control core's L0 entry; 2 a KV walker's L1 entry. -/
def qosDefault (k : Nat) : Nat :=
  let local_ := k / 16 % 64
  if k % 16 ≠ 0 then 0
  else if 0x09 ≤ local_ ∧ local_ ≤ 0x0C then 1
  else if k / 16 = 0x1A then 1
  else if local_ = 0x16 then 2
  else 0

def GLB_CHEST_MAP (i : Nat) : Nat := 0x100 + 4 * i
def GLB_CHEST_MAP.takeover_logical (i : Nat) : Fld := ⟨GLB_CHEST_MAP i, 27, 24⟩
def GLB_CHEST_MAP.logical_present (i : Nat) : Fld := ⟨GLB_CHEST_MAP i, 21, 14⟩
def GLB_CHEST_MAP.phys_dead (i : Nat) : Fld := ⟨GLB_CHEST_MAP i, 13, 5⟩
def GLB_CHEST_MAP.understudy_ready (i : Nat) : Fld := ⟨GLB_CHEST_MAP i, 4, 4⟩
def GLB_CHEST_MAP.understudy_pos (i : Nat) : Fld := ⟨GLB_CHEST_MAP i, 3, 0⟩
def GLB_SERVICE : Nat := 0x110
def GLB_SERVICE.chest_usable : Fld := ⟨GLB_SERVICE, 5, 2⟩
def GLB_SERVICE.tier : Fld := ⟨GLB_SERVICE, 1, 0⟩
def GLB_BEHAVIOUR : Nat := 0x114
def GLB_BEHAVIOUR.from_header : Fld := ⟨GLB_BEHAVIOUR, 8, 8⟩
def GLB_BEHAVIOUR.strap : Fld := ⟨GLB_BEHAVIOUR, 7, 4⟩
def GLB_BEHAVIOUR.level : Fld := ⟨GLB_BEHAVIOUR, 3, 0⟩
def GLB_BOOT_CTRL : Nat := 0x200
def GLB_BOOT_CTRL.force_train : Fld := ⟨GLB_BOOT_CTRL, 8, 8⟩
def GLB_BOOT_CTRL.chests : Fld := ⟨GLB_BOOT_CTRL, 7, 4⟩
def GLB_BOOT_CTRL.step : Fld := ⟨GLB_BOOT_CTRL, 2, 0⟩
def GLB_BOOT_STATUS : Nat := 0x204
def GLB_BOOT_STATUS.park_used : Fld := ⟨GLB_BOOT_STATUS, 15, 15⟩
def GLB_BOOT_STATUS.park_valid : Fld := ⟨GLB_BOOT_STATUS, 14, 14⟩
def GLB_BOOT_STATUS.steps : Fld := ⟨GLB_BOOT_STATUS, 13, 2⟩
def GLB_BOOT_ERR : Nat := 0x208
def GLB_BOOT_ERR.step : Fld := ⟨GLB_BOOT_ERR, 31, 28⟩
def GLB_BOOT_ERR.code : Fld := ⟨GLB_BOOT_ERR, 23, 16⟩
def GLB_BOOT_ERR.detail : Fld := ⟨GLB_BOOT_ERR, 15, 0⟩
def GLB_BOOT_FW_SRC_LO : Nat := 0x210
def GLB_BOOT_FW_SRC_LO.address : Fld := ⟨GLB_BOOT_FW_SRC_LO, 31, 0⟩
def GLB_BOOT_FW_SRC_HI : Nat := 0x214
def GLB_BOOT_FW_SRC_HI.address : Fld := ⟨GLB_BOOT_FW_SRC_HI, 31, 0⟩
def GLB_BOOT_FW_LEN : Nat := 0x218
def GLB_BOOT_FW_LEN.units : Fld := ⟨GLB_BOOT_FW_LEN, 17, 0⟩
def GLB_BOOT_PARK_SRC_LO : Nat := 0x220
def GLB_BOOT_PARK_SRC_LO.address : Fld := ⟨GLB_BOOT_PARK_SRC_LO, 31, 0⟩
def GLB_BOOT_PARK_SRC_HI : Nat := 0x224
def GLB_BOOT_PARK_SRC_HI.address : Fld := ⟨GLB_BOOT_PARK_SRC_HI, 31, 0⟩
def GLB_BOOT_PARK_LEN : Nat := 0x228
def GLB_BOOT_PARK_LEN.units : Fld := ⟨GLB_BOOT_PARK_LEN, 17, 0⟩
def GLB_BOOT_LIC_SRC_LO : Nat := 0x230
def GLB_BOOT_LIC_SRC_LO.address : Fld := ⟨GLB_BOOT_LIC_SRC_LO, 31, 0⟩
def GLB_BOOT_LIC_SRC_HI : Nat := 0x234
def GLB_BOOT_LIC_SRC_HI.address : Fld := ⟨GLB_BOOT_LIC_SRC_HI, 31, 0⟩
def GLB_BOOT_LIC_LEN : Nat := 0x238
def GLB_BOOT_LIC_LEN.units : Fld := ⟨GLB_BOOT_LIC_LEN, 17, 0⟩
def GLB_BOOT_TIME : Nat := 0x23C
def GLB_BOOT_TIME.time_us : Fld := ⟨GLB_BOOT_TIME, 31, 0⟩
def GLB_TRAIN (i : Nat) : Nat := 0x240 + 4 * i
def GLB_TRAIN.failed (i : Nat) : Fld := ⟨GLB_TRAIN i, 23, 16⟩
def GLB_TRAIN.full (i : Nat) : Fld := ⟨GLB_TRAIN i, 15, 8⟩
def GLB_TRAIN.park (i : Nat) : Fld := ⟨GLB_TRAIN i, 7, 0⟩
def GLB_RESET_CTRL : Nat := 0x300
def GLB_RESET_CTRL.secure_erase : Fld := ⟨GLB_RESET_CTRL, 10, 10⟩
def GLB_RESET_CTRL.go : Fld := ⟨GLB_RESET_CTRL, 8, 8⟩
def GLB_RESET_CTRL.target : Fld := ⟨GLB_RESET_CTRL, 7, 4⟩
def GLB_RESET_CTRL.chest : Fld := ⟨GLB_RESET_CTRL, 3, 2⟩
def GLB_RESET_CTRL.level : Fld := ⟨GLB_RESET_CTRL, 1, 0⟩
def GLB_RESET_STATUS : Nat := 0x304
def GLB_RESET_STATUS.busy : Fld := ⟨GLB_RESET_STATUS, 31, 31⟩
def GLB_RESET_STATUS.refuse_code : Fld := ⟨GLB_RESET_STATUS, 30, 28⟩
def GLB_RESET_STATUS.last_level : Fld := ⟨GLB_RESET_STATUS, 27, 26⟩
def GLB_RESET_STATUS.last_chest : Fld := ⟨GLB_RESET_STATUS, 25, 24⟩
def GLB_RESET_STATUS.last_target : Fld := ⟨GLB_RESET_STATUS, 23, 20⟩
def GLB_RESET_STATUS.resets : Fld := ⟨GLB_RESET_STATUS, 15, 0⟩
def GLB_ABSORB_REQ : Nat := 0x308
def GLB_ABSORB_REQ.count : Fld := ⟨GLB_ABSORB_REQ, 31, 0⟩
def GLB_ABSORB_POSTED : Nat := 0x30C
def GLB_ABSORB_POSTED.count : Fld := ⟨GLB_ABSORB_POSTED, 31, 0⟩
def GLB_TAKEOVER : Nat := 0x310
def GLB_TAKEOVER.pending : Fld := ⟨GLB_TAKEOVER, 3, 0⟩
def GLB_INT_STATUS : Nat := 0x400
def GLB_INT_STATUS.cause : Fld := ⟨GLB_INT_STATUS, 17, 0⟩
def GLB_INT_ENABLE : Nat := 0x404
def GLB_INT_ENABLE.enable : Fld := ⟨GLB_INT_ENABLE, 17, 0⟩
def GLB_INT_RACE (i : Nat) : Nat := 0x408 + 4 * i
def GLB_INT_RACE.counters (i : Nat) : Fld := ⟨GLB_INT_RACE i, 31, 0⟩
def HQ_STATUS : Nat := 0x100000 + 0x0
def HQ_STATUS.journal_used : Fld := ⟨HQ_STATUS, 15, 0⟩
def HQ_FLAGS : Nat := 0x100000 + 0x4
def HQ_FLAGS.aborted : Fld := ⟨HQ_FLAGS, 3, 3⟩
def HQ_FLAGS.replayed : Fld := ⟨HQ_FLAGS, 2, 2⟩
def HQ_FLAGS.journal_full : Fld := ⟨HQ_FLAGS, 1, 1⟩
def HQ_FLAGS.tray_error : Fld := ⟨HQ_FLAGS, 0, 0⟩
def HQ_RACE : Nat := 0x100000 + 0x8
def HQ_RACE.counters : Fld := ⟨HQ_RACE, 31, 0⟩
def HQ_REPLAYS : Nat := 0x100000 + 0xC
def HQ_REPLAYS.count : Fld := ⟨HQ_REPLAYS, 31, 0⟩
def HQ_ABORTS : Nat := 0x100000 + 0x10
def HQ_ABORTS.count : Fld := ⟨HQ_ABORTS, 31, 0⟩
def HQ_VF_WIN (i : Nat) : Nat := 0x100000 + 0x100 + 4 * i
def HQ_VF_WIN.limit (i : Nat) : Fld := ⟨HQ_VF_WIN i, 31, 16⟩
def HQ_VF_WIN.base (i : Nat) : Fld := ⟨HQ_VF_WIN i, 15, 0⟩
def HQ_T_CTRL (k : Nat) : Nat := trayBase k + 0x0
def HQ_T_CTRL.vector (k : Nat) : Fld := ⟨HQ_T_CTRL k, 25, 16⟩
def HQ_T_CTRL.size_log2 (k : Nat) : Fld := ⟨HQ_T_CTRL k, 8, 4⟩
def HQ_T_CTRL.int_enable (k : Nat) : Fld := ⟨HQ_T_CTRL k, 1, 1⟩
def HQ_T_CTRL.enable (k : Nat) : Fld := ⟨HQ_T_CTRL k, 0, 0⟩
def HQ_T_STATUS (k : Nat) : Nat := trayBase k + 0x4
def HQ_T_STATUS.outstanding (k : Nat) : Fld := ⟨HQ_T_STATUS k, 31, 15⟩
def HQ_T_STATUS.error (k : Nat) : Fld := ⟨HQ_T_STATUS k, 11, 8⟩
def HQ_T_STATUS.state (k : Nat) : Fld := ⟨HQ_T_STATUS k, 2, 0⟩
def HQ_T_SQ_BASE_LO (k : Nat) : Nat := trayBase k + 0x8
def HQ_T_SQ_BASE_LO.address (k : Nat) : Fld := ⟨HQ_T_SQ_BASE_LO k, 31, 0⟩
def HQ_T_SQ_BASE_HI (k : Nat) : Nat := trayBase k + 0xC
def HQ_T_SQ_BASE_HI.address (k : Nat) : Fld := ⟨HQ_T_SQ_BASE_HI k, 31, 0⟩
def HQ_T_CQ_BASE_LO (k : Nat) : Nat := trayBase k + 0x10
def HQ_T_CQ_BASE_LO.address (k : Nat) : Fld := ⟨HQ_T_CQ_BASE_LO k, 31, 0⟩
def HQ_T_CQ_BASE_HI (k : Nat) : Nat := trayBase k + 0x14
def HQ_T_CQ_BASE_HI.address (k : Nat) : Fld := ⟨HQ_T_CQ_BASE_HI k, 31, 0⟩
def HQ_T_IDX_BASE_LO (k : Nat) : Nat := trayBase k + 0x18
def HQ_T_IDX_BASE_LO.address (k : Nat) : Fld := ⟨HQ_T_IDX_BASE_LO k, 31, 0⟩
def HQ_T_IDX_BASE_HI (k : Nat) : Nat := trayBase k + 0x1C
def HQ_T_IDX_BASE_HI.address (k : Nat) : Fld := ⟨HQ_T_IDX_BASE_HI k, 31, 0⟩
def HQ_T_DOORBELL (k : Nat) : Nat := trayBase k + 0x20
def HQ_T_DOORBELL.count (k : Nat) : Fld := ⟨HQ_T_DOORBELL k, 31, 0⟩
def HQ_T_ACCEPT (k : Nat) : Nat := trayBase k + 0x24
def HQ_T_ACCEPT.count (k : Nat) : Fld := ⟨HQ_T_ACCEPT k, 31, 0⟩
def HQ_T_DONE (k : Nat) : Nat := trayBase k + 0x28
def HQ_T_DONE.count (k : Nat) : Fld := ⟨HQ_T_DONE k, 31, 0⟩
def HQ_T_CQ_HEAD (k : Nat) : Nat := trayBase k + 0x2C
def HQ_T_CQ_HEAD.count (k : Nat) : Fld := ⟨HQ_T_CQ_HEAD k, 31, 0⟩
def HQ_T_MAXOUT (k : Nat) : Nat := trayBase k + 0x30
def HQ_T_MAXOUT.count (k : Nat) : Fld := ⟨HQ_T_MAXOUT k, 31, 0⟩
def MBX_BIND (i : Nat) : Nat := 0x200000 + 0x0 + 4 * i
def MBX_BIND.valid (i : Nat) : Fld := ⟨MBX_BIND i, 31, 31⟩
def MBX_BIND.receiver (i : Nat) : Fld := ⟨MBX_BIND i, 12, 8⟩
def MBX_BIND.sender (i : Nat) : Fld := ⟨MBX_BIND i, 4, 0⟩
def MBX_LOCK : Nat := 0x200000 + 0x100
def MBX_LOCK.locked : Fld := ⟨MBX_LOCK, 0, 0⟩
def MBX_FULL (i : Nat) : Nat := 0x200000 + 0x104 + 4 * i
def MBX_FULL.bits (i : Nat) : Fld := ⟨MBX_FULL i, 31, 0⟩
def MBX_COLLISION (i : Nat) : Nat := 0x200000 + 0x10C + 4 * i
def MBX_COLLISION.bits (i : Nat) : Fld := ⟨MBX_COLLISION i, 31, 0⟩
def MBX_ABORTED (i : Nat) : Nat := 0x200000 + 0x114 + 4 * i
def MBX_ABORTED.bits (i : Nat) : Fld := ⟨MBX_ABORTED i, 31, 0⟩
def MBX_CRACE (i : Nat) : Nat := 0x200000 + 0x120 + 4 * i
def MBX_CRACE.counters (i : Nat) : Fld := ⟨MBX_CRACE i, 31, 0⟩
def MBX_ARACE (i : Nat) : Nat := 0x200000 + 0x160 + 4 * i
def MBX_ARACE.counters (i : Nat) : Fld := ⟨MBX_ARACE i, 31, 0⟩
def MBX_CC_STATUS (i : Nat) : Nat := 0x200000 + 0x200 + 4 * i
def MBX_CC_STATUS.restarts (i : Nat) : Fld := ⟨MBX_CC_STATUS i, 31, 24⟩
def MBX_CC_STATUS.state (i : Nat) : Fld := ⟨MBX_CC_STATUS i, 2, 0⟩
def MBX_P_TX (k : Nat) (i : Nat) : Nat := 0x210000 + 0x100 * k + 0x0 + 4 * i
def MBX_P_TX.word (k : Nat) (i : Nat) : Fld := ⟨MBX_P_TX k i, 31, 0⟩
def MBX_P_RX (k : Nat) (i : Nat) : Nat := 0x210000 + 0x100 * k + 0x40 + 4 * i
def MBX_P_RX.word (k : Nat) (i : Nat) : Fld := ⟨MBX_P_RX k i, 31, 0⟩
def MBX_P_CTRL (k : Nat) : Nat := 0x210000 + 0x100 * k + 0x80
def MBX_P_CTRL.take (k : Nat) : Fld := ⟨MBX_P_CTRL k, 1, 1⟩
def MBX_P_CTRL.send (k : Nat) : Fld := ⟨MBX_P_CTRL k, 0, 0⟩
def MBX_P_STATUS (k : Nat) : Nat := 0x210000 + 0x100 * k + 0x84
def MBX_P_STATUS.taken_coll (k : Nat) : Fld := ⟨MBX_P_STATUS k, 31, 24⟩
def MBX_P_STATUS.pending_coll (k : Nat) : Fld := ⟨MBX_P_STATUS k, 23, 16⟩
def MBX_P_STATUS.full (k : Nat) : Fld := ⟨MBX_P_STATUS k, 0, 0⟩
def SEC_STATUS : Nat := 0x300000 + 0x0
def SEC_STATUS.refuse_code : Fld := ⟨SEC_STATUS, 15, 12⟩
def SEC_STATUS.invasive : Fld := ⟨SEC_STATUS, 9, 9⟩
def SEC_STATUS.non_invasive : Fld := ⟨SEC_STATUS, 8, 8⟩
def SEC_STATUS.busy : Fld := ⟨SEC_STATUS, 0, 0⟩
def SEC_CTRL : Nat := 0x300000 + 0x4
def SEC_CTRL.submit : Fld := ⟨SEC_CTRL, 0, 0⟩
def SEC_FLAGS : Nat := 0x300000 + 0x8
def SEC_FLAGS.debug_opened : Fld := ⟨SEC_FLAGS, 2, 2⟩
def SEC_FLAGS.fuse_written : Fld := ⟨SEC_FLAGS, 1, 1⟩
def SEC_FLAGS.refused : Fld := ⟨SEC_FLAGS, 0, 0⟩
def SEC_RACE : Nat := 0x300000 + 0xC
def SEC_RACE.debug_race_cnt : Fld := ⟨SEC_RACE, 23, 16⟩
def SEC_RACE.fuse_race_cnt : Fld := ⟨SEC_RACE, 15, 8⟩
def SEC_RACE.refused_race_cnt : Fld := ⟨SEC_RACE, 7, 0⟩
def SEC_SERIAL_LO : Nat := 0x300000 + 0x10
def SEC_SERIAL_LO.serial : Fld := ⟨SEC_SERIAL_LO, 31, 0⟩
def SEC_SERIAL_HI : Nat := 0x300000 + 0x14
def SEC_SERIAL_HI.serial : Fld := ⟨SEC_SERIAL_HI, 31, 0⟩
def SEC_OWNER : Nat := 0x300000 + 0x18
def SEC_OWNER.slots : Fld := ⟨SEC_OWNER, 7, 0⟩
def SEC_LICENCE : Nat := 0x300000 + 0x1C
def SEC_LICENCE.ignored : Fld := ⟨SEC_LICENCE, 23, 16⟩
def SEC_LICENCE.accepted : Fld := ⟨SEC_LICENCE, 15, 8⟩
def SEC_LICENCE.features : Fld := ⟨SEC_LICENCE, 4, 0⟩
def SEC_IDCODE : Nat := 0x300000 + 0x20
def SEC_IDCODE.idcode : Fld := ⟨SEC_IDCODE, 31, 0⟩
def SEC_SPDM : Nat := 0x300000 + 0x24
def SEC_SPDM.ide_streams : Fld := ⟨SEC_SPDM, 7, 4⟩
def SEC_SPDM.sessions : Fld := ⟨SEC_SPDM, 2, 0⟩
def SEC_DEVKEY (i : Nat) : Nat := 0x300000 + 0x40 + 4 * i
def SEC_DEVKEY.word (i : Nat) : Fld := ⟨SEC_DEVKEY i, 31, 0⟩
def SEC_TOKEN (i : Nat) : Nat := 0x300000 + 0x100 + 4 * i
def SEC_TOKEN.word (i : Nat) : Fld := ⟨SEC_TOKEN i, 31, 0⟩
def PWR_MODE : Nat := 0x400000 + 0x0
def PWR_MODE.window : Fld := ⟨PWR_MODE, 16, 16⟩
def PWR_MODE.refused : Fld := ⟨PWR_MODE, 13, 13⟩
def PWR_MODE.steady_active : Fld := ⟨PWR_MODE, 12, 12⟩
def PWR_MODE.mode_active : Fld := ⟨PWR_MODE, 9, 8⟩
def PWR_MODE.steady : Fld := ⟨PWR_MODE, 4, 4⟩
def PWR_MODE.mode : Fld := ⟨PWR_MODE, 1, 0⟩
def PWR_CAP : Nat := 0x400000 + 0x4
def PWR_CAP.cap_active : Fld := ⟨PWR_CAP, 27, 16⟩
def PWR_CAP.cap : Fld := ⟨PWR_CAP, 11, 0⟩
def PWR_PKG : Nat := 0x400000 + 0x8
def PWR_PKG.peak : Fld := ⟨PWR_PKG, 27, 16⟩
def PWR_PKG.power : Fld := ⟨PWR_PKG, 11, 0⟩
def PWR_SPRINT : Nat := 0x400000 + 0xC
def PWR_SPRINT.windows : Fld := ⟨PWR_SPRINT, 31, 16⟩
def PWR_SPRINT.cut : Fld := ⟨PWR_SPRINT, 15, 8⟩
def PWR_SPRINT.last_ms : Fld := ⟨PWR_SPRINT, 7, 0⟩
def THM_STATUS : Nat := 0x400000 + 0x100
def THM_STATUS.fallback : Fld := ⟨THM_STATUS, 27, 24⟩
def THM_STATUS.coolant_stale : Fld := ⟨THM_STATUS, 5, 5⟩
def THM_STATUS.degraded : Fld := ⟨THM_STATUS, 4, 4⟩
def THM_STATUS.cool_fault : Fld := ⟨THM_STATUS, 3, 3⟩
def THM_STATUS.tripped : Fld := ⟨THM_STATUS, 2, 2⟩
def THM_STATUS.resuming : Fld := ⟨THM_STATUS, 1, 1⟩
def THM_STATUS.paused : Fld := ⟨THM_STATUS, 0, 0⟩
def THM_FLAGS : Nat := 0x400000 + 0x104
def THM_FLAGS.over_limit : Fld := ⟨THM_FLAGS, 7, 7⟩
def THM_FLAGS.broken : Fld := ⟨THM_FLAGS, 6, 6⟩
def THM_FLAGS.disagree : Fld := ⟨THM_FLAGS, 5, 5⟩
def THM_FLAGS.degraded : Fld := ⟨THM_FLAGS, 4, 4⟩
def THM_FLAGS.cool_fault : Fld := ⟨THM_FLAGS, 3, 3⟩
def THM_FLAGS.rise_emerg : Fld := ⟨THM_FLAGS, 2, 2⟩
def THM_FLAGS.rise_warn : Fld := ⟨THM_FLAGS, 1, 1⟩
def THM_FLAGS.paused : Fld := ⟨THM_FLAGS, 0, 0⟩
def THM_RACE (i : Nat) : Nat := 0x400000 + 0x108 + 4 * i
def THM_RACE.counters (i : Nat) : Fld := ⟨THM_RACE i, 31, 0⟩
def THM_COOLANT : Nat := 0x400000 + 0x110
def THM_COOLANT.stale : Fld := ⟨THM_COOLANT, 31, 31⟩
def THM_COOLANT.flow : Fld := ⟨THM_COOLANT, 23, 12⟩
def THM_COOLANT.inlet : Fld := ⟨THM_COOLANT, 11, 0⟩
def THM_RTH : Nat := 0x400000 + 0x114
def THM_RTH.limit : Fld := ⟨THM_RTH, 31, 16⟩
def THM_RTH.estimate : Fld := ⟨THM_RTH, 15, 0⟩
def THM_LIMITS : Nat := 0x400000 + 0x118
def THM_LIMITS.plinth_soft : Fld := ⟨THM_LIMITS, 23, 16⟩
def THM_LIMITS.junction_soft : Fld := ⟨THM_LIMITS, 15, 8⟩
def THM_LIMITS.drawer_soft : Fld := ⟨THM_LIMITS, 7, 0⟩
def THM_HOT : Nat := 0x400000 + 0x11C
def THM_HOT.chest : Fld := ⟨THM_HOT, 31, 30⟩
def THM_HOT.sensor : Fld := ⟨THM_HOT, 29, 23⟩
def THM_HOT.temp : Fld := ⟨THM_HOT, 11, 0⟩
def ERR_SEQ : Nat := 0x500000 + 0x0
def ERR_SEQ.seq : Fld := ⟨ERR_SEQ, 31, 0⟩
def ERR_CONSUMED : Nat := 0x500000 + 0x4
def ERR_CONSUMED.consumed : Fld := ⟨ERR_CONSUMED, 31, 0⟩
def ERR_FLAGS : Nat := 0x500000 + 0x8
def ERR_FLAGS.queue_drop : Fld := ⟨ERR_FLAGS, 2, 2⟩
def ERR_FLAGS.ue_logged : Fld := ⟨ERR_FLAGS, 1, 1⟩
def ERR_FLAGS.overflow : Fld := ⟨ERR_FLAGS, 0, 0⟩
def ERR_RACE : Nat := 0x500000 + 0xC
def ERR_RACE.drop_race_cnt : Fld := ⟨ERR_RACE, 23, 16⟩
def ERR_RACE.ue_race_cnt : Fld := ⟨ERR_RACE, 15, 8⟩
def ERR_RACE.overflow_race_cnt : Fld := ⟨ERR_RACE, 7, 0⟩
def ERR_LOST : Nat := 0x500000 + 0x10
def ERR_LOST.count : Fld := ⟨ERR_LOST, 31, 0⟩
def ERR_CLASS_CNT (i : Nat) : Nat := 0x500000 + 0x14 + 4 * i
def ERR_CLASS_CNT.count (i : Nat) : Fld := ⟨ERR_CLASS_CNT i, 31, 0⟩
def ERR_INT_CLASS : Nat := 0x500000 + 0x28
def ERR_INT_CLASS.classes : Fld := ⟨ERR_INT_CLASS, 4, 0⟩
def ERR_INJECT : Nat := 0x500000 + 0x2C
def ERR_INJECT.symbol : Fld := ⟨ERR_INJECT, 9, 4⟩
def ERR_INJECT.kind : Fld := ⟨ERR_INJECT, 3, 2⟩
def ERR_INJECT.armed : Fld := ⟨ERR_INJECT, 1, 1⟩
def ERR_INJECT.arm : Fld := ⟨ERR_INJECT, 0, 0⟩
def ERR_INJECT_ADDR_LO : Nat := 0x500000 + 0x30
def ERR_INJECT_ADDR_LO.address : Fld := ⟨ERR_INJECT_ADDR_LO, 31, 0⟩
def ERR_INJECT_ADDR_HI : Nat := 0x500000 + 0x34
def ERR_INJECT_ADDR_HI.address : Fld := ⟨ERR_INJECT_ADDR_HI, 6, 0⟩
def PZL_ID : Nat := 0x600000 + 0x0
def PZL_ID.assigned : Fld := ⟨PZL_ID, 31, 31⟩
def PZL_ID.ports : Fld := ⟨PZL_ID, 15, 12⟩
def PZL_ID.device_id : Fld := ⟨PZL_ID, 11, 0⟩
def PZL_SW_BOUND : Nat := 0x600000 + 0x4
def PZL_SW_BOUND.bound_ns : Fld := ⟨PZL_SW_BOUND, 15, 0⟩
def PZL_TIME : Nat := 0x600000 + 0x8
def PZL_TIME.locked : Fld := ⟨PZL_TIME, 31, 31⟩
def PZL_TIME.source_valid : Fld := ⟨PZL_TIME, 30, 30⟩
def PZL_TIME.source_port : Fld := ⟨PZL_TIME, 29, 27⟩
def PZL_TIME.last_error : Fld := ⟨PZL_TIME, 15, 0⟩
def PZL_REQ_TIMEOUT : Nat := 0x600000 + 0xC
def PZL_REQ_TIMEOUT.timeout_us : Fld := ⟨PZL_REQ_TIMEOUT, 19, 0⟩
def PZL_FLAGS : Nat := 0x600000 + 0x10
def PZL_FLAGS.id_conflict : Fld := ⟨PZL_FLAGS, 2, 2⟩
def PZL_FLAGS.req_timeout : Fld := ⟨PZL_FLAGS, 1, 1⟩
def PZL_FLAGS.misrouted : Fld := ⟨PZL_FLAGS, 0, 0⟩
def PZL_RACE : Nat := 0x600000 + 0x14
def PZL_RACE.conflict_race_cnt : Fld := ⟨PZL_RACE, 23, 16⟩
def PZL_RACE.timeout_race_cnt : Fld := ⟨PZL_RACE, 15, 8⟩
def PZL_RACE.misrouted_race_cnt : Fld := ⟨PZL_RACE, 7, 0⟩
def PZL_LATE : Nat := 0x600000 + 0x18
def PZL_LATE.late : Fld := ⟨PZL_LATE, 31, 0⟩
def PZL_P_STATUS (k : Nat) : Nat := 0x610000 + 0x1000 * k + 0x0
def PZL_P_STATUS.lanes_used (k : Nat) : Fld := ⟨PZL_P_STATUS k, 31, 24⟩
def PZL_P_STATUS.remote_good (k : Nat) : Fld := ⟨PZL_P_STATUS k, 23, 16⟩
def PZL_P_STATUS.local_good (k : Nat) : Fld := ⟨PZL_P_STATUS k, 15, 8⟩
def PZL_P_STATUS.width (k : Nat) : Fld := ⟨PZL_P_STATUS k, 7, 6⟩
def PZL_P_STATUS.licensed (k : Nat) : Fld := ⟨PZL_P_STATUS k, 3, 3⟩
def PZL_P_STATUS.state (k : Nat) : Fld := ⟨PZL_P_STATUS k, 2, 0⟩
def PZL_P_CTRL (k : Nat) : Nat := 0x610000 + 0x1000 * k + 0x4
def PZL_P_CTRL.retire (k : Nat) : Fld := ⟨PZL_P_CTRL k, 15, 8⟩
def PZL_P_CTRL.loopback (k : Nat) : Fld := ⟨PZL_P_CTRL k, 2, 2⟩
def PZL_P_CTRL.retrain (k : Nat) : Fld := ⟨PZL_P_CTRL k, 1, 1⟩
def PZL_P_CTRL.enable (k : Nat) : Fld := ⟨PZL_P_CTRL k, 0, 0⟩
def PZL_P_FLAGS (k : Nat) : Nat := 0x610000 + 0x1000 * k + 0x8
def PZL_P_FLAGS.error (k : Nat) : Fld := ⟨PZL_P_FLAGS k, 3, 3⟩
def PZL_P_FLAGS.down (k : Nat) : Fld := ⟨PZL_P_FLAGS k, 2, 2⟩
def PZL_P_FLAGS.lane_retired (k : Nat) : Fld := ⟨PZL_P_FLAGS k, 1, 1⟩
def PZL_P_FLAGS.replay (k : Nat) : Fld := ⟨PZL_P_FLAGS k, 0, 0⟩
def PZL_P_RACE (k : Nat) : Nat := 0x610000 + 0x1000 * k + 0xC
def PZL_P_RACE.error_race_cnt (k : Nat) : Fld := ⟨PZL_P_RACE k, 31, 24⟩
def PZL_P_RACE.down_race_cnt (k : Nat) : Fld := ⟨PZL_P_RACE k, 23, 16⟩
def PZL_P_RACE.lane_race_cnt (k : Nat) : Fld := ⟨PZL_P_RACE k, 15, 8⟩
def PZL_P_RACE.replay_race_cnt (k : Nat) : Fld := ⟨PZL_P_RACE k, 7, 0⟩
def PZL_P_FEC_LO (k : Nat) : Nat := 0x610000 + 0x1000 * k + 0x10
def PZL_P_FEC_LO.corrected (k : Nat) : Fld := ⟨PZL_P_FEC_LO k, 31, 0⟩
def PZL_P_FEC_HI (k : Nat) : Nat := 0x610000 + 0x1000 * k + 0x14
def PZL_P_FEC_HI.corrected (k : Nat) : Fld := ⟨PZL_P_FEC_HI k, 31, 0⟩
def PZL_P_UNCORR (k : Nat) : Nat := 0x610000 + 0x1000 * k + 0x18
def PZL_P_UNCORR.count (k : Nat) : Fld := ⟨PZL_P_UNCORR k, 31, 0⟩
def PZL_P_REPLAYS (k : Nat) : Nat := 0x610000 + 0x1000 * k + 0x1C
def PZL_P_REPLAYS.count (k : Nat) : Fld := ⟨PZL_P_REPLAYS k, 31, 0⟩
def PZL_P_CREDITS (k : Nat) : Nat := 0x610000 + 0x1000 * k + 0x20
def PZL_P_CREDITS.vc3 (k : Nat) : Fld := ⟨PZL_P_CREDITS k, 31, 24⟩
def PZL_P_CREDITS.vc2 (k : Nat) : Fld := ⟨PZL_P_CREDITS k, 23, 12⟩
def PZL_P_CREDITS.vc1 (k : Nat) : Fld := ⟨PZL_P_CREDITS k, 11, 0⟩
def PZL_P_LANE_THRESH (k : Nat) : Nat := 0x610000 + 0x1000 * k + 0x24
def PZL_P_LANE_THRESH.thresh (k : Nat) : Fld := ⟨PZL_P_LANE_THRESH k, 15, 0⟩
def PZL_P_LANE_ERR (k : Nat) (i : Nat) : Nat := 0x610000 + 0x1000 * k + 0x40 + 4 * i
def PZL_P_LANE_ERR.corrected (k : Nat) (i : Nat) : Fld := ⟨PZL_P_LANE_ERR k i, 31, 0⟩
def QOS_COMMIT : Nat := 0x700000 + 0x0
def QOS_COMMIT.commit : Fld := ⟨QOS_COMMIT, 0, 0⟩
def QOS_STATUS : Nat := 0x700000 + 0x4
def QOS_STATUS.refuse_code : Fld := ⟨QOS_STATUS, 11, 8⟩
def QOS_STATUS.pending : Fld := ⟨QOS_STATUS, 1, 1⟩
def QOS_STATUS.busy : Fld := ⟨QOS_STATUS, 0, 0⟩
def QOS_FLAGS : Nat := 0x700000 + 0x8
def QOS_FLAGS.commit_refused : Fld := ⟨QOS_FLAGS, 2, 2⟩
def QOS_FLAGS.starvation : Fld := ⟨QOS_FLAGS, 1, 1⟩
def QOS_FLAGS.shortfall : Fld := ⟨QOS_FLAGS, 0, 0⟩
def QOS_RACE : Nat := 0x700000 + 0xC
def QOS_RACE.refused_race_cnt : Fld := ⟨QOS_RACE, 23, 16⟩
def QOS_RACE.starve_race_cnt : Fld := ⟨QOS_RACE, 15, 8⟩
def QOS_RACE.short_race_cnt : Fld := ⟨QOS_RACE, 7, 0⟩
def QOS_STARVE_LIMIT : Nat := 0x700000 + 0x10
def QOS_STARVE_LIMIT.limit : Fld := ⟨QOS_STARVE_LIMIT, 19, 0⟩
def QOS_STARVE_WHO : Nat := 0x700000 + 0x14
def QOS_STARVE_WHO.level : Fld := ⟨QOS_STARVE_WHO, 26, 24⟩
def QOS_STARVE_WHO.kind : Fld := ⟨QOS_STARVE_WHO, 23, 22⟩
def QOS_STARVE_WHO.chest : Fld := ⟨QOS_STARVE_WHO, 21, 20⟩
def QOS_STARVE_WHO.position : Fld := ⟨QOS_STARVE_WHO, 19, 16⟩
def QOS_STARVE_WHO.master : Fld := ⟨QOS_STARVE_WHO, 7, 0⟩
def QOS_UNMATCHED : Nat := 0x700000 + 0x18
def QOS_UNMATCHED.count : Fld := ⟨QOS_UNMATCHED, 31, 0⟩
def QOS_HOST_CLASS0 : Nat := 0x700000 + 0x1C
def QOS_HOST_CLASS0.cls : Fld := ⟨QOS_HOST_CLASS0, 31, 0⟩
def QOS_HOST_CLASS1 : Nat := 0x700000 + 0x20
def QOS_HOST_CLASS1.cls : Fld := ⟨QOS_HOST_CLASS1, 1, 0⟩
def QOS_PORT_CLASS : Nat := 0x700000 + 0x100
def QOS_PORT_CLASS.cls : Fld := ⟨QOS_PORT_CLASS, 15, 0⟩
def QOS_SHORT (i : Nat) : Nat := 0x700000 + 0x140 + 4 * i
def QOS_SHORT.floor (i : Nat) : Fld := ⟨QOS_SHORT i, 31, 20⟩
def QOS_SHORT.short (i : Nat) : Fld := ⟨QOS_SHORT i, 16, 16⟩
def QOS_SHORT.factor (i : Nat) : Fld := ⟨QOS_SHORT i, 8, 0⟩
def QOS_ADMIT (i : Nat) : Nat := 0x700000 + 0x200 + 4 * i
def QOS_ADMIT.cue_share (i : Nat) : Fld := ⟨QOS_ADMIT i, 31, 25⟩
def QOS_ADMIT.l0_sum (i : Nat) : Fld := ⟨QOS_ADMIT i, 24, 13⟩
def QOS_ADMIT.l2_sum (i : Nat) : Fld := ⟨QOS_ADMIT i, 12, 0⟩
def QOS_REG_W0 (k : Nat) : Nat := 0x710000 + 8 * k + 0x0
def QOS_REG_W0.valid (k : Nat) : Fld := ⟨QOS_REG_W0 k, 31, 31⟩
def QOS_REG_W0.cls (k : Nat) : Fld := ⟨QOS_REG_W0 k, 30, 29⟩
def QOS_REG_W0.any (k : Nat) : Fld := ⟨QOS_REG_W0 k, 26, 26⟩
def QOS_REG_W0.chest (k : Nat) : Fld := ⟨QOS_REG_W0 k, 25, 24⟩
def QOS_REG_W0.slice (k : Nat) : Fld := ⟨QOS_REG_W0 k, 23, 20⟩
def QOS_REG_W0.cap (k : Nat) : Fld := ⟨QOS_REG_W0 k, 19, 0⟩
def QOS_REG_W1 (k : Nat) : Nat := 0x710000 + 8 * k + 0x4
def QOS_REG_W1.depth (k : Nat) : Fld := ⟨QOS_REG_W1 k, 31, 16⟩
def QOS_REG_W1.param (k : Nat) : Fld := ⟨QOS_REG_W1 k, 15, 0⟩
def BST_CTRL : Nat := 0x800000 + 0x0
def BST_CTRL.select : Fld := ⟨BST_CTRL, 2, 1⟩
def BST_CTRL.park : Fld := ⟨BST_CTRL, 0, 0⟩
def BST_STATUS : Nat := 0x800000 + 0x4
def BST_STATUS.refuse_code : Fld := ⟨BST_STATUS, 14, 12⟩
def BST_STATUS.chest : Fld := ⟨BST_STATUS, 11, 10⟩
def BST_STATUS.kind : Fld := ⟨BST_STATUS, 9, 8⟩
def BST_STATUS.state : Fld := ⟨BST_STATUS, 2, 0⟩
def BST_RESULT : Nat := 0x800000 + 0x8
def BST_RESULT.outcome : Fld := ⟨BST_RESULT, 15, 0⟩
def BST_FLAGS : Nat := 0x800000 + 0xC
def BST_FLAGS.ecc_fail : Fld := ⟨BST_FLAGS, 2, 2⟩
def BST_FLAGS.excursion : Fld := ⟨BST_FLAGS, 1, 1⟩
def BST_FLAGS.item_fail : Fld := ⟨BST_FLAGS, 0, 0⟩
def BST_RACE : Nat := 0x800000 + 0x10
def BST_RACE.ecc_race_cnt : Fld := ⟨BST_RACE, 23, 16⟩
def BST_RACE.exc_race_cnt : Fld := ⟨BST_RACE, 15, 8⟩
def BST_RACE.item_race_cnt : Fld := ⟨BST_RACE, 7, 0⟩
def BST_DST_LO : Nat := 0x800000 + 0x14
def BST_DST_LO.address : Fld := ⟨BST_DST_LO, 31, 0⟩
def BST_DST_HI : Nat := 0x800000 + 0x18
def BST_DST_HI.address : Fld := ⟨BST_DST_HI, 31, 0⟩
def BST_REC_LEN : Nat := 0x800000 + 0x1C
def BST_REC_LEN.units : Fld := ⟨BST_REC_LEN, 17, 0⟩
def BST_PARK_CHECK : Nat := 0x800000 + 0x20
def BST_PARK_CHECK.code : Fld := ⟨BST_PARK_CHECK, 3, 0⟩
def BST_CHALLENGE (i : Nat) : Nat := 0x800000 + 0x40 + 4 * i
def BST_CHALLENGE.word (i : Nat) : Fld := ⟨BST_CHALLENGE i, 31, 0⟩
def BST_ECC : Nat := 0x800000 + 0x60
def BST_ECC.chest_fail : Fld := ⟨BST_ECC, 3, 0⟩
def KVM_STATUS : Nat := 0x900000 + 0x0
def KVM_STATUS.level : Fld := ⟨KVM_STATUS, 8, 8⟩
def KVM_STATUS.held : Fld := ⟨KVM_STATUS, 7, 4⟩
def KVM_STATUS.busy : Fld := ⟨KVM_STATUS, 3, 0⟩
def KVM_CTRL : Nat := 0x900000 + 0x4
def KVM_CTRL.hold : Fld := ⟨KVM_CTRL, 0, 0⟩
def KVM_FLAGS : Nat := 0x900000 + 0x8
def KVM_FLAGS.storage_fault : Fld := ⟨KVM_FLAGS, 2, 2⟩
def KVM_FLAGS.pool_exhausted : Fld := ⟨KVM_FLAGS, 1, 1⟩
def KVM_FLAGS.below_watermark : Fld := ⟨KVM_FLAGS, 0, 0⟩
def KVM_RACE : Nat := 0x900000 + 0xC
def KVM_RACE.fault_race_cnt : Fld := ⟨KVM_RACE, 23, 16⟩
def KVM_RACE.exhaust_race_cnt : Fld := ⟨KVM_RACE, 15, 8⟩
def KVM_RACE.water_race_cnt : Fld := ⟨KVM_RACE, 7, 0⟩
def KVM_OPS_LO : Nat := 0x900000 + 0x10
def KVM_OPS_LO.count : Fld := ⟨KVM_OPS_LO, 31, 0⟩
def KVM_OPS_HI : Nat := 0x900000 + 0x14
def KVM_OPS_HI.count : Fld := ⟨KVM_OPS_HI, 31, 0⟩
def KVM_EVICT_LO : Nat := 0x900000 + 0x18
def KVM_EVICT_LO.count : Fld := ⟨KVM_EVICT_LO, 31, 0⟩
def KVM_EVICT_HI : Nat := 0x900000 + 0x1C
def KVM_EVICT_HI.count : Fld := ⟨KVM_EVICT_HI, 31, 0⟩
def KVM_FAULT_SEQ : Nat := 0x900000 + 0x20
def KVM_FAULT_SEQ.seq : Fld := ⟨KVM_FAULT_SEQ, 19, 0⟩
def KVM_FREE (i : Nat) : Nat := 0x900000 + 0x100 + 4 * i
def KVM_FREE.free_pages (i : Nat) : Fld := ⟨KVM_FREE i, 17, 0⟩
def LAY_STATUS : Nat := 0xA00000 + 0x0
def LAY_STATUS.barrier_wait : Fld := ⟨LAY_STATUS, 15, 15⟩
def LAY_STATUS.switching : Fld := ⟨LAY_STATUS, 14, 14⟩
def LAY_STATUS.act : Fld := ⟨LAY_STATUS, 13, 8⟩
def LAY_STATUS.state : Fld := ⟨LAY_STATUS, 2, 0⟩
def LAY_CTRL : Nat := 0xA00000 + 0x4
def LAY_CTRL.unload : Fld := ⟨LAY_CTRL, 2, 2⟩
def LAY_CTRL.start : Fld := ⟨LAY_CTRL, 1, 1⟩
def LAY_CTRL.load : Fld := ⟨LAY_CTRL, 0, 0⟩
def LAY_SRC_LO : Nat := 0xA00000 + 0x8
def LAY_SRC_LO.address : Fld := ⟨LAY_SRC_LO, 31, 0⟩
def LAY_SRC_HI : Nat := 0xA00000 + 0xC
def LAY_SRC_HI.address : Fld := ⟨LAY_SRC_HI, 31, 0⟩
def LAY_LEN : Nat := 0xA00000 + 0x10
def LAY_LEN.units : Fld := ⟨LAY_LEN, 24, 0⟩
def LAY_REFUSE : Nat := 0xA00000 + 0x14
def LAY_REFUSE.code : Fld := ⟨LAY_REFUSE, 28, 24⟩
def LAY_REFUSE.section : Fld := ⟨LAY_REFUSE, 23, 16⟩
def LAY_REFUSE.item : Fld := ⟨LAY_REFUSE, 15, 0⟩
def LAY_ID_LO : Nat := 0xA00000 + 0x18
def LAY_ID_LO.value : Fld := ⟨LAY_ID_LO, 31, 0⟩
def LAY_ID_HI : Nat := 0xA00000 + 0x1C
def LAY_ID_HI.value : Fld := ⟨LAY_ID_HI, 31, 0⟩
def LAY_START_LO : Nat := 0xA00000 + 0x20
def LAY_START_LO.value : Fld := ⟨LAY_START_LO, 31, 0⟩
def LAY_START_HI : Nat := 0xA00000 + 0x24
def LAY_START_HI.value : Fld := ⟨LAY_START_HI, 31, 0⟩
def LAY_EPOCH_LO : Nat := 0xA00000 + 0x28
def LAY_EPOCH_LO.value : Fld := ⟨LAY_EPOCH_LO, 31, 0⟩
def LAY_EPOCH_HI : Nat := 0xA00000 + 0x2C
def LAY_EPOCH_HI.value : Fld := ⟨LAY_EPOCH_HI, 31, 0⟩
def LAY_SLIP_LO : Nat := 0xA00000 + 0x30
def LAY_SLIP_LO.value : Fld := ⟨LAY_SLIP_LO, 31, 0⟩
def LAY_SLIP_HI : Nat := 0xA00000 + 0x34
def LAY_SLIP_HI.value : Fld := ⟨LAY_SLIP_HI, 31, 0⟩
def LAY_LAST_SLIP : Nat := 0xA00000 + 0x38
def LAY_LAST_SLIP.value : Fld := ⟨LAY_LAST_SLIP, 31, 0⟩
def LAY_FLAGS : Nat := 0xA00000 + 0x3C
def LAY_FLAGS.time_unlock : Fld := ⟨LAY_FLAGS, 4, 4⟩
def LAY_FLAGS.group_broken : Fld := ⟨LAY_FLAGS, 3, 3⟩
def LAY_FLAGS.timetable_invalid : Fld := ⟨LAY_FLAGS, 2, 2⟩
def LAY_FLAGS.demoted : Fld := ⟨LAY_FLAGS, 1, 1⟩
def LAY_FLAGS.slipped : Fld := ⟨LAY_FLAGS, 0, 0⟩
def LAY_RACE : Nat := 0xA00000 + 0x40
def LAY_RACE.broken_race_cnt : Fld := ⟨LAY_RACE, 31, 24⟩
def LAY_RACE.invalid_race_cnt : Fld := ⟨LAY_RACE, 23, 16⟩
def LAY_RACE.demoted_race_cnt : Fld := ⟨LAY_RACE, 15, 8⟩
def LAY_RACE.slipped_race_cnt : Fld := ⟨LAY_RACE, 7, 0⟩
def LAY_DEMOTED : Nat := 0xA00000 + 0x44
def LAY_DEMOTED.value : Fld := ⟨LAY_DEMOTED, 31, 0⟩
def LAY_FTIME_LO : Nat := 0xA00000 + 0x48
def LAY_FTIME_LO.value : Fld := ⟨LAY_FTIME_LO, 31, 0⟩
def LAY_FTIME_HI : Nat := 0xA00000 + 0x4C
def LAY_FTIME_HI.value : Fld := ⟨LAY_FTIME_HI, 31, 0⟩
def LAY_GROUP : Nat := 0xA00000 + 0x50
def LAY_GROUP.locked : Fld := ⟨LAY_GROUP, 23, 23⟩
def LAY_GROUP.rank : Fld := ⟨LAY_GROUP, 22, 12⟩
def LAY_GROUP.device_id : Fld := ⟨LAY_GROUP, 11, 0⟩
def LAY_GROUP_SIZE : Nat := 0xA00000 + 0x54
def LAY_GROUP_SIZE.members : Fld := ⟨LAY_GROUP_SIZE, 11, 0⟩
def COR_ARR_CTRL (k : Nat) : Nat := corBase k + 0x1000
def COR_ARR_CTRL.hold (k : Nat) : Fld := ⟨COR_ARR_CTRL k, 0, 0⟩
def COR_ARR_DUTY (k : Nat) : Nat := corBase k + 0x1004
def COR_ARR_DUTY.duty_active (k : Nat) : Fld := ⟨COR_ARR_DUTY k, 14, 8⟩
def COR_ARR_DUTY.duty (k : Nat) : Fld := ⟨COR_ARR_DUTY k, 6, 0⟩
def COR_ARR_STATUS (k : Nat) : Nat := corBase k + 0x1008
def COR_ARR_STATUS.sub_granted (k : Nat) : Fld := ⟨COR_ARR_STATUS k, 31, 16⟩
def COR_ARR_STATUS.held (k : Nat) : Fld := ⟨COR_ARR_STATUS k, 4, 4⟩
def COR_ARR_STATUS.drained (k : Nat) : Fld := ⟨COR_ARR_STATUS k, 3, 3⟩
def COR_ARR_STATUS.issuing (k : Nat) : Fld := ⟨COR_ARR_STATUS k, 2, 2⟩
def COR_ARR_STATUS.mode (k : Nat) : Fld := ⟨COR_ARR_STATUS k, 1, 0⟩
def COR_ARR_FLAGS (k : Nat) : Nat := corBase k + 0x100C
def COR_ARR_FLAGS.landing_overrun (k : Nat) : Fld := ⟨COR_ARR_FLAGS k, 3, 3⟩
def COR_ARR_FLAGS.nan_seen (k : Nat) : Fld := ⟨COR_ARR_FLAGS k, 2, 2⟩
def COR_ARR_FLAGS.exactness_lost (k : Nat) : Fld := ⟨COR_ARR_FLAGS k, 1, 1⟩
def COR_ARR_FLAGS.overflow (k : Nat) : Fld := ⟨COR_ARR_FLAGS k, 0, 0⟩
def COR_ARR_RACE (k : Nat) : Nat := corBase k + 0x1010
def COR_ARR_RACE.overrun_race_cnt (k : Nat) : Fld := ⟨COR_ARR_RACE k, 31, 24⟩
def COR_ARR_RACE.nan_race_cnt (k : Nat) : Fld := ⟨COR_ARR_RACE k, 23, 16⟩
def COR_ARR_RACE.exact_race_cnt (k : Nat) : Fld := ⟨COR_ARR_RACE k, 15, 8⟩
def COR_ARR_RACE.overflow_race_cnt (k : Nat) : Fld := ⟨COR_ARR_RACE k, 7, 0⟩
def COR_ARR_SUBFLAGS (k : Nat) : Nat := corBase k + 0x1014
def COR_ARR_SUBFLAGS.sub_exact (k : Nat) : Fld := ⟨COR_ARR_SUBFLAGS k, 31, 16⟩
def COR_ARR_SUBFLAGS.sub_overflow (k : Nat) : Fld := ⟨COR_ARR_SUBFLAGS k, 15, 0⟩
def COR_ARR_SLOTS_LO (k : Nat) : Nat := corBase k + 0x1018
def COR_ARR_SLOTS_LO.slots (k : Nat) : Fld := ⟨COR_ARR_SLOTS_LO k, 31, 0⟩
def COR_ARR_SLOTS_HI (k : Nat) : Nat := corBase k + 0x101C
def COR_ARR_SLOTS_HI.slots (k : Nat) : Fld := ⟨COR_ARR_SLOTS_HI k, 31, 0⟩
def COR_ARR_WAIT_FILL (k : Nat) : Nat := corBase k + 0x1020
def COR_ARR_WAIT_FILL.wait (k : Nat) : Fld := ⟨COR_ARR_WAIT_FILL k, 31, 0⟩
def COR_ARR_WAIT_ARRIVE (k : Nat) : Nat := corBase k + 0x1024
def COR_ARR_WAIT_ARRIVE.wait (k : Nat) : Fld := ⟨COR_ARR_WAIT_ARRIVE k, 31, 0⟩
def COR_ARR_WAIT_ACC (k : Nat) : Nat := corBase k + 0x1028
def COR_ARR_WAIT_ACC.wait (k : Nat) : Fld := ⟨COR_ARR_WAIT_ACC k, 31, 0⟩
def COR_ARR_WAIT_DUTY (k : Nat) : Nat := corBase k + 0x102C
def COR_ARR_WAIT_DUTY.wait (k : Nat) : Fld := ⟨COR_ARR_WAIT_DUTY k, 31, 0⟩
def COR_ARR_OVERRUN (k : Nat) : Nat := corBase k + 0x1030
def COR_ARR_OVERRUN.landing_index (k : Nat) : Fld := ⟨COR_ARR_OVERRUN k, 11, 0⟩
def COR_ARR_ARRIVE (k : Nat) (i : Nat) : Nat := corBase k + 0x1400 + 4 * i
def COR_ARR_ARRIVE.arrived (k : Nat) (i : Nat) : Fld := ⟨COR_ARR_ARRIVE k i, 31, 0⟩
def COR_VEC_STATUS (k : Nat) : Nat := corBase k + 0x2000
def COR_VEC_STATUS.pc (k : Nat) : Fld := ⟨COR_VEC_STATUS k, 13, 4⟩
def COR_VEC_STATUS.wait_input (k : Nat) : Fld := ⟨COR_VEC_STATUS k, 2, 2⟩
def COR_VEC_STATUS.busy_pro (k : Nat) : Fld := ⟨COR_VEC_STATUS k, 1, 1⟩
def COR_VEC_STATUS.busy_epi (k : Nat) : Fld := ⟨COR_VEC_STATUS k, 0, 0⟩
def COR_VEC_FLAGS (k : Nat) : Nat := corBase k + 0x2004
def COR_VEC_FLAGS.conv_overflow (k : Nat) : Fld := ⟨COR_VEC_FLAGS k, 1, 1⟩
def COR_VEC_FLAGS.conv_invalid (k : Nat) : Fld := ⟨COR_VEC_FLAGS k, 0, 0⟩
def COR_VEC_RACE (k : Nat) : Nat := corBase k + 0x2008
def COR_VEC_RACE.overflow_race_cnt (k : Nat) : Fld := ⟨COR_VEC_RACE k, 15, 8⟩
def COR_VEC_RACE.invalid_race_cnt (k : Nat) : Fld := ⟨COR_VEC_RACE k, 7, 0⟩
def COR_VEC_ISSUE_LO (k : Nat) : Nat := corBase k + 0x2010
def COR_VEC_ISSUE_LO.issued (k : Nat) : Fld := ⟨COR_VEC_ISSUE_LO k, 31, 0⟩
def COR_VEC_ISSUE_HI (k : Nat) : Nat := corBase k + 0x2014
def COR_VEC_ISSUE_HI.issued (k : Nat) : Fld := ⟨COR_VEC_ISSUE_HI k, 31, 0⟩
def COR_VEC_WAIT_DEP (k : Nat) : Nat := corBase k + 0x2018
def COR_VEC_WAIT_DEP.wait (k : Nat) : Fld := ⟨COR_VEC_WAIT_DEP k, 31, 0⟩
def COR_VEC_WAIT_IN (k : Nat) : Nat := corBase k + 0x201C
def COR_VEC_WAIT_IN.wait (k : Nat) : Fld := ⟨COR_VEC_WAIT_IN k, 31, 0⟩
def COR_VEC_WAIT_SEND (k : Nat) : Nat := corBase k + 0x2020
def COR_VEC_WAIT_SEND.wait (k : Nat) : Fld := ⟨COR_VEC_WAIT_SEND k, 31, 0⟩
def COR_VEC_CHAINS (k : Nat) : Nat := corBase k + 0x2024
def COR_VEC_CHAINS.words (k : Nat) : Fld := ⟨COR_VEC_CHAINS k, 10, 0⟩
def COR_FUS_STATUS (k : Nat) : Nat := corBase k + 0x3000
def COR_FUS_STATUS.wait_vector (k : Nat) : Fld := ⟨COR_FUS_STATUS k, 2, 2⟩
def COR_FUS_STATUS.finish_busy (k : Nat) : Fld := ⟨COR_FUS_STATUS k, 1, 1⟩
def COR_FUS_STATUS.pair_active (k : Nat) : Fld := ⟨COR_FUS_STATUS k, 0, 0⟩
def COR_FUS_FLAGS (k : Nat) : Nat := corBase k + 0x3004
def COR_FUS_FLAGS.nan_row (k : Nat) : Fld := ⟨COR_FUS_FLAGS k, 1, 1⟩
def COR_FUS_FLAGS.empty_row (k : Nat) : Fld := ⟨COR_FUS_FLAGS k, 0, 0⟩
def COR_FUS_RACE (k : Nat) : Nat := corBase k + 0x3008
def COR_FUS_RACE.nan_race_cnt (k : Nat) : Fld := ⟨COR_FUS_RACE k, 15, 8⟩
def COR_FUS_RACE.empty_race_cnt (k : Nat) : Fld := ⟨COR_FUS_RACE k, 7, 0⟩
def COR_FUS_RESCALE_LO (k : Nat) : Nat := corBase k + 0x3010
def COR_FUS_RESCALE_LO.rescales (k : Nat) : Fld := ⟨COR_FUS_RESCALE_LO k, 31, 0⟩
def COR_FUS_RESCALE_HI (k : Nat) : Nat := corBase k + 0x3014
def COR_FUS_RESCALE_HI.rescales (k : Nat) : Fld := ⟨COR_FUS_RESCALE_HI k, 31, 0⟩
def SLC_STATUS (k : Nat) : Nat := slcBase k + 0x0
def SLC_STATUS.logical_slice (k : Nat) : Fld := ⟨SLC_STATUS k, 23, 20⟩
def SLC_STATUS.ch_working (k : Nat) : Fld := ⟨SLC_STATUS k, 19, 11⟩
def SLC_STATUS.spare_for (k : Nat) : Fld := ⟨SLC_STATUS k, 10, 7⟩
def SLC_STATUS.state (k : Nat) : Fld := ⟨SLC_STATUS k, 3, 2⟩
def SLC_STATUS.offline (k : Nat) : Fld := ⟨SLC_STATUS k, 1, 1⟩
def SLC_FLAGS (k : Nat) : Nat := slcBase k + 0x4
def SLC_FLAGS.channel_retired (k : Nat) : Fld := ⟨SLC_FLAGS k, 3, 3⟩
def SLC_FLAGS.spare_rows_out (k : Nat) : Fld := ⟨SLC_FLAGS k, 2, 2⟩
def SLC_FLAGS.ue (k : Nat) : Fld := ⟨SLC_FLAGS k, 1, 1⟩
def SLC_FLAGS.ce (k : Nat) : Fld := ⟨SLC_FLAGS k, 0, 0⟩
def SLC_RACE (k : Nat) : Nat := slcBase k + 0x8
def SLC_RACE.retire_race_cnt (k : Nat) : Fld := ⟨SLC_RACE k, 31, 24⟩
def SLC_RACE.spare_race_cnt (k : Nat) : Fld := ⟨SLC_RACE k, 23, 16⟩
def SLC_RACE.ue_race_cnt (k : Nat) : Fld := ⟨SLC_RACE k, 15, 8⟩
def SLC_RACE.ce_race_cnt (k : Nat) : Fld := ⟨SLC_RACE k, 7, 0⟩
def SLC_CE_CNT (k : Nat) : Nat := slcBase k + 0xC
def SLC_CE_CNT.corrected (k : Nat) : Fld := ⟨SLC_CE_CNT k, 31, 0⟩
def SLC_CH_CTRL (k : Nat) : Nat := slcBase k + 0x10
def SLC_CH_CTRL.ce_thresh (k : Nat) : Fld := ⟨SLC_CH_CTRL k, 31, 16⟩
def SLC_CH_CTRL.retire (k : Nat) : Fld := ⟨SLC_CH_CTRL k, 8, 8⟩
def SLC_CH_CTRL.channel (k : Nat) : Fld := ⟨SLC_CH_CTRL k, 3, 0⟩
def SLC_ROW (k : Nat) : Nat := slcBase k + 0x14
def SLC_ROW.spare_rows_min (k : Nat) : Fld := ⟨SLC_ROW k, 23, 16⟩
def SLC_ROW.banks_no_spare (k : Nat) : Fld := ⟨SLC_ROW k, 15, 8⟩
def SLC_ROW.row_thresh (k : Nat) : Fld := ⟨SLC_ROW k, 7, 0⟩
def SLC_BANDS (k : Nat) : Nat := slcBase k + 0x18
def SLC_BANDS.owed_max (k : Nat) : Fld := ⟨SLC_BANDS k, 19, 16⟩
def SLC_BANDS.band (k : Nat) : Fld := ⟨SLC_BANDS k, 15, 0⟩
def SLC_SCRUB (k : Nat) : Nat := slcBase k + 0x1C
def SLC_SCRUB.passes (k : Nat) : Fld := ⟨SLC_SCRUB k, 31, 16⟩
def SLC_MIGRATE (k : Nat) : Nat := slcBase k + 0x20
def SLC_MIGRATE.sectors_left (k : Nat) : Fld := ⟨SLC_MIGRATE k, 24, 0⟩
def SLC_MARGIN_CTRL (k : Nat) : Nat := slcBase k + 0x30
def SLC_MARGIN_CTRL.duration (k : Nat) : Fld := ⟨SLC_MARGIN_CTRL k, 23, 20⟩
def SLC_MARGIN_CTRL.v_offset (k : Nat) : Fld := ⟨SLC_MARGIN_CTRL k, 19, 14⟩
def SLC_MARGIN_CTRL.t_offset (k : Nat) : Fld := ⟨SLC_MARGIN_CTRL k, 13, 8⟩
def SLC_MARGIN_CTRL.start (k : Nat) : Fld := ⟨SLC_MARGIN_CTRL k, 4, 4⟩
def SLC_MARGIN_CTRL.phys_channel (k : Nat) : Fld := ⟨SLC_MARGIN_CTRL k, 3, 0⟩
def SLC_MARGIN_RESULT (k : Nat) : Nat := slcBase k + 0x34
def SLC_MARGIN_RESULT.done (k : Nat) : Fld := ⟨SLC_MARGIN_RESULT k, 31, 31⟩
def SLC_MARGIN_RESULT.refused (k : Nat) : Fld := ⟨SLC_MARGIN_RESULT k, 30, 30⟩
def SLC_MARGIN_RESULT.errors (k : Nat) : Fld := ⟨SLC_MARGIN_RESULT k, 29, 0⟩
def PUP_STATUS (k : Nat) : Nat := slcBase k + 0x8000
def PUP_STATUS.queued (k : Nat) : Fld := ⟨PUP_STATUS k, 20, 16⟩
def PUP_STATUS.host_refused (k : Nat) : Fld := ⟨PUP_STATUS k, 4, 4⟩
def PUP_STATUS.prog_valid (k : Nat) : Fld := ⟨PUP_STATUS k, 3, 3⟩
def PUP_STATUS.halted (k : Nat) : Fld := ⟨PUP_STATUS k, 2, 2⟩
def PUP_STATUS.cue_active (k : Nat) : Fld := ⟨PUP_STATUS k, 1, 1⟩
def PUP_STATUS.run_active (k : Nat) : Fld := ⟨PUP_STATUS k, 0, 0⟩
def PUP_CTRL (k : Nat) : Nat := slcBase k + 0x8004
def PUP_CTRL.halt (k : Nat) : Fld := ⟨PUP_CTRL k, 0, 0⟩
def PUP_FLAGS (k : Nat) : Nat := slcBase k + 0x8008
def PUP_FLAGS.bank_lost (k : Nat) : Fld := ⟨PUP_FLAGS k, 3, 3⟩
def PUP_FLAGS.stray (k : Nat) : Fld := ⟨PUP_FLAGS k, 2, 2⟩
def PUP_FLAGS.col_ue (k : Nat) : Fld := ⟨PUP_FLAGS k, 1, 1⟩
def PUP_FLAGS.claim_conflict (k : Nat) : Fld := ⟨PUP_FLAGS k, 0, 0⟩
def PUP_RACE (k : Nat) : Nat := slcBase k + 0x800C
def PUP_RACE.lost_race_cnt (k : Nat) : Fld := ⟨PUP_RACE k, 31, 24⟩
def PUP_RACE.stray_race_cnt (k : Nat) : Fld := ⟨PUP_RACE k, 23, 16⟩
def PUP_RACE.ue_race_cnt (k : Nat) : Fld := ⟨PUP_RACE k, 15, 8⟩
def PUP_RACE.conflict_race_cnt (k : Nat) : Fld := ⟨PUP_RACE k, 7, 0⟩
def PUP_CLAIMS (k : Nat) : Nat := slcBase k + 0x8010
def PUP_CLAIMS.defined (k : Nat) : Fld := ⟨PUP_CLAIMS k, 31, 16⟩
def PUP_CLAIMS.held (k : Nat) : Fld := ⟨PUP_CLAIMS k, 15, 0⟩
def PUP_CONFLICT_LO (k : Nat) : Nat := slcBase k + 0x8018
def PUP_CONFLICT_LO.address (k : Nat) : Fld := ⟨PUP_CONFLICT_LO k, 31, 0⟩
def PUP_CONFLICT_HI (k : Nat) : Nat := slcBase k + 0x801C
def PUP_CONFLICT_HI.address (k : Nat) : Fld := ⟨PUP_CONFLICT_HI k, 6, 0⟩
def PUP_DEAD (k : Nat) (i : Nat) : Nat := slcBase k + 0x8020 + 4 * i
def PUP_DEAD.dead (k : Nat) (i : Nat) : Fld := ⟨PUP_DEAD k i, 31, 0⟩
def PUP_CUES_LO (k : Nat) : Nat := slcBase k + 0x8030
def PUP_CUES_LO.cues (k : Nat) : Fld := ⟨PUP_CUES_LO k, 31, 0⟩
def PUP_CUES_HI (k : Nat) : Nat := slcBase k + 0x8034
def PUP_CUES_HI.cues (k : Nat) : Fld := ⟨PUP_CUES_HI k, 31, 0⟩
def PUP_GAP_REFRESH (k : Nat) : Nat := slcBase k + 0x8038
def PUP_GAP_REFRESH.value (k : Nat) : Fld := ⟨PUP_GAP_REFRESH k, 31, 0⟩
def PUP_HOLD_MAX (k : Nat) : Nat := slcBase k + 0x803C
def PUP_HOLD_MAX.value (k : Nat) : Fld := ⟨PUP_HOLD_MAX k, 31, 0⟩
def PUP_REFUSED (k : Nat) : Nat := slcBase k + 0x8040
def PUP_REFUSED.refused (k : Nat) : Fld := ⟨PUP_REFUSED k, 31, 0⟩
def PUP_RUN (k : Nat) (i : Nat) : Nat := slcBase k + 0x8080 + 4 * i
def PUP_RUN.word (k : Nat) (i : Nat) : Fld := ⟨PUP_RUN k i, 31, 0⟩
def PUP_RUN_GO (k : Nat) : Nat := slcBase k + 0x80C0
def PUP_RUN_GO.go (k : Nat) : Fld := ⟨PUP_RUN_GO k, 0, 0⟩
def LNK_ROUTE (k : Nat) : Nat := lnkBase k + 0x0
def LNK_ROUTE.edges_retired (k : Nat) : Fld := ⟨LNK_ROUTE k, 11, 8⟩
def LNK_ROUTE.route (k : Nat) : Fld := ⟨LNK_ROUTE k, 7, 0⟩
def LNK_MESH_CE (k : Nat) : Nat := lnkBase k + 0x4
def LNK_MESH_CE.count (k : Nat) : Fld := ⟨LNK_MESH_CE k, 31, 0⟩
def LNK_MESH_UE (k : Nat) : Nat := lnkBase k + 0x8
def LNK_MESH_UE.count (k : Nat) : Fld := ⟨LNK_MESH_UE k, 31, 0⟩
def LNK_S_STATUS (k : Nat) : Nat := sideBase k + 0x0
def LNK_S_STATUS.attempts (k : Nat) : Fld := ⟨LNK_S_STATUS k, 7, 6⟩
def LNK_S_STATUS.state (k : Nat) : Fld := ⟨LNK_S_STATUS k, 2, 0⟩
def LNK_S_CTRL (k : Nat) : Nat := sideBase k + 0x4
def LNK_S_CTRL.retire (k : Nat) : Fld := ⟨LNK_S_CTRL k, 2, 2⟩
def LNK_S_CTRL.full_retrain (k : Nat) : Fld := ⟨LNK_S_CTRL k, 1, 1⟩
def LNK_S_CTRL.retrain (k : Nat) : Fld := ⟨LNK_S_CTRL k, 0, 0⟩
def LNK_S_WIDTH (k : Nat) : Nat := sideBase k + 0x8
def LNK_S_WIDTH.width (k : Nat) : Fld := ⟨LNK_S_WIDTH k, 31, 0⟩
def LNK_S_FLAGS (k : Nat) : Nat := sideBase k + 0xC
def LNK_S_FLAGS.retired (k : Nat) : Fld := ⟨LNK_S_FLAGS k, 3, 3⟩
def LNK_S_FLAGS.width_disagree (k : Nat) : Fld := ⟨LNK_S_FLAGS k, 2, 2⟩
def LNK_S_FLAGS.protocol (k : Nat) : Fld := ⟨LNK_S_FLAGS k, 1, 1⟩
def LNK_S_FLAGS.replay (k : Nat) : Fld := ⟨LNK_S_FLAGS k, 0, 0⟩
def LNK_S_RACE (k : Nat) : Nat := sideBase k + 0x10
def LNK_S_RACE.retired_race_cnt (k : Nat) : Fld := ⟨LNK_S_RACE k, 31, 24⟩
def LNK_S_RACE.disagree_race_cnt (k : Nat) : Fld := ⟨LNK_S_RACE k, 23, 16⟩
def LNK_S_RACE.protocol_race_cnt (k : Nat) : Fld := ⟨LNK_S_RACE k, 15, 8⟩
def LNK_S_RACE.replay_race_cnt (k : Nat) : Fld := ⟨LNK_S_RACE k, 7, 0⟩
def LNK_S_REPLAYS (k : Nat) : Nat := sideBase k + 0x14
def LNK_S_REPLAYS.count (k : Nat) : Fld := ⟨LNK_S_REPLAYS k, 31, 0⟩
def LNK_S_CRC (k : Nat) : Nat := sideBase k + 0x18
def LNK_S_CRC.count (k : Nat) : Fld := ⟨LNK_S_CRC k, 31, 0⟩
def LNK_S_MODSEL (k : Nat) : Nat := sideBase k + 0x1C
def LNK_S_MODSEL.value (k : Nat) : Fld := ⟨LNK_S_MODSEL k, 3, 0⟩
def LNK_S_LMASK_LO (k : Nat) : Nat := sideBase k + 0x20
def LNK_S_LMASK_LO.value (k : Nat) : Fld := ⟨LNK_S_LMASK_LO k, 31, 0⟩
def LNK_S_LMASK_HI (k : Nat) : Nat := sideBase k + 0x24
def LNK_S_LMASK_HI.value (k : Nat) : Fld := ⟨LNK_S_LMASK_HI k, 31, 0⟩
def LNK_S_RMASK_LO (k : Nat) : Nat := sideBase k + 0x28
def LNK_S_RMASK_LO.value (k : Nat) : Fld := ⟨LNK_S_RMASK_LO k, 31, 0⟩
def LNK_S_RMASK_HI (k : Nat) : Nat := sideBase k + 0x2C
def LNK_S_RMASK_HI.value (k : Nat) : Fld := ⟨LNK_S_RMASK_HI k, 31, 0⟩
def CHS_BUDGET (k : Nat) : Nat := chsBase k + 0x0
def CHS_BUDGET.active (k : Nat) : Fld := ⟨CHS_BUDGET k, 27, 16⟩
def CHS_BUDGET.budget (k : Nat) : Fld := ⟨CHS_BUDGET k, 11, 0⟩
def CHS_POWER (k : Nat) : Nat := chsBase k + 0x4
def CHS_POWER.ceiling (k : Nat) : Fld := ⟨CHS_POWER k, 27, 16⟩
def CHS_POWER.power (k : Nat) : Fld := ⟨CHS_POWER k, 11, 0⟩
def CHS_GOV (k : Nat) : Nat := chsBase k + 0x8
def CHS_GOV.chest_fallback (k : Nat) : Fld := ⟨CHS_GOV k, 25, 25⟩
def CHS_GOV.fallback (k : Nat) : Fld := ⟨CHS_GOV k, 24, 16⟩
def CHS_GOV.aclk (k : Nat) : Fld := ⟨CHS_GOV k, 10, 8⟩
def CHS_GOV.duty (k : Nat) : Fld := ⟨CHS_GOV k, 6, 0⟩
def CHS_FORECAST (k : Nat) : Nat := chsBase k + 0xC
def CHS_FORECAST.sensor (k : Nat) : Fld := ⟨CHS_FORECAST k, 22, 16⟩
def CHS_FORECAST.temp (k : Nat) : Fld := ⟨CHS_FORECAST k, 11, 0⟩
def CHS_BROKEN (k : Nat) (i : Nat) : Nat := chsBase k + 0x10 + 4 * i
def CHS_BROKEN.broken (k : Nat) (i : Nat) : Fld := ⟨CHS_BROKEN k i, 31, 0⟩
def CHS_DISAGREE (k : Nat) : Nat := chsBase k + 0x20
def CHS_DISAGREE.plinth (k : Nat) : Fld := ⟨CHS_DISAGREE k, 21, 18⟩
def CHS_DISAGREE.die (k : Nat) : Fld := ⟨CHS_DISAGREE k, 17, 0⟩
def CHS_TEMP (k : Nat) (i : Nat) : Nat := chsBase k + 0x100 + 4 * i
def CHS_TEMP.model (k : Nat) (i : Nat) : Fld := ⟨CHS_TEMP k i, 31, 16⟩
def CHS_TEMP.reading (k : Nat) (i : Nat) : Fld := ⟨CHS_TEMP k i, 15, 0⟩

/-! ### Field tables by block -/

/-- Fields of the register at offset o of a glb block. -/
def glbFields (_k o : Nat) : List FieldSpec :=
  if 0x100 ≤ o ∧ o < 0x100 + 4 * 4 then [⟨27, 24, .ro, 0xF⟩, ⟨21, 14, .ro, 0xFF⟩, ⟨13, 5, .ro, 0⟩, ⟨4, 4, .ro, 1⟩, ⟨3, 0, .ro, 8⟩]
  else if o = 0x110 then [⟨5, 2, .ro, 0⟩, ⟨1, 0, .ro, 1⟩]
  else if o = 0x114 then [⟨8, 8, .ro, 0⟩, ⟨7, 4, .ro, 4⟩, ⟨3, 0, .ro, 4⟩]
  else if o = 0x200 then [⟨8, 8, .rw, 0⟩, ⟨7, 4, .rw, 0xF⟩, ⟨2, 0, .wo, 0⟩]
  else if o = 0x204 then [⟨15, 15, .ro, 0⟩, ⟨14, 14, .ro, 0⟩, ⟨13, 2, .ro, 2⟩]
  else if o = 0x208 then [⟨31, 28, .ro, 0⟩, ⟨23, 16, .ro, 0⟩, ⟨15, 0, .ro, 0⟩]
  else if o = 0x210 then [⟨31, 0, .rw, 0⟩]
  else if o = 0x214 then [⟨31, 0, .rw, 0⟩]
  else if o = 0x218 then [⟨17, 0, .rw, 0⟩]
  else if o = 0x220 then [⟨31, 0, .rw, 0⟩]
  else if o = 0x224 then [⟨31, 0, .rw, 0⟩]
  else if o = 0x228 then [⟨17, 0, .rw, 0⟩]
  else if o = 0x230 then [⟨31, 0, .rw, 0⟩]
  else if o = 0x234 then [⟨31, 0, .rw, 0⟩]
  else if o = 0x238 then [⟨17, 0, .rw, 0⟩]
  else if o = 0x23C then [⟨31, 0, .ro, 0⟩]
  else if 0x240 ≤ o ∧ o < 0x240 + 4 * 4 then [⟨23, 16, .ro, 0⟩, ⟨15, 8, .ro, 0⟩, ⟨7, 0, .ro, 0⟩]
  else if o = 0x300 then [⟨10, 10, .rw, 0⟩, ⟨8, 8, .wo, 0⟩, ⟨7, 4, .rw, 0⟩, ⟨3, 2, .rw, 0⟩, ⟨1, 0, .rw, 0⟩]
  else if o = 0x304 then [⟨31, 31, .ro, 0⟩, ⟨30, 28, .ro, 0⟩, ⟨27, 26, .ro, 0⟩, ⟨25, 24, .ro, 0⟩, ⟨23, 20, .ro, 0⟩, ⟨15, 0, .ro, 0⟩]
  else if o = 0x308 then [⟨31, 0, .rc, 0⟩]
  else if o = 0x30C then [⟨31, 0, .rc, 0⟩]
  else if o = 0x310 then [⟨3, 0, .ro, 0⟩]
  else if o = 0x400 then [⟨17, 0, .w1c, 0⟩]
  else if o = 0x404 then [⟨17, 0, .rw, 0⟩]
  else if 0x408 ≤ o ∧ o < 0x408 + 4 * 5 then [⟨31, 0, .rc, 0⟩]
  else []

/-- Fields of the register at offset o of a hq block. -/
def hqFields (_k o : Nat) : List FieldSpec :=
  if o = 0x0 then [⟨15, 0, .ro, 0⟩]
  else if o = 0x4 then [⟨3, 3, .w1c, 0⟩, ⟨2, 2, .w1c, 0⟩, ⟨1, 1, .w1c, 0⟩, ⟨0, 0, .w1c, 0⟩]
  else if o = 0x8 then [⟨31, 0, .rc, 0⟩]
  else if o = 0xC then [⟨31, 0, .rc, 0⟩]
  else if o = 0x10 then [⟨31, 0, .rc, 0⟩]
  else if 0x100 ≤ o ∧ o < 0x100 + 4 * 16 then [⟨31, 16, .rw, 0⟩, ⟨15, 0, .rw, 0xFFFF⟩]
  else []

/-- Fields of the register at offset o of a tray block. -/
def trayFields (_k o : Nat) : List FieldSpec :=
  if o = 0x0 then [⟨25, 16, .rw, 0⟩, ⟨8, 4, .rw, 4⟩, ⟨1, 1, .rw, 0⟩, ⟨0, 0, .rw, 0⟩]
  else if o = 0x4 then [⟨31, 15, .ro, 0⟩, ⟨11, 8, .ro, 0⟩, ⟨2, 0, .ro, 0⟩]
  else if o = 0x8 then [⟨31, 0, .rw, 0⟩]
  else if o = 0xC then [⟨31, 0, .rw, 0⟩]
  else if o = 0x10 then [⟨31, 0, .rw, 0⟩]
  else if o = 0x14 then [⟨31, 0, .rw, 0⟩]
  else if o = 0x18 then [⟨31, 0, .rw, 0⟩]
  else if o = 0x1C then [⟨31, 0, .rw, 0⟩]
  else if o = 0x20 then [⟨31, 0, .rw, 0⟩]
  else if o = 0x24 then [⟨31, 0, .ro, 0⟩]
  else if o = 0x28 then [⟨31, 0, .ro, 0⟩]
  else if o = 0x2C then [⟨31, 0, .rw, 0⟩]
  else if o = 0x30 then [⟨31, 0, .rw, 0⟩]
  else []

/-- Fields of the register at offset o of a mbx block. -/
def mbxFields (_k o : Nat) : List FieldSpec :=
  if 0x0 ≤ o ∧ o < 0x0 + 4 * 64 then [⟨31, 31, .ro, 0⟩, ⟨12, 8, .ro, 0⟩, ⟨4, 0, .ro, 0⟩]
  else if o = 0x100 then [⟨0, 0, .w1s, 0⟩]
  else if 0x104 ≤ o ∧ o < 0x104 + 4 * 2 then [⟨31, 0, .ro, 0⟩]
  else if 0x10C ≤ o ∧ o < 0x10C + 4 * 2 then [⟨31, 0, .w1c, 0⟩]
  else if 0x114 ≤ o ∧ o < 0x114 + 4 * 2 then [⟨31, 0, .w1c, 0⟩]
  else if 0x120 ≤ o ∧ o < 0x120 + 4 * 16 then [⟨31, 0, .rc, 0⟩]
  else if 0x160 ≤ o ∧ o < 0x160 + 4 * 16 then [⟨31, 0, .rc, 0⟩]
  else if 0x200 ≤ o ∧ o < 0x200 + 4 * 17 then [⟨31, 24, .ro, 0⟩, ⟨2, 0, .ro, 0⟩]
  else []

/-- Fields of the register at offset o of a hole block. -/
def holeFields (_k o : Nat) : List FieldSpec :=
  if 0x0 ≤ o ∧ o < 0x0 + 4 * 16 then [⟨31, 0, .rw, 0⟩]
  else if 0x40 ≤ o ∧ o < 0x40 + 4 * 16 then [⟨31, 0, .ro, 0⟩]
  else if o = 0x80 then [⟨1, 1, .wo, 0⟩, ⟨0, 0, .wo, 0⟩]
  else if o = 0x84 then [⟨31, 24, .ro, 0⟩, ⟨23, 16, .ro, 0⟩, ⟨0, 0, .ro, 0⟩]
  else []

/-- Fields of the register at offset o of a sec block. -/
def secFields (_k o : Nat) : List FieldSpec :=
  if o = 0x0 then [⟨15, 12, .ro, 0⟩, ⟨9, 9, .ro, 0⟩, ⟨8, 8, .ro, 0⟩, ⟨0, 0, .ro, 0⟩]
  else if o = 0x4 then [⟨0, 0, .wo, 0⟩]
  else if o = 0x8 then [⟨2, 2, .w1c, 0⟩, ⟨1, 1, .w1c, 0⟩, ⟨0, 0, .w1c, 0⟩]
  else if o = 0xC then [⟨23, 16, .rc, 0⟩, ⟨15, 8, .rc, 0⟩, ⟨7, 0, .rc, 0⟩]
  else if o = 0x10 then [⟨31, 0, .ro, 0⟩]
  else if o = 0x14 then [⟨31, 0, .ro, 0⟩]
  else if o = 0x18 then [⟨7, 0, .ro, 0⟩]
  else if o = 0x1C then [⟨23, 16, .ro, 0⟩, ⟨15, 8, .ro, 0⟩, ⟨4, 0, .ro, 0⟩]
  else if o = 0x20 then [⟨31, 0, .ro, 0x0E428001⟩]
  else if o = 0x24 then [⟨7, 4, .ro, 0⟩, ⟨2, 0, .ro, 0⟩]
  else if 0x40 ≤ o ∧ o < 0x40 + 4 * 8 then [⟨31, 0, .ro, 0⟩]
  else if 0x100 ≤ o ∧ o < 0x100 + 4 * 48 then [⟨31, 0, .rw, 0⟩]
  else []

/-- Fields of the register at offset o of a thm block. -/
def thmFields (_k o : Nat) : List FieldSpec :=
  if o = 0x0 then [⟨16, 16, .ro, 0⟩, ⟨13, 13, .ro, 0⟩, ⟨12, 12, .ro, 0⟩, ⟨9, 8, .ro, 0⟩, ⟨4, 4, .rw, 0⟩, ⟨1, 0, .rw, 0⟩]
  else if o = 0x4 then [⟨27, 16, .ro, 0x4B0⟩, ⟨11, 0, .rw, 0x4B0⟩]
  else if o = 0x8 then [⟨27, 16, .rc, 0⟩, ⟨11, 0, .ro, 0⟩]
  else if o = 0xC then [⟨31, 16, .rc, 0⟩, ⟨15, 8, .rc, 0⟩, ⟨7, 0, .ro, 0⟩]
  else if o = 0x100 then [⟨27, 24, .ro, 0⟩, ⟨5, 5, .ro, 1⟩, ⟨4, 4, .ro, 0⟩, ⟨3, 3, .ro, 0⟩, ⟨2, 2, .ro, 0⟩, ⟨1, 1, .ro, 0⟩, ⟨0, 0, .ro, 0⟩]
  else if o = 0x104 then [⟨7, 7, .w1c, 0⟩, ⟨6, 6, .w1c, 0⟩, ⟨5, 5, .w1c, 0⟩, ⟨4, 4, .w1c, 0⟩, ⟨3, 3, .w1c, 0⟩, ⟨2, 2, .w1c, 0⟩, ⟨1, 1, .w1c, 0⟩, ⟨0, 0, .w1c, 0⟩]
  else if 0x108 ≤ o ∧ o < 0x108 + 4 * 2 then [⟨31, 0, .rc, 0⟩]
  else if o = 0x110 then [⟨31, 31, .ro, 1⟩, ⟨23, 12, .rw, 0x096⟩, ⟨11, 0, .rw, 0x190⟩]
  else if o = 0x114 then [⟨31, 16, .rw, 0x1450⟩, ⟨15, 0, .ro, 0x1194⟩]
  else if o = 0x118 then [⟨23, 16, .ro, 0x69⟩, ⟨15, 8, .rw, 0x69⟩, ⟨7, 0, .ro, 0x69⟩]
  else if o = 0x11C then [⟨31, 30, .ro, 0⟩, ⟨29, 23, .ro, 0⟩, ⟨11, 0, .ro, 0⟩]
  else []

/-- Fields of the register at offset o of a err block. -/
def errFields (_k o : Nat) : List FieldSpec :=
  if o = 0x0 then [⟨31, 0, .ro, 0⟩]
  else if o = 0x4 then [⟨31, 0, .rw, 0⟩]
  else if o = 0x8 then [⟨2, 2, .w1c, 0⟩, ⟨1, 1, .w1c, 0⟩, ⟨0, 0, .w1c, 0⟩]
  else if o = 0xC then [⟨23, 16, .rc, 0⟩, ⟨15, 8, .rc, 0⟩, ⟨7, 0, .rc, 0⟩]
  else if o = 0x10 then [⟨31, 0, .rc, 0⟩]
  else if 0x14 ≤ o ∧ o < 0x14 + 4 * 5 then [⟨31, 0, .rc, 0⟩]
  else if o = 0x28 then [⟨4, 0, .rw, 2⟩]
  else if o = 0x2C then [⟨9, 4, .rw, 0⟩, ⟨3, 2, .rw, 0⟩, ⟨1, 1, .ro, 0⟩, ⟨0, 0, .wo, 0⟩]
  else if o = 0x30 then [⟨31, 0, .rw, 0⟩]
  else if o = 0x34 then [⟨6, 0, .rw, 0⟩]
  else []

/-- Fields of the register at offset o of a pzl block. -/
def pzlFields (_k o : Nat) : List FieldSpec :=
  if o = 0x0 then [⟨31, 31, .ro, 0⟩, ⟨15, 12, .ro, 4⟩, ⟨11, 0, .ro, 0⟩]
  else if o = 0x4 then [⟨15, 0, .rw, 0⟩]
  else if o = 0x8 then [⟨31, 31, .ro, 0⟩, ⟨30, 30, .ro, 0⟩, ⟨29, 27, .ro, 0⟩, ⟨15, 0, .ro, 0⟩]
  else if o = 0xC then [⟨19, 0, .rw, 0x3E8⟩]
  else if o = 0x10 then [⟨2, 2, .w1c, 0⟩, ⟨1, 1, .w1c, 0⟩, ⟨0, 0, .w1c, 0⟩]
  else if o = 0x14 then [⟨23, 16, .rc, 0⟩, ⟨15, 8, .rc, 0⟩, ⟨7, 0, .rc, 0⟩]
  else if o = 0x18 then [⟨31, 0, .rc, 0⟩]
  else []

/-- Fields of the register at offset o of a port block. -/
def portFields (k o : Nat) : List FieldSpec :=
  if o = 0x0 then [⟨31, 24, .ro, 0⟩, ⟨23, 16, .ro, 0⟩, ⟨15, 8, .ro, 0xFF⟩, ⟨7, 6, .ro, 3⟩, ⟨3, 3, .ro, (if k < 4 then 1 else 0)⟩, ⟨2, 0, .ro, 0⟩]
  else if o = 0x4 then [⟨15, 8, .w1s, 0⟩, ⟨2, 2, .rw, 0⟩, ⟨1, 1, .wo, 0⟩, ⟨0, 0, .rw, (if k < 4 then 1 else 0)⟩]
  else if o = 0x8 then [⟨3, 3, .w1c, 0⟩, ⟨2, 2, .w1c, 0⟩, ⟨1, 1, .w1c, 0⟩, ⟨0, 0, .w1c, 0⟩]
  else if o = 0xC then [⟨31, 24, .rc, 0⟩, ⟨23, 16, .rc, 0⟩, ⟨15, 8, .rc, 0⟩, ⟨7, 0, .rc, 0⟩]
  else if o = 0x10 then [⟨31, 0, .ro, 0⟩]
  else if o = 0x14 then [⟨31, 0, .ro, 0⟩]
  else if o = 0x18 then [⟨31, 0, .rc, 0⟩]
  else if o = 0x1C then [⟨31, 0, .rc, 0⟩]
  else if o = 0x20 then [⟨31, 24, .ro, 0⟩, ⟨23, 12, .ro, 0⟩, ⟨11, 0, .ro, 0⟩]
  else if o = 0x24 then [⟨15, 0, .rw, 0x29F1⟩]
  else if 0x40 ≤ o ∧ o < 0x40 + 4 * 8 then [⟨31, 0, .rc, 0⟩]
  else []

/-- Fields of the register at offset o of a qos block. -/
def qosFields (_k o : Nat) : List FieldSpec :=
  if o = 0x0 then [⟨0, 0, .wo, 0⟩]
  else if o = 0x4 then [⟨11, 8, .ro, 0⟩, ⟨1, 1, .ro, 0⟩, ⟨0, 0, .ro, 0⟩]
  else if o = 0x8 then [⟨2, 2, .w1c, 0⟩, ⟨1, 1, .w1c, 0⟩, ⟨0, 0, .w1c, 0⟩]
  else if o = 0xC then [⟨23, 16, .rc, 0⟩, ⟨15, 8, .rc, 0⟩, ⟨7, 0, .rc, 0⟩]
  else if o = 0x10 then [⟨19, 0, .rw, 0x1000⟩]
  else if o = 0x14 then [⟨26, 24, .ro, 0⟩, ⟨23, 22, .ro, 0⟩, ⟨21, 20, .ro, 0⟩, ⟨19, 16, .ro, 0⟩, ⟨7, 0, .ro, 0⟩]
  else if o = 0x18 then [⟨31, 0, .rc, 0⟩]
  else if o = 0x1C then [⟨31, 0, .rws, 0xFFFFFFFF⟩]
  else if o = 0x20 then [⟨1, 0, .rws, 3⟩]
  else if o = 0x100 then [⟨15, 0, .rws, 0xFFFF⟩]
  else if 0x140 ≤ o ∧ o < 0x140 + 4 * 36 then [⟨31, 20, .ro, 0x575⟩, ⟨16, 16, .ro, 0⟩, ⟨8, 0, .ro, 0x100⟩]
  else if 0x200 ≤ o ∧ o < 0x200 + 4 * 36 then [⟨31, 25, .ro, 8⟩, ⟨24, 13, .ro, 0x22⟩, ⟨12, 0, .ro, 0⟩]
  else []

/-- Fields of the register at offset o of a qreg block. -/
def qregFields (k o : Nat) : List FieldSpec :=
  if o = 0x0 then [⟨31, 31, .rws, (if qosDefault k = 0 then 0 else 1)⟩, ⟨30, 29, .rws, (if qosDefault k = 2 then 1 else 0)⟩, ⟨26, 26, .rws, (if qosDefault k = 0 then 0 else 1)⟩, ⟨25, 24, .rws, 0⟩, ⟨23, 20, .rws, 0⟩, ⟨19, 0, .rws, (if qosDefault k = 0 then 0 else if qosDefault k = 1 then 0x1F4 else 0x3E80)⟩]
  else if o = 0x4 then [⟨31, 16, .rws, (if qosDefault k = 0 then 0 else 0x40)⟩, ⟨15, 0, .rws, (if qosDefault k = 2 then 0x7D0 else 0)⟩]
  else []

/-- Fields of the register at offset o of a bst block. -/
def bstFields (_k o : Nat) : List FieldSpec :=
  if o = 0x0 then [⟨2, 1, .rw, 3⟩, ⟨0, 0, .wo, 0⟩]
  else if o = 0x4 then [⟨14, 12, .ro, 0⟩, ⟨11, 10, .ro, 0⟩, ⟨9, 8, .ro, 0⟩, ⟨2, 0, .ro, 0⟩]
  else if o = 0x8 then [⟨15, 0, .ro, 0⟩]
  else if o = 0xC then [⟨2, 2, .w1c, 0⟩, ⟨1, 1, .w1c, 0⟩, ⟨0, 0, .w1c, 0⟩]
  else if o = 0x10 then [⟨23, 16, .rc, 0⟩, ⟨15, 8, .rc, 0⟩, ⟨7, 0, .rc, 0⟩]
  else if o = 0x14 then [⟨31, 0, .rw, 0⟩]
  else if o = 0x18 then [⟨31, 0, .rw, 0⟩]
  else if o = 0x1C then [⟨17, 0, .ro, 0⟩]
  else if o = 0x20 then [⟨3, 0, .ro, 1⟩]
  else if 0x40 ≤ o ∧ o < 0x40 + 4 * 8 then [⟨31, 0, .ro, 0⟩]
  else if o = 0x60 then [⟨3, 0, .ro, 0⟩]
  else []

/-- Fields of the register at offset o of a kvm block. -/
def kvmFields (_k o : Nat) : List FieldSpec :=
  if o = 0x0 then [⟨8, 8, .ro, 1⟩, ⟨7, 4, .ro, 0⟩, ⟨3, 0, .ro, 0⟩]
  else if o = 0x4 then [⟨0, 0, .rw, 0⟩]
  else if o = 0x8 then [⟨2, 2, .w1c, 0⟩, ⟨1, 1, .w1c, 0⟩, ⟨0, 0, .w1c, 0⟩]
  else if o = 0xC then [⟨23, 16, .rc, 0⟩, ⟨15, 8, .rc, 0⟩, ⟨7, 0, .rc, 0⟩]
  else if o = 0x10 then [⟨31, 0, .ro, 0⟩]
  else if o = 0x14 then [⟨31, 0, .ro, 0⟩]
  else if o = 0x18 then [⟨31, 0, .ro, 0⟩]
  else if o = 0x1C then [⟨31, 0, .ro, 0⟩]
  else if o = 0x20 then [⟨19, 0, .ro, 0⟩]
  else if 0x100 ≤ o ∧ o < 0x100 + 4 * 32 then [⟨17, 0, .ro, 0⟩]
  else []

/-- Fields of the register at offset o of a lay block. -/
def layFields (_k o : Nat) : List FieldSpec :=
  if o = 0x0 then [⟨15, 15, .ro, 0⟩, ⟨14, 14, .ro, 0⟩, ⟨13, 8, .ro, 0⟩, ⟨2, 0, .ro, 0⟩]
  else if o = 0x4 then [⟨2, 2, .wo, 0⟩, ⟨1, 1, .wo, 0⟩, ⟨0, 0, .wo, 0⟩]
  else if o = 0x8 then [⟨31, 0, .rw, 0⟩]
  else if o = 0xC then [⟨31, 0, .rw, 0⟩]
  else if o = 0x10 then [⟨24, 0, .rw, 0⟩]
  else if o = 0x14 then [⟨28, 24, .ro, 0⟩, ⟨23, 16, .ro, 0⟩, ⟨15, 0, .ro, 0⟩]
  else if o = 0x18 then [⟨31, 0, .ro, 0⟩]
  else if o = 0x1C then [⟨31, 0, .ro, 0⟩]
  else if o = 0x20 then [⟨31, 0, .rw, 0⟩]
  else if o = 0x24 then [⟨31, 0, .rw, 0⟩]
  else if o = 0x28 then [⟨31, 0, .ro, 0⟩]
  else if o = 0x2C then [⟨31, 0, .ro, 0⟩]
  else if o = 0x30 then [⟨31, 0, .ro, 0⟩]
  else if o = 0x34 then [⟨31, 0, .ro, 0⟩]
  else if o = 0x38 then [⟨31, 0, .ro, 0⟩]
  else if o = 0x3C then [⟨4, 4, .w1c, 0⟩, ⟨3, 3, .w1c, 0⟩, ⟨2, 2, .w1c, 0⟩, ⟨1, 1, .w1c, 0⟩, ⟨0, 0, .w1c, 0⟩]
  else if o = 0x40 then [⟨31, 24, .rc, 0⟩, ⟨23, 16, .rc, 0⟩, ⟨15, 8, .rc, 0⟩, ⟨7, 0, .rc, 0⟩]
  else if o = 0x44 then [⟨31, 0, .rc, 0⟩]
  else if o = 0x48 then [⟨31, 0, .ro, 0⟩]
  else if o = 0x4C then [⟨31, 0, .ro, 0⟩]
  else if o = 0x50 then [⟨23, 23, .ro, 0⟩, ⟨22, 12, .ro, 0⟩, ⟨11, 0, .ro, 0⟩]
  else if o = 0x54 then [⟨11, 0, .ro, 0⟩]
  else []

/-- Fields of the register at offset o of a cor block. -/
def corFields (_k o : Nat) : List FieldSpec :=
  if o = 0x1000 then [⟨0, 0, .rw, 0⟩]
  else if o = 0x1004 then [⟨14, 8, .ro, 0x40⟩, ⟨6, 0, .rw, 0x40⟩]
  else if o = 0x1008 then [⟨31, 16, .ro, 0⟩, ⟨4, 4, .ro, 0⟩, ⟨3, 3, .ro, 1⟩, ⟨2, 2, .ro, 0⟩, ⟨1, 0, .ro, 0⟩]
  else if o = 0x100C then [⟨3, 3, .w1c, 0⟩, ⟨2, 2, .w1c, 0⟩, ⟨1, 1, .w1c, 0⟩, ⟨0, 0, .w1c, 0⟩]
  else if o = 0x1010 then [⟨31, 24, .rc, 0⟩, ⟨23, 16, .rc, 0⟩, ⟨15, 8, .rc, 0⟩, ⟨7, 0, .rc, 0⟩]
  else if o = 0x1014 then [⟨31, 16, .ro, 0⟩, ⟨15, 0, .ro, 0⟩]
  else if o = 0x1018 then [⟨31, 0, .ro, 0⟩]
  else if o = 0x101C then [⟨31, 0, .ro, 0⟩]
  else if o = 0x1020 then [⟨31, 0, .rc, 0⟩]
  else if o = 0x1024 then [⟨31, 0, .rc, 0⟩]
  else if o = 0x1028 then [⟨31, 0, .rc, 0⟩]
  else if o = 0x102C then [⟨31, 0, .rc, 0⟩]
  else if o = 0x1030 then [⟨11, 0, .ro, 0⟩]
  else if 0x1400 ≤ o ∧ o < 0x1400 + 4 * 128 then [⟨31, 0, .ro, 0⟩]
  else if o = 0x2000 then [⟨13, 4, .ro, 0⟩, ⟨2, 2, .ro, 0⟩, ⟨1, 1, .ro, 0⟩, ⟨0, 0, .ro, 0⟩]
  else if o = 0x2004 then [⟨1, 1, .w1c, 0⟩, ⟨0, 0, .w1c, 0⟩]
  else if o = 0x2008 then [⟨15, 8, .rc, 0⟩, ⟨7, 0, .rc, 0⟩]
  else if o = 0x2010 then [⟨31, 0, .ro, 0⟩]
  else if o = 0x2014 then [⟨31, 0, .ro, 0⟩]
  else if o = 0x2018 then [⟨31, 0, .rc, 0⟩]
  else if o = 0x201C then [⟨31, 0, .rc, 0⟩]
  else if o = 0x2020 then [⟨31, 0, .rc, 0⟩]
  else if o = 0x2024 then [⟨10, 0, .ro, 0⟩]
  else if o = 0x3000 then [⟨2, 2, .ro, 0⟩, ⟨1, 1, .ro, 0⟩, ⟨0, 0, .ro, 0⟩]
  else if o = 0x3004 then [⟨1, 1, .w1c, 0⟩, ⟨0, 0, .w1c, 0⟩]
  else if o = 0x3008 then [⟨15, 8, .rc, 0⟩, ⟨7, 0, .rc, 0⟩]
  else if o = 0x3010 then [⟨31, 0, .ro, 0⟩]
  else if o = 0x3014 then [⟨31, 0, .ro, 0⟩]
  else []

/-- Fields of the register at offset o of a slc block. -/
def slcFields (k o : Nat) : List FieldSpec :=
  if o = 0x0 then [⟨23, 20, .ro, (if k % 9 = 8 then 8 else k % 9)⟩, ⟨19, 11, .ro, 0x1FF⟩, ⟨10, 7, .ro, 0xF⟩, ⟨3, 2, .ro, 0⟩, ⟨1, 1, .ro, 1⟩]
  else if o = 0x4 then [⟨3, 3, .w1c, 0⟩, ⟨2, 2, .w1c, 0⟩, ⟨1, 1, .w1c, 0⟩, ⟨0, 0, .w1c, 0⟩]
  else if o = 0x8 then [⟨31, 24, .rc, 0⟩, ⟨23, 16, .rc, 0⟩, ⟨15, 8, .rc, 0⟩, ⟨7, 0, .rc, 0⟩]
  else if o = 0xC then [⟨31, 0, .rc, 0⟩]
  else if o = 0x10 then [⟨31, 16, .rw, 0x3E8⟩, ⟨8, 8, .wo, 0⟩, ⟨3, 0, .rw, 0⟩]
  else if o = 0x14 then [⟨23, 16, .ro, 8⟩, ⟨15, 8, .ro, 0⟩, ⟨7, 0, .rw, 8⟩]
  else if o = 0x18 then [⟨19, 16, .rc, 0⟩, ⟨15, 0, .ro, 0⟩]
  else if o = 0x1C then [⟨31, 16, .ro, 0⟩]
  else if o = 0x20 then [⟨24, 0, .ro, 0⟩]
  else if o = 0x30 then [⟨23, 20, .rw, 0⟩, ⟨19, 14, .rw, 0⟩, ⟨13, 8, .rw, 0⟩, ⟨4, 4, .wo, 0⟩, ⟨3, 0, .rw, 0⟩]
  else if o = 0x34 then [⟨31, 31, .ro, 0⟩, ⟨30, 30, .ro, 0⟩, ⟨29, 0, .ro, 0⟩]
  else if o = 0x8000 then [⟨20, 16, .ro, 0⟩, ⟨4, 4, .ro, 0⟩, ⟨3, 3, .ro, 0⟩, ⟨2, 2, .ro, 0⟩, ⟨1, 1, .ro, 0⟩, ⟨0, 0, .ro, 0⟩]
  else if o = 0x8004 then [⟨0, 0, .rw, 0⟩]
  else if o = 0x8008 then [⟨3, 3, .w1c, 0⟩, ⟨2, 2, .w1c, 0⟩, ⟨1, 1, .w1c, 0⟩, ⟨0, 0, .w1c, 0⟩]
  else if o = 0x800C then [⟨31, 24, .rc, 0⟩, ⟨23, 16, .rc, 0⟩, ⟨15, 8, .rc, 0⟩, ⟨7, 0, .rc, 0⟩]
  else if o = 0x8010 then [⟨31, 16, .ro, 0⟩, ⟨15, 0, .ro, 0⟩]
  else if o = 0x8018 then [⟨31, 0, .ro, 0⟩]
  else if o = 0x801C then [⟨6, 0, .ro, 0⟩]
  else if 0x8020 ≤ o ∧ o < 0x8020 + 4 * 4 then [⟨31, 0, .ro, 0⟩]
  else if o = 0x8030 then [⟨31, 0, .ro, 0⟩]
  else if o = 0x8034 then [⟨31, 0, .ro, 0⟩]
  else if o = 0x8038 then [⟨31, 0, .rc, 0⟩]
  else if o = 0x803C then [⟨31, 0, .rc, 0⟩]
  else if o = 0x8040 then [⟨31, 0, .rc, 0⟩]
  else if 0x8080 ≤ o ∧ o < 0x8080 + 4 * 16 then [⟨31, 0, .rw, 0⟩]
  else if o = 0x80C0 then [⟨0, 0, .wo, 0⟩]
  else []

/-- Fields of the register at offset o of a lnk block. -/
def lnkFields (k o : Nat) : List FieldSpec :=
  if o = 0x0 then [⟨11, 8, .ro, 0⟩, ⟨7, 0, .ro, (routeReset k)⟩]
  else if o = 0x4 then [⟨31, 0, .rc, 0⟩]
  else if o = 0x8 then [⟨31, 0, .rc, 0⟩]
  else []

/-- Fields of the register at offset o of a side block. -/
def sideFields (_k o : Nat) : List FieldSpec :=
  if o = 0x0 then [⟨7, 6, .ro, 0⟩, ⟨2, 0, .ro, 1⟩]
  else if o = 0x4 then [⟨2, 2, .wo, 0⟩, ⟨1, 1, .wo, 0⟩, ⟨0, 0, .wo, 0⟩]
  else if o = 0x8 then [⟨31, 0, .ro, 0⟩]
  else if o = 0xC then [⟨3, 3, .w1c, 0⟩, ⟨2, 2, .w1c, 0⟩, ⟨1, 1, .w1c, 0⟩, ⟨0, 0, .w1c, 0⟩]
  else if o = 0x10 then [⟨31, 24, .rc, 0⟩, ⟨23, 16, .rc, 0⟩, ⟨15, 8, .rc, 0⟩, ⟨7, 0, .rc, 0⟩]
  else if o = 0x14 then [⟨31, 0, .rc, 0⟩]
  else if o = 0x18 then [⟨31, 0, .rc, 0⟩]
  else if o = 0x1C then [⟨3, 0, .rw, 0⟩]
  else if o = 0x20 then [⟨31, 0, .ro, 0xFFFFFFFF⟩]
  else if o = 0x24 then [⟨31, 0, .ro, 0xFFFFFFFF⟩]
  else if o = 0x28 then [⟨31, 0, .ro, 0xFFFFFFFF⟩]
  else if o = 0x2C then [⟨31, 0, .ro, 0xFFFFFFFF⟩]
  else []

/-- Fields of the register at offset o of a chs block. -/
def chsFields (_k o : Nat) : List FieldSpec :=
  if o = 0x0 then [⟨27, 16, .ro, 0x12C⟩, ⟨11, 0, .rw, 0x12C⟩]
  else if o = 0x4 then [⟨27, 16, .ro, 0xFFF⟩, ⟨11, 0, .ro, 0⟩]
  else if o = 0x8 then [⟨25, 25, .ro, 0⟩, ⟨24, 16, .ro, 0⟩, ⟨10, 8, .ro, 1⟩, ⟨6, 0, .ro, 0x40⟩]
  else if o = 0xC then [⟨22, 16, .ro, 0⟩, ⟨11, 0, .ro, 0⟩]
  else if 0x10 ≤ o ∧ o < 0x10 + 4 * 4 then [⟨31, 0, .ro, 0⟩]
  else if o = 0x20 then [⟨21, 18, .ro, 0⟩, ⟨17, 0, .ro, 0⟩]
  else if 0x100 ≤ o ∧ o < 0x100 + 4 * 116 then [⟨31, 16, .ro, 0⟩, ⟨15, 0, .ro, 0x8000⟩]
  else []

/-- Table 14-3 and Table 14-4: the fields of the register at a BAR0 offset; none for a reserved offset or an
offset outside every block (R13, R400). Offsets that are not multiples of 4 name no register (R9). -/
def fieldsAt (off : Nat) : List FieldSpec :=
  if off % 4 ≠ 0 then []
  else if off < 0x100000 then glbFields 0 off
  else if off < 0x110000 then hqFields 0 (off - 0x100000)
  else if off < 0x154000 then trayFields ((off - 0x110000) / 0x100) ((off - 0x110000) % 0x100)
  else if off < 0x200000 then []
  else if off < 0x210000 then mbxFields 0 (off - 0x200000)
  else if off < 0x214000 then holeFields ((off - 0x210000) / 0x100) ((off - 0x210000) % 0x100)
  else if off < 0x300000 then []
  else if off < 0x400000 then secFields 0 (off - 0x300000)
  else if off < 0x500000 then thmFields 0 (off - 0x400000)
  else if off < 0x600000 then errFields 0 (off - 0x500000)
  else if off < 0x610000 then pzlFields 0 (off - 0x600000)
  else if off < 0x618000 then portFields ((off - 0x610000) / 0x1000) ((off - 0x610000) % 0x1000)
  else if off < 0x700000 then []
  else if off < 0x710000 then qosFields 0 (off - 0x700000)
  else if off < 0x718000 then qregFields ((off - 0x710000) / 8) ((off - 0x710000) % 8)
  else if off < 0x800000 then []
  else if off < 0x900000 then bstFields 0 (off - 0x800000)
  else if off < 0xA00000 then kvmFields 0 (off - 0x900000)
  else if off < 0xB00000 then layFields 0 (off - 0xA00000)
  else if off < 0x1000000 then []
  else if off < 0x2000000 then
    let c := (off - 0x1000000) / 0x400000
    let o := (off - 0x1000000) % 0x400000
    if o < 0x120000 then corFields (c * 9 + o / 0x20000) (o % 0x20000)
    else if o < 0x200000 then []
    else if o < 0x290000 then slcFields (c * 9 + (o - 0x200000) / 0x10000) ((o - 0x200000) % 0x10000)
    else if o < 0x300000 then []
    else if o < 0x301000 then lnkFields c (o - 0x300000)
    else if o < 0x303000 then sideFields (c * 2 + (o - 0x301000) / 0x1000) ((o - 0x301000) % 0x1000)
    else if o < 0x380000 then []
    else chsFields c (o - 0x380000)
  else []

/-- The word a list of fields resets to. -/
def resetWord (fs : List FieldSpec) : Nat := fs.foldl (fun w f => w + f.reset % 2 ^ (f.hi + 1 - f.lo) * 2 ^ f.lo) 0

/-- The Reset value of the register at an offset (R14); a reserved offset reads as zero. -/
def reset (off : Nat) : Word32 := BitVec.ofNat 32 (resetWord (fieldsAt off))

/-- R10: is this the offset of a LO register of a 64-bit pair? -/
def isLo (off : Nat) : Bool :=
  let o := (off - 0x1000000) % 0x400000
  (decide (0 ≤ off) && decide (off < 0x100000) && [0x210, 0x220, 0x230].contains (off)) ||
  (decide (0x110000 ≤ off) && decide (off < 0x154000) && [0x8, 0x10, 0x18].contains ((off - 0x110000) % 0x100)) ||
  (decide (0x300000 ≤ off) && decide (off < 0x400000) && [0x10].contains (off - 0x300000)) ||
  (decide (0x500000 ≤ off) && decide (off < 0x600000) && [0x30].contains (off - 0x500000)) ||
  (decide (0x610000 ≤ off) && decide (off < 0x618000) && [0x10].contains ((off - 0x610000) % 0x1000)) ||
  (decide (0x800000 ≤ off) && decide (off < 0x900000) && [0x14].contains (off - 0x800000)) ||
  (decide (0x900000 ≤ off) && decide (off < 0xA00000) && [0x10, 0x18].contains (off - 0x900000)) ||
  (decide (0xA00000 ≤ off) && decide (off < 0xB00000) && [0x8, 0x18, 0x20, 0x28, 0x30, 0x48].contains (off - 0xA00000)) ||
  (decide (0x1000000 ≤ off) && decide (off < 0x2000000) && ((decide (0 ≤ o) && decide (o < 0x120000) && [0x1018, 0x2010, 0x3010].contains (o % 0x20000)) ||
    (decide (0x200000 ≤ o) && decide (o < 0x290000) && [0x8018, 0x8030].contains ((o - 0x200000) % 0x10000)) ||
    (decide (0x301000 ≤ o) && decide (o < 0x303000) && [0x20, 0x28].contains ((o - 0x301000) % 0x1000))))

end R

end Sys2Proof
end

