-- ==== Sys2Proof/Machine/State.lean ====
section
/-!
DEFINITION. The state of the part as plain data: everything the spec gives it, unit by unit, and the model's own queue
of waiting commands, outbox and free-value counter. Why a command may stop, and the state after reset.
-/

namespace Sys2Proof.Machine

open Sys2Proof

/-! ### Host interface and error log (chapters 00, 14, 17) -/

/-- R10, R467: each master's latches. Keys: master key x 2^26 + BAR0 offset of the LO register; master key. -/
structure LatchSt where
  rd : Tbl Word32
  wr : Tbl Word32
  log : Tbl LogEntry
  deriving DecidableEq, Repr

/-- R461-R467: the ring by slot, the most recent correctable entry of each slice island (its sequence number plus one;
0 none), and what a plinth without a path to plinth 0 holds and has dropped. -/
structure LogSt where
  ring : Tbl LogEntry
  lastCorr : Tbl Nat
  held : Tbl (List LogEntry)
  dropped : Tbl Nat
  deriving DecidableEq, Repr

/-- Chapter 21: rails in range, input pins as sampled, latched and driven outputs, and the brown-out that lasts until a
whole-device reset (R545). `perstN` is false while PERST_N is asserted. -/
structure PinSt where
  vaon : Bool
  vio : Bool
  vin : Bool
  perstN : Bool
  pwrbrkN : Bool
  coolFaultN : Bool
  behavSel : Bool
  thermtrip : Bool
  brownOut : Bool
  deriving DecidableEq, Repr

/-- R204, R446, R519, R525: what the fuses hold. Keys: chest; slice key; owner slot. The fuse map lists the rows of a slice
(bank x 4,096 + row) and the columns (bank x 65,536 + column) that spare ones replace. -/
structure FuseSt where
  version : Nat
  serial : Nat
  idcode : Nat
  understudy : Tbl Nat
  dead : Tbl Nat
  chanMap : Tbl (List Nat)
  chanOff : Tbl Nat
  rowsOut : Tbl (List Nat)
  colsOut : Tbl (List Nat)
  deadPuppets : Tbl (BitVec 128)
  ownerState : Tbl Nat
  ownerKey : Tbl (BitVec 256)
  deriving DecidableEq, Repr

/-! ### Bring-up, resets, control cores (chapters 15, 16) -/

/-- R439-R444: the running step's outcome so far, chests that came up, the firmware image, the park record's defect
list in force, and the licences accepted. -/
structure BootSt where
  code : Nat
  detail : Nat
  upChests : Nat
  fw : List Byte
  fwHome : Option Nat
  floorLost : Nat
  meshBad : Nat
  licences : List (List Byte)
  deriving DecidableEq, Repr

/-- A partial reset in progress and what its boundary has absorbed (R448, R449). -/
structure RunReset where
  level : Nat
  chest : Nat
  target : Nat
  secureErase : Bool
  absorbed : Nat
  deriving DecidableEq, Repr

/-- R448-R457: resets running, the end times (ns) of each core's core and cluster resets within 10 s, and the cores
whose takeover is pending (logical core + 1 by chest; 0 none). -/
structure ResetSt where
  running : List RunReset
  coreTimes : Tbl (List Nat)
  takeover : Tbl Nat
  deriving DecidableEq, Repr

/-- R421, R423, R426, R428-R430: a control core: request class, heartbeats missed in a row, times (ns) of its restarts, the time of
its last wdkick, what was loaded into its private SRAM and the address at which it started there (DESIGN CHOICE, log entry 100). -/
structure CcSt where
  reqclass : Nat
  missed : Nat
  restarts : List Nat
  kicked : Nat
  sram : List Byte
  pc : Nat
  deriving DecidableEq, Repr

def CcSt.zero : CcSt := ⟨0, 0, [], 0, [], 0⟩

/-! ### On-package network and fabric (chapters 11, 12) -/

/-- R362-R364: one module of an edge side. Sequence numbers modulo 1,024; the replay buffer holds what the other side
has not acknowledged, oldest first, each flit with its place in the order in which the side sent its flits; the last nak answered and when, when the oldest unacknowledged flit began to wait (ns); the masks are the local one and the one the other side sent. -/
structure ModSt where
  txNext : Nat
  rxLast : Nat
  nak : Bool
  replay : List (Nat × EdgeFlit)
  replays : Nat
  nakAck : Nat
  nakAt : Nat
  progressAt : Nat
  lmask : BitVec 64
  rmask : BitVec 64
  deriving DecidableEq, Repr

/-- A module after a whole-device reset. (DESIGN CHOICE, log entry 59.) -/
def ModSt.zero : ModSt := ⟨0, 1023, false, [], 0, 1024, 0, 0, 0xFFFFFFFFFFFFFFFF#64, 0xFFFFFFFFFFFFFFFF#64⟩

/-- R359, R362: a packet in the queue of an edge side: the side whose inbound buffer it still holds (plus one; 0 none) and
how many of its bytes have gone out in flits. It stays until the other side has it whole. -/
structure RingPkt where
  pkt : MeshPkt
  via : Nat
  sent : Nat
  deriving DecidableEq, Repr

/-- R355, R356: a packet at a router: the data beats that have arrived and that have gone on, and, in a plinth, the side
whose inbound buffer it holds (plus one; 0 none). -/
structure MeshEnt where
  pkt : MeshPkt
  got : Nat
  gone : Nat
  via : Nat
  deriving DecidableEq, Repr

/-- One end of a chest-to-chest edge: its modules, and by VC x 3 + class what it has sent, what it has learned that the
other side freed, and what it has freed, all modulo 1,024 (R364-R369); the combination whose count goes out next; the packets
that wait to be sent or are on their way; the module that took the last new flit (plus one), the number of the next new flit
and of the next to be taken from the other side, the flits accepted before their turn; the bytes of a packet that
arrives, by VC; new flits sent, modulo 8 (R368); when it took the state it is in (ns, R365, R366). -/
structure SideSt where
  mods : Tbl ModSt
  sent : Tbl Nat
  peerFreed : Tbl Nat
  freed : Tbl Nat
  rot : Nat
  flow : List RingPkt
  lastMod : Nat
  ordOut : Nat
  ordIn : Nat
  parked : List (Nat × EdgeFlit)
  part : Tbl (List Byte)
  phase : Nat
  since : Nat
  deriving DecidableEq, Repr

def SideSt.zero : SideSt := ⟨[], [], [], [], 0, [], 0, 0, 0, [], [], 0, 0⟩

/-- R337: the open inbound transfer of a port. -/
structure Inbound where
  src : Nat
  tile : Nat
  core : Nat
  offset : Nat
  deriving DecidableEq, Repr

/-- A fabric port (R326-R345): sequence numbers modulo 4,096, replay buffer (unacknowledged, oldest first), what
waits to be resent, credits by VC (initial, the peer's last count, sent, freed), transmit queues by VC, the open
inbound transfer, a request whose data flits are still arriving, retrains failed in a row, lane windows over threshold,
loopback in force; when the oldest unacknowledged flit began to wait (ns); the place in its pair of the next flit received
and the codewords of that pair that are uncorrectable; the flits of the pair that fills, the pair counter, the scrambler's
state and the lane in use that takes the next symbol. -/
structure PortSt where
  txNext : Nat
  rxLast : Nat
  nak : Bool
  replay : List Flit
  resend : List Flit
  replays : Nat
  nakAck : Nat
  nakAt : Nat
  crInit : Tbl Nat
  crPeer : Tbl Nat
  sent : Tbl Nat
  freed : Tbl Nat
  crRot : Nat
  queue : Tbl (List Flit)
  phase : Nat
  vc1Wait : Nat
  inbound : Option Inbound
  partialMsg : Tbl (List Byte)
  retrainFails : Nat
  windows : Tbl Nat
  loopback : Bool
  progressAt : Nat
  rxPos : Nat
  rxBad : List Nat
  txPair : List Flit
  pairNo : Nat
  scram : Nat
  laneAt : Nat
  deriving DecidableEq, Repr

/-- DESIGN CHOICE, log entries 59 and 131. -/
def PortSt.zero : PortSt :=
  ⟨0, 4095, false, [], [], 0, 4096, 0, [], [], [], [], 0, [], 0, 0, none, [], 0, [], false, 0, 0, [], [], 0, 0, 0⟩

/-- R348: a request of this part that waits for its response, since `at_` (ns). -/
structure OutReq where
  tag : Nat
  op : Nat
  master : Nat
  got : List Byte
  at_ : Nat
  deriving DecidableEq, Repr

/-- R345-R350: outstanding requests, the next tag, the last three errors of TIME, when each port that is fit to be the
source last received one (ns + 1), the correction still to be slewed in, in ns, and close records that wait for a port. -/
structure FabSt where
  reqs : List OutReq
  nextTag : Nat
  errors : List Int
  lastTime : Tbl Nat
  slew : Int
  closes : List CloseRec
  deriving DecidableEq, Repr

def FabSt.zero : FabSt := ⟨[], 0, [], [], 0, []⟩

/-! ### Cores (chapters 03-06) -/

/-- A vector of lanes without its trailing +0 lanes; the lanes beyond the list are +0. -/
abbrev Vec := List Word32

/-- R78: a slot in flight: descriptor of the pair (0, 1), stationary head, N tile, K tile, output block, first row
within the block, and the pass results of its rows, row by row (on the ordered path the FP32 value is in q[31:0]). -/
structure Flight where
  op : Nat
  head : Nat
  nt : Nat
  kt : Nat
  block : Nat
  first : Nat
  parts : List (List Num.Fixed)
  deriving DecidableEq, Repr

/-- An output block: descriptor of the pair, head, N tile, block. -/
structure BlockId where
  op : Nat
  head : Nat
  nt : Nat
  block : Nat
  deriving DecidableEq, Repr

/-- R82-R93: one sub-array: its place in its sequence of stationary tiles, whether the tile's stream has begun, the place
of the tile that fills and the rows in the back registers, the next slot's block and row, slots in flight (oldest first),
the block each accumulator half holds, blocks whose last pass is complete, blocks written out to the sum area, and for each
half the block that drains from it into the epilogue. -/
structure SubSt where
  pos : Nat
  streaming : Bool
  fillPos : Nat
  filled : Nat
  block : Nat
  row : Nat
  flight : List Flight
  half0 : Option BlockId
  half1 : Option BlockId
  ready : List BlockId
  out : List BlockId
  drain0 : Option BlockId
  drain1 : Option BlockId
  deriving DecidableEq, Repr

def SubSt.zero : SubSt := ⟨0, false, 0, 0, 0, 0, [], none, none, [], [], none, none⟩

/-- A descriptor that runs (R170-R178): its copy, home address, index, run-time shape, the sticky bits of its status
word. -/
structure OpSt where
  desc : Desc
  addr : Nat
  index : Nat
  shape : Shape
  sticky : Nat
  deriving DecidableEq, Repr

/-- A drained block that waits for its epilogue: its rows as FP32, in row order. -/
structure Drained where
  id : BlockId
  sub : Nat
  rows : List Vec
  deriving DecidableEq, Repr

/-- R106-R117: the invocation in progress: kind (0 epilogue, 1 prologue, 2 deferred chain), chain-store index of the
header, block, sub-array, K tile, first folded row, rows, input vectors, whether its output tile has begun to go out,
segment (0 pre, 1 body, 2 post), instruction within the segment, iteration, and the rows of a score block whose P and
correction the softmax stage has written. -/
structure Ctx where
  kind : Nat
  chain : Nat
  id : BlockId
  sub : Nat
  kt : Nat
  first : Nat
  rows : Nat
  inputs : List Vec
  begun : Bool
  seg : Nat
  pc : Nat
  iter : Nat
  stored : List Nat
  deriving DecidableEq, Repr

/-- A work item on a core: its journal entry, the descriptor that runs next, the status built so far (R408). -/
structure WorkSt where
  jid : Nat
  next : Option Nat
  result : Nat
  sticky : Nat
  nothing : Bool
  tag : Nat
  deriving DecidableEq, Repr

/-- One physical core. Keys: tile store by byte, as the difference from what an unwritten byte reads as (zero, or since an
act switch that did not preserve it a free byte of draw `tileLost`); front and back registers by physical cell row x 512 +
column, holding element (16 bits) + scale (8 bits) x 2^16 (R73); accumulator half x 2^18 + sub-array share x (rows x columns) + row x N + column; sticky bits of
sum-area entries by their byte offset; statistics (sub x 512 + row) x 8 + index; references sub x 512 + row; prologue copy
blocks done operation x 2^60 + head x 2^40 + K tile x 2^20 + block; the senders of open and of dropped transfers by landing
index; units fetched by operation x 2 + (1 for W); slots each sub-array has issued in the window of 64 ACLK (R101). `slotAt`
is when a non-empty slot last issued (ns + 1; 0 not within 64 ACLK), `order` the blocks whose epilogues have not started, in
the order in which they finished their last pass (R108), `govDuty` is the governor's limit, `recs` the shape records read (descriptor index; nothing
when its read failed), `ctx` the epilogue or deferred-chain
invocation in progress, `pctx` the prologue invocation. -/
structure CoreSt where
  tile : Tbl Byte
  tileLost : Nat
  ops : List OpSt
  subs : Tbl SubSt
  front : Tbl Nat
  back : Tbl Nat
  acc : Tbl Num.Fixed
  sumBits : Tbl Nat
  v : Tbl Vec
  p : Tbl (BitVec 512)
  s : Tbl Word32
  stats : Tbl Word32
  refs : Tbl Word32
  rr : Tbl Vec
  rrFull : Tbl Bool
  sends : List (Nat × Vec)
  chain : Tbl Word64
  ctx : Option Ctx
  pctx : Option Ctx
  epi : List Drained
  defer : List Drained
  proDone : Tbl Bool
  openXfer : Tbl (List Nat)
  dropXfer : Tbl (List Nat)
  fetched : Tbl Nat
  recs : List (Nat × Option Shape)
  finish : Option OpSt
  issued : Tbl Nat
  slotAt : Nat
  order : List (Nat × BlockId)
  govDuty : Nat
  work : Option WorkSt
  deriving DecidableEq, Repr

/-- A core after its reset. -/
def CoreSt.zero : CoreSt :=
  { tile := [], tileLost := 0, ops := [], subs := [], front := [], back := [], acc := [], sumBits := [], v := [], p := [], s := []
    stats := [], refs := [], rr := [], rrFull := [], sends := [], chain := [], ctx := none, pctx := none
    epi := [], defer := []
    proDone := [], openXfer := [], dropXfer := [], fetched := [], recs := [], finish := none, issued := [], slotAt := 0, order := [], govDuty := 64
    work := none }


/-! ### Stacked memory (chapter 07) -/

/-- One slice island: the physical channel that serves each logical channel and the one that is the spare path; logical
channels cut off; the degraded address map in force; errors of the current second by logical channel (count, banks,
start in ns); sectors corrected by row (bank x 4,096 + row) since reset and the rows declared bad that wait for their
remap; every row declared bad since the reset; rows and columns that spare ones replace; spare rows used by bank;
refreshes owed by bank; next patrol burst by channel; patrol bursts held by a cue (time, channel); sectors whose corrected
write-back is queued (device address); the channel that waits to move to the spare path and those that wait to be cut off, with their causes;
the channel of the rewrite pass; the margin test running; self-refresh; an ECC checker failure. -/
structure SliceSt where
  map : List Nat
  spare : Nat
  cut : Nat
  degraded : Bool
  errs : Tbl Nat
  errBanks : Tbl Nat
  errAt : Tbl Nat
  rowHits : Tbl (List Nat)
  badRows : List Nat
  declared : List Nat
  remapped : List Nat
  colsOut : List Nat
  spareUsed : Tbl Nat
  owed : Tbl Nat
  scrub : Tbl Nat
  scrubHeld : List (Nat × Nat)
  writeBacks : List Nat
  toSpare : Option (Nat × Nat)
  toCut : List (Nat × Nat)
  rewrite : Option Nat
  margin : Option Nat
  selfRefresh : Bool
  eccFail : Bool
  deriving DecidableEq, Repr

def SliceSt.zero : SliceSt :=
  ⟨[0, 1, 2, 3, 4, 5, 6, 7], 8, 0, false, [], [], [], [], [], [], [], [], [], [], [], [], [], none, [], none, none, false, false⟩

/-- R213: a line of the sideboard cache: which of its 8 sectors are dirty and which it holds, and their bytes (those that
differ from zero). A sector that cannot be read or that bypasses the cache is not held. -/
structure Line where
  tag : Nat
  way : Nat
  dirty : Nat
  held : Nat
  data : Tbl Byte
  deriving DecidableEq, Repr

/-- R67, R216: an exact reduction slot: 320-bit value, NaN, +infinity, -infinity, counter overflow, overflow,
exactness_lost, contribution counter, window C, fixed contributions accepted, enabled. -/
structure Slot where
  value : BitVec 320
  nan : Bool
  pinf : Bool
  ninf : Bool
  cntOvf : Bool
  ovf : Bool
  lost : Bool
  counter : Nat
  c : Nat
  fixed : Bool
  enabled : Bool
  deriving DecidableEq, Repr

def Slot.zero : Slot := ⟨0, false, false, false, false, false, false, 0, 0, false, false⟩

/-! ### Puppets (chapter 08) -/

/-- Where a run stands: its record and submitter, the part (0 head, 1 body, 2 tail, 3 every cue has ended), the index
within its list and the repeat number; the instruction of the running cue that comes next, the iteration, and whether the
last iteration has ended; whether the run has its claims; the return words written (key
(row * 128 + puppet) * 1,024 + word) and the rows seen; the puppets that take part in some cue; whether the records are
written. -/
structure RunSt where
  bytes : List Byte
  by_ : Submitter
  part : Nat
  idx : Nat
  rep : Nat
  pc : Nat
  iter : Nat
  done : Bool
  started : Bool
  words : Tbl Word32
  rows : Nat
  puppets : List Nat
  written : Bool
  deriving DecidableEq, Repr

/-- One puppeteer and its 128 puppets (R222-R249): instruction store, cue store, claim table, run queue, run in
progress, the cue that runs (its index), the cue that follows the gap in progress, the stray accesses of a cue (count, sector of the first where it has one), broadcast
buffer, accesses held until the cue ends with the time of their arrival, whether a lost channel refuses runs until the next layout load, puppet registers pv (key
puppet * 1,024 + register * 64 + lane) and ps (puppet * 8 + register). -/
structure PupSt where
  prog : Tbl Word32
  cues : Tbl (List Byte)
  claims : Tbl (Option Claim)
  queue : List (List Byte × Submitter)
  run : Option RunSt
  cue : Option Nat
  gap : Option Nat
  strays : Nat
  firstStray : Option Nat
  bcast : Tbl Byte
  held : List (Nat × MemReq)
  lost : Bool
  pv : Tbl Word32
  ps : Tbl Word32
  deriving DecidableEq, Repr

def PupSt.zero : PupSt := ⟨[], [], [], [], none, none, none, 0, none, [], [], false, [], []⟩

/-! ### Key-value manager (chapter 09) -/

/-- A KV operation at its walker (R267, R268): the journal entry it belongs to, its record, whether it waits for a pass
of its sequence or for an operation to end. -/
structure KvOp where
  jid : Nat
  rec_ : List Byte
  waiting : Bool
  deriving DecidableEq, Repr

/-- R275, R276: a pass in progress: journal entry, sequence, its map snapshot (frame ordinal x streams), the frames pinned,
the decode runs it has submitted (index in the map, first landing tile). -/
structure KvPass where
  jid : Nat
  seq : Nat
  map : List Nat
  pinned : List Nat
  runs : List (Nat × Nat)
  deriving DecidableEq, Repr

/-- Free frames (lead pages) by slice key chest * 8 + slice, in list order; side slots in use by slice key * 2^17 + slot;
operations that reached their walkers, oldest first; passes in progress; frames declared bad are marked in their
headers. `lost`: the tables are undefined until a layout loads (R289). -/
structure KvSt where
  free : Tbl (List Nat)
  sideUsed : Tbl Bool
  ops : List KvOp
  passes : List KvPass
  lost : Bool
  deriving DecidableEq, Repr

def KvSt.zero : KvSt := ⟨[], [], [], [], false⟩

/-! ### Layouts (chapter 10) -/

/-- What the running layout keeps: the staged image, the image in force, the state before a load (R296); T0, then the start
tick of the current epoch; the schedule entry and the epochs it has left; whether epoch 0 began; the transfers of the
act's SLOTS list by their index (a send: 0 not reached, 1 waits for data, 2 has left; a receive: landings counted);
close records held; the part's own record sent; on-package slots demoted (R319) and that change waiting for a boundary;
an act switch that has begun; reversed diagonals by chest; a stop that waits for a boundary (R458). -/
structure LaySt where
  staged : Option Image
  force : Option Image
  before : Nat
  start : Nat
  entry : Nat
  left : Nat
  began : Bool
  slotSt : Tbl Nat
  closes : List CloseRec
  closed : Bool
  invalid : Bool
  invalidDue : Bool
  switchDue : Bool
  routeRev : Nat
  stopDue : Bool
  deriving DecidableEq, Repr

def LaySt.zero : LaySt :=
  ⟨none, none, 0, 0, 0, 0, false, [], [], false, false, false, false, 0, false⟩

/-! ### Regulation (chapter 13) -/

/-- Active values of the RWS registers (R390; the registers hold the shadow), a commit that waits for an epoch
boundary; by entry key master id * 16 + entry: how far the cap and minimum buckets are below full (1/64,000 byte) and when
they were last refilled (ns), measured latency; scale factors that have arrived at a master by master id * 64 + slice
(chest * 9 + logical slice), times 256; arbiters: input last granted (plus one) by arbiter * 8 + level; by arbiter * 64 +
input the wait in ns with the level and master of the request that waits, and whether the wait has been reported; cues of the
last 1,024 CCLK by slice key (start in ns, length in CCLK); requests that wait at a master port, in issue order. -/
structure QosSt where
  active : Tbl Word32
  pend : Option (Tbl Word32)
  capDef : Tbl Int
  minDef : Tbl Int
  at_ : Tbl Nat
  lat : Tbl Nat
  arrived : Tbl Nat
  granted : Tbl Nat
  waits : Tbl (Nat × Nat × Nat)
  episode : Tbl Bool
  cues : Tbl (List (Nat × Nat))
  held : Tbl (List PortReq)
  deriving DecidableEq, Repr

def QosSt.zero : QosSt := ⟨[], none, [], [], [], [], [], [], [], [], [], []⟩

/-! ### Trays and the journal (chapter 14) -/

/-- R401, Table 14-9: what an enabled tray has latched: ring and index addresses, log2 of the ring size, vector; the entries
fetched and not yet accepted, from count A on. -/
structure TraySt where
  sq : Nat
  cq : Nat
  idx : Nat
  n : Nat
  vector : Nat
  fetched : List (List Byte)
  deriving DecidableEq, Repr

def TraySt.zero : TraySt := ⟨0, 0, 0, 0, 0, []⟩

/-- R413: a journal entry: its number, tray key, count in the tray, bytes; 0 accepted, 1 dispatched, 2 finished, 3 interrupted by a reset; the
completion record's status, out_tag, kv_result and detail; how often it was re-dispatched. -/
structure JEntry where
  jid : Nat
  tray : Nat
  count : Nat
  bytes : List Byte
  st : Nat
  status : Nat
  outTag : Nat
  kvRes : Nat
  detail : Nat
  replays : Nat
  deriving DecidableEq, Repr

/-! ### Power and temperature (chapter 18) -/

/-- Governors by chest and, offset 4, by column key: duty and rung of a fallback column, steps taken (newest first;
true a clock step), time of the last clock step and of the last undo (ns + 1; 0 never), when power was last seen at 97 % of
its limit or more (ns); steps that wait for an epoch boundary in steady timing. -/
structure GovSt where
  duty : Nat
  aclk : Nat
  steps : List Bool
  clkAt : Nat
  undoAt : Nat
  overAt : Nat
  deriving DecidableEq, Repr

def GovSt.zero : GovSt := ⟨64, 1, [], 0, 0, 0⟩

/-- Chapter 18: governors (chest c at c, column of core key u at 4 + u), what a governor holds for the next epoch
boundary; latest power in mW of an island by chest * 64 + island; demand and ceiling last received by receiver * 4 + sender, grants
that chest c computed for d by c * 4 + d; package checks over the cap in a row; a sensor's hard-limit fallback, by chest * 116 + sensor;
the arbitration window of a hotspot by chest * 22 + hotspot (sum of readings and of model values of both members,
samples), windows in which the pair disagreed; when a lone sensor began to differ from its model (ns + 1);
the Sprint window's opening and the previous window's length and end; the pause: detection seen and not complete, its
start, the resume waiting for a boundary; requests held, each since when (ns); a mode change that waits; a Sprint window that waits to open (true) or
close, with whether that is early; power of chest c at c and of the package at 4: sum of this millisecond's samples and their
number, sum of the last whole millisecond, latest sample, all in mW; each chest's resistance estimate and whether its forecast
at 1,400 W stays below every soft limit. In ns, what the intervals of this chapter count from: the last write of
THM_COOLANT (R481); a sensor's last conversion (R499) and its last reading at or over its soft limit (R482), by chest * 116 + sensor; the
start of a hotspot's window (R498); when the estimate went over its limit and when under it, as ns + 1, else 0 (R492); the last event that
forbids a resume (R495); the last budget message, by receiver * 4 + sender (R486). -/
structure ThmSt where
  gov : Tbl GovSt
  govPend : Tbl GovSt
  island : Tbl Nat
  budgetMsg : Tbl (Nat × Nat)
  grants : Tbl Nat
  overCap : Nat
  overSensor : Tbl Bool
  winSum : Tbl (Int × Int)
  winModel : Tbl (Int × Int)
  winCount : Tbl Nat
  winBad : Tbl Bool
  offSince : Tbl Nat
  sprintAt : Nat
  sprintPrev : Nat
  sprintEnd : Nat
  pausing : Bool
  pauseByPin : Bool
  pauseSensor : Nat
  pauseAt : Nat
  resumeDue : Bool
  held : List (Nat × MemReq)
  modeDue : Option (Nat × Nat)
  windowDue : Option (Bool × Bool)
  pwrSum : Tbl Nat
  pwrN : Nat
  pwrLast : Tbl Nat
  pwrNow : Tbl Nat
  estimate : Tbl Nat
  sprintOk : Tbl Bool
  coolantAt : Nat
  convAt : Tbl Nat
  warmAt : Tbl Nat
  winAt : Tbl Nat
  rthOver : Nat
  rthUnder : Nat
  stirAt : Nat
  msgAt : Tbl Nat
  deriving DecidableEq, Repr

def ThmSt.zero : ThmSt :=
  ⟨[], [], [], [], [], 0, [], [], [], [], [], [], 0, 0, 0, false, false, 0, 0, false, [], none, none, [], 0, [], [], [], [], 0, [], [], [], 0, 0, 0, []⟩

/-! ### Self-test and security (chapters 19, 20) -/

/-- R505-R514: the park in progress (kinds still to run as (chest, kind), the one running), the outcomes and counts of
failing items so far by chest x 4 + kind, the park record accepted at this boot (its digest, count and defect list), the defects recorded during
this run and the list as a park froze it; the physical channels (slice key x 9 + channel) that run on the record's trained
values, the record's trained section, and the number of the draw of the values found in this boot. -/
structure ParkSt where
  todo : List (Nat × Nat)
  current : Option (Nat × Nat)
  outcomes : Tbl Nat
  counts : Tbl Nat
  parkTime : Nat
  accepted : Option (BitVec 512)
  acceptedCount : Nat
  acceptedKinds : Nat
  acceptedTrained : List Byte
  parkTrained : List Nat
  bootDefects : List Nat
  runDefects : List Nat
  frozen : List Nat
  trainedEpoch : Nat
  off : Bool
  deriving DecidableEq, Repr

def ParkSt.zero : ParkSt := ⟨[], none, [], [], 0, none, 0, 0, [], [], [], [], [], 0, false⟩

/-- R534: keys of one selective IDE stream: sub-stream x 2 + key set, each 256 bits; the key set in use by sub-stream. -/
structure IdeSt where
  keys : Tbl (BitVec 256)
  active : Tbl Nat
  deriving DecidableEq, Repr

def IdeSt.zero : IdeSt := ⟨[], []⟩

/-- R518-R534: digests measured at this boot, the fuse burn in progress (kind, slot, key), invasive debug waiting for
its zeroing, how far the SPDM connection has come (0 none, 1 version, 2 capabilities, 3 algorithms), open sessions
(id, whether FINISH has been accepted, key generation), IDE streams. -/
structure SecSt where
  fwDigest : BitVec 512
  burn : Option (Nat × Nat × BitVec 256)
  zeroing : Bool
  challengeNo : Nat
  conn : Nat
  sessions : List (Nat × Bool × Nat)
  nextSession : Nat
  ide : Tbl IdeSt
  deriving DecidableEq, Repr

def SecSt.zero : SecSt := ⟨0, none, false, 0, 0, [], 1, []⟩

/-- R529: the JTAG instruction in force. -/
inductive Jtag where
  | bypass | idcode | sample | extest | clamp | priv (ir : Nat)
  deriving DecidableEq, Repr

/-! ### The whole part -/

/-- The state of the part. `pending`, `out` and `fresh` are the model's own: commands that wait, messages sent to the
world, and the number of the next free value. `bmcRoute`: an MCTP route to the BMC exists (R436). `up` is false while the part is held in reset or without power; `now`
counts ns since PERST_N was released, `ftime` is fabric time. Unlisted keys of a table hold the unit's reset value.
Keys: core, slice and puppeteer chest * 9 + physical index; fabric port; edge side chest * 2 + side; router
chest * 16 + router (9 the plinth); tray function * 64 + tray (`trayTurn`: the tray after the one served last); memory by device address; sectors by address / 64. -/
structure State where
  pending : List Instr
  out : List OutEvent
  fresh : Nat
  now : Nat
  ftime : Nat
  up : Bool
  regs : Tbl Word32
  latch : LatchSt
  msix : Tbl Word32
  pba : Tbl Bool
  log : LogSt
  fuse : FuseSt
  pins : PinSt
  boot : BootSt
  rst : ResetSt
  cores : Tbl CoreSt
  slices : Tbl SliceSt
  pups : Tbl PupSt
  mem : Tbl Byte
  bad : Tbl (BitVec 36)
  memLost : Nat
  lines : Tbl (List Line)
  slots : Tbl Slot
  kv : KvSt
  lay : LaySt
  ports : Tbl PortSt
  fab : FabSt
  sides : Tbl SideSt
  mesh : Tbl (List MeshEnt)
  qos : QosSt
  trays : Tbl TraySt
  trayTurn : Nat
  journal : List JEntry
  nextJid : Nat
  vfEnable : Bool
  ctl : Tbl CcSt
  holes : Tbl (List Byte)
  thm : ThmSt
  park : ParkSt
  sec : SecSt
  jtag : Jtag
  bmcRoute : Bool
  deriving DecidableEq, Repr

/-- Why a run stops with a fault. No meaning raises one: every error the spec describes is a response, a flag, a log
entry or an interrupt, which are effects on the state (R469, Table 17-5). -/
inductive Fault where
  /-- Raised by no command; kept so that the type names its one would-be reason. Safe. -/
  | none_
  deriving DecidableEq, Repr

/-- Why a command is refused. -/
inductive Refusal where
  /-- Raised by the arm of a command that has no meaning yet. Safe: the model stops where the part goes on. -/
  | notModelled (mnemonic : String)
  deriving DecidableEq, Repr

/-- R446: fuses of a part with nothing dead; the manufacturing default understudy is p8 (R17).
(DESIGN CHOICE, log entry 47; PRESUMED, log entry 48.) -/
def FuseSt.zero : FuseSt := ⟨1, 0, 0x0E428001, [], [], [], [], [], [], [], [], []⟩

/-- The state right after a whole-device reset, with bring-up step 1 done (R438, GLB_BOOT_STATUS: steps resets to 0x002).
(DESIGN CHOICE, log entry 11; PRESUMED, log entry 42; DESIGN CHOICE, log entry 47; PRESUMED, log entry 49; DESIGN CHOICE, log entry 101.) -/
def State.reset : State :=
  { pending := [], out := [], fresh := 0, now := 0, ftime := 0, up := true, regs := []
    latch := ⟨[], [], []⟩, msix := [], pba := [], log := ⟨[], [], [], []⟩, fuse := FuseSt.zero
    pins := ⟨true, true, true, true, true, true, true, false, false⟩
    boot := ⟨0, 0, 0, [], none, 0, 0, []⟩, rst := ⟨[], [], []⟩, cores := [], slices := [], pups := [], mem := []
    bad := [], memLost := 0, lines := [], slots := [], kv := KvSt.zero, lay := LaySt.zero, ports := []
    fab := FabSt.zero, sides := [], mesh := [], qos := QosSt.zero, trays := [], trayTurn := 0, journal := [], nextJid := 0, vfEnable := false, ctl := []
    holes := [], thm := ThmSt.zero, park := ParkSt.zero, sec := SecSt.zero, jtag := .idcode, bmcRoute := false }

end Sys2Proof.Machine
end

