-- ==== Sys2Proof/Machine/Ops.lean ====
section
/-!
DEFINITION. The named operations every meaning is built from: registers and their fields, flags and interrupt causes,
the error log, logical numbering, the plinth ring, service tiers, messages to the world.
-/

namespace Sys2Proof.Machine

open Sys2Proof

/-! ### Effects -/

/-- An effect only where its enabling condition holds. (DESIGN CHOICE, log entry 1.) -/
def State.guard (s : State) (b : Bool) (f : State → State) : State := if b then f s else s

/-- Fold an effect over a list. -/
def State.each {α : Type} (s : State) (l : List α) (f : State → α → State) : State := l.foldl f s

/-- DESIGN CHOICE, log entry 5. -/
def State.emit (s : State) (e : OutEvent) : State := { s with out := s.out ++ [e] }

/-- The next free value's number; the counter advances. (DESIGN CHOICE, log entry 6.) -/
def State.tick (s : State) : State := { s with fresh := s.fresh + 1 }

/-! ### Registers -/

/-- The word a register holds. -/
def State.getW (s : State) (off : Nat) : Nat := (Tbl.get (R.reset off) s.regs off).toNat

def State.setW (s : State) (off v : Nat) : State :=
  { s with regs := Tbl.set (R.reset off) s.regs off (BitVec.ofNat 32 v) }

/-- Replace bits [hi:lo] of a word. -/
def putBits (w hi lo v : Nat) : Nat := w - bits w hi lo * 2 ^ lo + v % 2 ^ (hi + 1 - lo) * 2 ^ lo

def State.getF (s : State) (f : Fld) : Nat := bits (s.getW f.off) f.hi f.lo

def State.setF (s : State) (f : Fld) (v : Nat) : State := s.setW f.off (putBits (s.getW f.off) f.hi f.lo v)

def State.isSet (s : State) (f : Fld) : Bool := s.getF f != 0

/-! ### Outcomes -/

/-- R413: the part's journal capacity. -/
def journalSize : Nat := 32768

/-- What holds after every command on `s`, whatever its effect `t`: the queue of waiting commands is the one it found,
and HQ_STATUS.journal_used counts the journal's entries (Table 14-13). (DEDUCED, log entry 7.) -/
def State.seal (s t : State) : State := ({ t with pending := s.pending } : State).setF R.HQ_STATUS.journal_used t.journal.length

/-- A command that the part serves whenever its floor domain runs; held in reset it changes nothing.
(DESIGN CHOICE, log entry 1; DEDUCED, log entry 9.) -/
def whenUp (s : State) (f : State → State) : Host.Outcome State Fault Refusal := .next (if s.up then s.seal (f s) else s)

/-- A command that acts on the part in reset too: rails, pins, the JTAG port. (DEDUCED, log entry 9.) -/
def always (s : State) (f : State → State) : Host.Outcome State Fault Refusal := .next (s.seal (f s))

/-! ### Counters, bits and pairs -/

/-- The largest value a field holds. -/
def fldMax (f : Fld) : Nat := 2 ^ (f.hi + 1 - f.lo) - 1

/-- A counter that saturates at its largest value. -/
def State.incSat (s : State) (f : Fld) (n : Nat) : State := s.setF f (satAdd (fldMax f) (s.getF f) n)

/-- A counter that wraps. -/
def State.incWrap (s : State) (f : Fld) (n : Nat) : State := s.setF f (s.getF f + n)

/-- One bit of a field. -/
def State.getBit (s : State) (f : Fld) (i : Nat) : Bool := bit (s.getF f) i

def State.putBit (s : State) (f : Fld) (i : Nat) (b : Bool) : State := s.setF f (setBit (s.getF f) i b)

/-- A 64-bit quantity in a LO/HI pair (R10). -/
def State.getPair (s : State) (lo : Nat) : Nat := s.getW lo + s.getW (lo + 4) * 2 ^ 32

def State.setPair (s : State) (lo v : Nat) : State := (s.setW lo (v % 2 ^ 32)).setW (lo + 4) (v / 2 ^ 32 % 2 ^ 32)

def State.addPair (s : State) (lo n : Nat) : State := s.setPair lo (s.getPair lo + n)

/-- A register's word back to its Reset value. -/
def State.resetW (s : State) (off : Nat) : State := s.setW off (R.reset off).toNat

/-- Every register of an offset range back to its Reset value. -/
def State.resetRange (s : State) (lo hi : Nat) : State :=
  { s with regs := Tbl.keep s.regs (fun k => !(decide (lo ≤ k) && decide (k < hi))) }

/-- Write a word back with its RC fields zero (R11). -/
def rcCleared (fs : List FieldSpec) (w : Nat) : Nat :=
  fs.foldl (fun v f => if f.acc == .rc then putBits v f.hi f.lo 0 else v) w

/-- What a read returns: WO and reserved bits read zero (R11, R13). -/
def readMask (fs : List FieldSpec) (w : Nat) : Nat :=
  fs.foldl (fun v f => if f.acc == .wo then v else putBits v f.hi f.lo (bits w f.hi f.lo)) 0

/-- The behaviour level in force (R301): 3 or 4. -/
def State.level4 (s : State) : Bool := s.getF R.GLB_BEHAVIOUR.level != 3

/-! ### Interrupts (R472, R473) -/

/-- Offset of a word of an MSI-X table entry (R395, R398): function, vector, word. -/
def msixKey (f v w : Nat) : Nat := f * 2 ^ 16 + v * 4 + w

/-- PCI Express resets an entry masked (vector control bit 0) and zero otherwise. (PRESUMED, log entry 49.) -/
def msixReset (k : Nat) : Word32 := if k % 4 = 3 then 1#32 else 0#32

/-- An entry's vector control word, whose bit 0 masks it. -/
def State.msixMasked (s : State) (f v : Nat) : Bool :=
  bit (Tbl.get (msixReset (msixKey f v 3)) s.msix (msixKey f v 3)).toNat 0

/-- Send an MSI-X message; a masked vector sets its pending bit instead (R473: masking and PBA follow PCI Express).
(DEDUCED, log entry 86.) -/
def State.sendMsix (s : State) (f v : Nat) : State :=
  if s.msixMasked f v then { s with pba := Tbl.set false s.pba (msixKey f v 0) true } else s.emit (.msix f v)

/-- Hardware sets cause i: a message when the cause is enabled and its bit read 0. -/
def State.raise (s : State) (i : Nat) : State :=
  let was := s.getBit R.GLB_INT_STATUS.cause i
  let s1 := s.putBit R.GLB_INT_STATUS.cause i true
  if !was && s.getBit R.GLB_INT_ENABLE.enable i then s1.sendMsix 0 i else s1

/-- Set a one-bit flag. -/
def State.flag (s : State) (f : Fld) : State := s.setF f 1

/-- Set a one-bit flag that is a source of an interrupt cause (Table 17-7). -/
def State.flagC (s : State) (f : Fld) (cause : Nat) : State := (s.setF f 1).raise cause

/-! ### The plinth ring (R358, R359) -/

/-- Table 12-1: the edge of side key chest * 2 + side. -/
def sideEdge (k : Nat) : Nat := [0, 3, 0, 1, 2, 3, 1, 2].getD k 0

/-- The other end of an edge side. -/
def peerSide (k : Nat) : Nat := [2, 5, 0, 6, 7, 1, 3, 4].getD k 0

/-- The two side keys of an edge. -/
def edgeSides (e : Nat) : List Nat := [[0, 2], [6, 3], [4, 7], [1, 5]].getD e []

def State.edgeRetired (s : State) (e : Nat) : Bool :=
  (edgeSides e).any (fun k => s.getF (R.LNK_S_STATUS.state k) == 4)

def State.edgeUp (s : State) (e : Nat) : Bool := (edgeSides e).all (fun k => s.getF (R.LNK_S_STATUS.state k) == 0)

def State.floorOk (s : State) (c : Nat) : Bool := !bit s.boot.floorLost c

/-- The next chest in the ring order 0, 1, 3, 2, and the edge to it. -/
def ringNext (c : Nat) : Nat := [1, 3, 0, 2].getD c 0
def ringEdge (c : Nat) : Nat := [0, 1, 3, 2].getD c 0
/-- The side on which a chest leaves in ring order, and against it. -/
def ringSide (c : Nat) : Nat := [0, 1, 1, 1].getD c 0
def ringPrev (c : Nat) : Nat := [2, 0, 3, 1].getD c 0
def backSide (c : Nat) : Nat := [1, 0, 0, 0].getD c 0

/-- Edges of the way from c to d in ring order, `fuel` hops at most. -/
def ringPath : Nat → Nat → Nat → List Nat
  | 0, _, _ => []
  | fuel + 1, c, d => if c = d then [] else ringEdge c :: ringPath fuel (ringNext c) d

/-- Chests strictly between c and d in ring order. -/
def ringMid : Nat → Nat → Nat → List Nat
  | 0, _, _ => []
  | fuel + 1, c, d => if ringNext c = d then [] else ringNext c :: ringMid fuel (ringNext c) d

/-- Does a way in ring order join c and d (all edges satisfying a test, all floors between working)? -/
def State.arc (s : State) (ok : Nat → Bool) (c d : Nat) : Bool :=
  (ringPath 3 c d).all ok && (ringMid 3 c d).all (fun m => s.floorOk m)

/-- A side takes a state of LNK_Sn_STATUS. -/
def State.sideTakes (s : State) (k st : Nat) : State :=
  ({ s with sides := Tbl.modify SideSt.zero s.sides k (fun t => { t with since := s.now }) } : State).setF (R.LNK_S_STATUS.state k) st

/-- R32: at least one ring path of edges that are up joins plinth c to plinth 0. -/
def State.pathTo0 (s : State) (c : Nat) : Bool :=
  c == 0 || (s.floorOk c && s.floorOk 0 && (s.arc s.edgeUp c 0 || s.arc s.edgeUp 0 c))

/-- R359, Table 12-4: the route from c to d: 0 local, 1 or 2 the side, 3 unreachable. -/
def State.routeOf (s : State) (c d : Nat) : Nat :=
  if c = d then 0
  else
    let ok := fun e => !s.edgeRetired e
    let fwd := s.arc ok c d
    let bwd := s.arc ok d c
    let preferFwd :=
      if ringNext c = d then true else if ringPrev c = d then false else !bit s.lay.routeRev c
    if preferFwd then (if fwd then ringSide c + 1 else if bwd then backSide c + 1 else 3)
    else (if bwd then backSide c + 1 else if fwd then ringSide c + 1 else 3)

/-- Show retired edges and the routes in force in LNK_ROUTE of every chest. -/
def State.updateRoutes (s : State) : State :=
  let ret := (List.range 4).foldl (fun m e => if s.edgeRetired e then m + 2 ^ e else m) 0
  s.each [0, 1, 2, 3] (fun s' c =>
    (s'.setF (R.LNK_ROUTE.edges_retired c) ret).setF (R.LNK_ROUTE.route c)
      ((List.range 4).foldl (fun m d => m + s.routeOf c d * 4 ^ d) 0))

/-! ### The error log (R461-R466) -/

/-- R463: a source unit id. -/
def srcId (chest kind idx : Nat) : Nat := chest * 2 ^ 14 + kind * 2 ^ 10 + idx

/-- R464: the time stamp of an event. -/
def State.stamp (s : State) : Nat × Bool :=
  if s.isSet R.PZL_TIME.locked then (s.ftime, true) else (s.now, false)

def classCnt (k : Nat) : Fld := R.ERR_CLASS_CNT.count k

/-- Cause 0 where the entry's class is enabled (Table 17-7). -/
def State.logCause (s : State) (cls : Nat) : State :=
  if s.getBit R.ERR_INT_CLASS.classes cls then s.raise 0 else s

/-- R461: an entry reaches plinth 0 and takes the next sequence number. -/
def State.logNew (s : State) (e : LogEntry) : State :=
  let seq := s.getF R.ERR_SEQ.seq
  let lost := decide (512 ≤ (seq + 2 ^ 32 - s.getF R.ERR_CONSUMED.consumed) % 2 ^ 32)
  let s1 := { s with log := { s.log with ring := Tbl.set LogEntry.zero s.log.ring (seq % 512) { e with seq := seq } } }
  let s2 := s1.setF R.ERR_SEQ.seq (seq + 1)
  let s3 := if lost then (s2.incSat R.ERR_LOST.count 1).flagC R.ERR_FLAGS.overflow 17 else s2
  let s4 := if e.cls == 1 then s3.flag R.ERR_FLAGS.ue_logged else s3
  (s4.incSat (classCnt e.cls) e.count).logCause e.cls

/-- R465: may the entry join the most recent correctable entry of its slice island? -/
def State.coalesces (s : State) (e : LogEntry) : Bool :=
  if e.cls == 0 && bits e.source 13 10 == 1 then
    match Tbl.get 0 s.log.lastCorr (bits e.source 15 14 * 9 + bits e.source 3 0) with
    | 0 => false
    | q + 1 =>
      let o := Tbl.get LogEntry.zero s.log.ring (q % 512)
      o.seq == q && o.source % 16 == e.source % 16 && bits o.source 15 10 == bits e.source 15 10 && o.cls == 0 &&
        o.event == e.event && o.addrValid == e.addrValid && o.address / 64 == e.address / 64
  else false

/-- An entry reaches plinth 0: coalesced into the earlier one or written new. -/
def State.logArrive (s : State) (e : LogEntry) : State :=
  if s.coalesces e then
    let q := Tbl.get 0 s.log.lastCorr (bits e.source 15 14 * 9 + bits e.source 3 0) - 1
    let s1 := { s with log := { s.log with
      ring := Tbl.modify LogEntry.zero s.log.ring (q % 512) (fun o => { o with count := satAdd 0xFFFFFFFF o.count e.count }) } }
    (s1.incSat (classCnt 0) e.count).logCause 0
  else
    let seq := s.getF R.ERR_SEQ.seq
    let s1 := s.logNew e
    if e.cls == 0 && bits e.source 13 10 == 1 then
      { s1 with log := { s1.log with lastCorr := Tbl.set 0 s1.log.lastCorr (bits e.source 15 14 * 9 + bits e.source 3 0) (seq + 1) } }
    else s1

/-- R466: an entry of chest c travels to plinth 0; without a ring path the plinth holds up to 16 and drops the rest.
(DEDUCED, log entry 98.) -/
def State.logSend (s : State) (c : Nat) (e : LogEntry) : State :=
  if s.pathTo0 c then s.logArrive e
  else
    let h := Tbl.get [] s.log.held c
    if h.length < 16 then { s with log := { s.log with held := Tbl.set [] s.log.held c (h ++ [e]) } }
    else { s with log := { s.log with dropped := Tbl.modify 0 s.log.dropped c (· + 1) } }

/-- Write an entry: chest, kind and index of the source (R463), event and class (Table 17-4), address or event data,
detail, count. -/
def State.logE (s : State) (chest kind idx ev cls : Nat) (av : Bool) (addr detail count : Nat) : State :=
  let st := s.stamp
  s.logSend chest ⟨0, srcId chest kind idx, cls, av, st.2, st.1, addr, ev, detail, count⟩

/-- A protocol-class entry of a package unit with event data. -/
def State.logP (s : State) (kind idx ev addr detail : Nat) : State := s.logE 0 kind idx ev 2 false addr detail 1

/-! ### Logical numbering (R16-R21) -/

def State.understudy (s : State) (c : Nat) : Nat := s.getF (R.GLB_CHEST_MAP.understudy_pos c)

/-- Logical core n's own physical core, with understudy position u. -/
def ownPhys (u n : Nat) : Nat := if n < u then n else n + 1

/-- The physical core that serves logical core n of chest c (R20). -/
def State.servingCore (s : State) (c n : Nat) : Nat :=
  if s.getF (R.GLB_CHEST_MAP.takeover_logical c) = n then s.understudy c else ownPhys (s.understudy c) n

/-- The physical position of logical slice n of chest c; 8 is the sideboard. -/
def State.slicePos (s : State) (c n : Nat) : Nat := if n = 8 then s.understudy c else ownPhys (s.understudy c) n

/-- The logical core a physical core serves, if any. -/
def State.logicalOf (s : State) (c p : Nat) : Option Nat :=
  (List.range 8).find? (fun n => s.servingCore c n == p)

def State.present (s : State) (c n : Nat) : Bool := s.getBit (R.GLB_CHEST_MAP.logical_present c) n

/-- Core key of a package logical core id (R18). -/
def State.coreKey (s : State) (id : Nat) : Nat := id / 8 * 9 + s.servingCore (id / 8) (id % 8)

def State.chestUp (s : State) (c : Nat) : Bool := bit s.boot.upChests c

/-! ### Service tiers (R32, R33) -/

/-- R32: is chest c usable? (DEDUCED, log entry 40.) -/
def State.chestUsable (s : State) (c : Nat) : Bool :=
  s.floorOk c && s.floorOk 0 && s.chestUp c && s.getF (R.MBX_CC_STATUS.state (1 + c)) == 2 && s.pathTo0 c &&
    !bit s.boot.meshBad c &&
    (List.range 8).any (fun n => s.present c n && s.getF (R.SLC_STATUS.state (c * 9 + s.slicePos c n)) != 3)

/-- Table 1-9: the tier in force; `park.off` and a brown-out hold the part at management. -/
def State.tierOf (s : State) (usable : Nat) : Nat :=
  if usable = 0 then 1
  else if usable = 15 && (List.range 32).all (fun id => s.present (id / 8) (id % 8)) &&
      (List.range 36).all (fun u => s.getF (R.SLC_STATUS.state u) < 2) &&
      (List.range 4).all s.edgeUp then 3
  else 2

/-- R33: bring GLB_SERVICE up to date; a change is logged and raises cause 2. (DEDUCED, log entry 40.) -/
def State.updateService (s : State) : State :=
  let off := s.park.off || s.pins.brownOut
  let usable := if off then 0 else (List.range 4).foldl (fun m c => if s.chestUsable c then m + 2 ^ c else m) 0
  let tier := s.tierOf usable
  let old := s.getF R.GLB_SERVICE.tier
  if tier = old && usable = s.getF R.GLB_SERVICE.chest_usable then s
  else
    let s1 := (s.setF R.GLB_SERVICE.tier tier).setF R.GLB_SERVICE.chest_usable usable
    (s1.logE 0 0xC 0 0x18 (if tier < old then 1 else 0) false 0 (old + tier * 4 + usable * 16) 1).raise 2

/-- GLB_BOOT_STATUS: the state of bring-up step k (0 not started, 1 running, 2 done, 3 failed). -/
def State.stepState (s : State) (k : Nat) : Nat := bits (s.getW R.GLB_BOOT_STATUS) (2 * k + 1) (2 * k)

/-! ### Layout state and trays, as other units see them -/

def State.layState (s : State) : Nat := s.getF R.LAY_STATUS.state

/-- A load is in state 0x1, 0x2 or 0x3. -/
def State.loading (s : State) : Bool := 1 ≤ s.layState && s.layState ≤ 3

/-- LAY_STATUS.state changes raise cause 8. -/
def State.setLayState (s : State) (v : Nat) : State :=
  if s.layState = v then s else (s.setF R.LAY_STATUS.state v).raise 8

/-- R296: a layout in force keeps running while another image loads: the state it would report then. -/
def State.runState (s : State) : Nat := if s.loading then s.lay.before else s.layState

/-- The running layout's state changes; while a load reports its own state, the change shows when the load ends. -/
def State.setRunState (s : State) (v : Nat) : State :=
  if s.loading then { s with lay := { s.lay with before := v } } else s.setLayState v

/-- Every tray's key: functions 0-16, trays 0-63. -/
def allTrays : List Nat := List.range 1088

/-- Some tray has outstanding entries. -/
def State.anyOutstanding (s : State) : Bool := !s.journal.isEmpty

/-! ### Partial resets (R448, R449) -/

/-- Is a physical core's island inside a reset that runs? -/
def RunReset.hasCore (r : RunReset) (u : Nat) : Bool :=
  r.chest == u / 9 && (r.level == 2 || (r.level == 1 && r.target == u % 9 / 3) || (r.level == 0 && r.target == u % 9))

/-- Is a physical core held in reset: by a reset that runs, or as a dead core (R455)? -/
def State.coreInReset (s : State) (u : Nat) : Bool :=
  s.rst.running.any (fun r => r.hasCore u) || s.getBit (R.GLB_CHEST_MAP.phys_dead (u / 9)) (u % 9)

def State.chestInReset (s : State) (c : Nat) : Bool := s.rst.running.any (fun r => r.chest == c && r.level == 2)

/-- Is a control core (MBX_CC_STATUS index) inside a reset that runs? -/
def RunReset.hasCc (r : RunReset) (i : Nat) : Bool :=
  if i = 0 then false
  else if i < 5 then r.level == 2 && r.chest == i - 1
  else r.chest == (i - 5) / 3 && (r.level == 2 || (r.level == 1 && r.target == (i - 5) % 3))

/-- Count an absorbed request or a dropped posted write at the boundary of a chest's running reset. -/
def State.absorb (s : State) (inScope : RunReset → Bool) (posted : Bool) : State :=
  let s1 := s.incSat (if posted then R.GLB_ABSORB_POSTED.count else R.GLB_ABSORB_REQ.count) 1
  { s1 with rst := { s1.rst with running := s1.rst.running.map (fun r =>
      if inScope r then { r with absorbed := r.absorbed + 1 } else r) } }

end Sys2Proof.Machine
end

