-- ==== Sys2Proof/Machine/LayOps.lean ====
section
/-!
DEFINITION. What the layout in force says: header fields, the sections that apply to the act in force, cores, regions,
slots, the slices it uses (R291, R292, R317, R554).
-/

namespace Sys2Proof.Machine

open Sys2Proof

/-! ### Header (Table 10-1) -/

def imgMagic (i : Image) : Nat := fieldAt i.header 0 8
def imgVersion (i : Image) : Nat := fieldAt i.header 8 2
def imgBehaviour (i : Image) : Nat := fieldAt i.header 10 1
def imgKeySel (i : Image) : Nat := fieldAt i.header 11 1
def imgSections (i : Image) : Nat := fieldAt i.header 12 2
def imgLength (i : Image) : Nat := fieldAt i.header 16 8
def imgId (i : Image) : Nat := fieldAt i.header 24 8
def imgLicences (i : Image) : Nat := fieldAt i.header 32 4
def imgMaxTemp (i : Image) : Nat := fieldAt i.header 36 1
/-- Reserved header bytes and licence bits hold zero (R291). -/
def imgReservedOk (i : Image) : Bool := fieldAt i.header 14 2 == 0 && fieldAt i.header 37 219 == 0 && decide (imgLicences i < 32)

/-- "DSKLAYE4", little-endian. -/
def layMagic : Nat := leNat ([0x44, 0x53, 0x4B, 0x4C, 0x41, 0x59, 0x45, 0x34].map (BitVec.ofNat 8))

/-! ### The bytes of an image (R291, R292, R305, R308, R315) -/

/-- Bytes [a, a + n) of an image or of a section. -/
def cutBytes (b : List Byte) (a n : Nat) : List Byte := (b.drop a).take n

/-- R315: an entry of the act schedule: act at +0, epoch count at +2, switch allowance at +4. (DEDUCED, log entry 127.) -/
def schedEnt (e : List Byte) : SchedEnt :=
  ⟨fieldAt e 0 1, fieldAt e 2 2, fieldAt e 4 2, fieldAt e 1 1 + fieldAt e 6 2 * 2 ^ 8⟩

/-- Table 10-5. -/
def groupSec (b : List Byte) : GroupSec :=
  let n := fieldAt b 4 2
  ⟨fieldAt b 0 4, n, fieldAt b 6 2, fieldAt b 8 1, fieldAt b 0xA 2, fieldAt b 9 1 + fieldAt b 0xC 4 * 2 ^ 8, BitVec.ofNat 512 (fieldAt b 0x10 64),
    (List.range (min n ((b.length - 0x50) / 2))).map (fun k => fieldAt b (0x50 + 2 * k) 2)⟩

/-- R308: a slot entry; its source is an operand base of Table 6-2, whose core field names the tile store of space 1. -/
def slotEnt (e : List Byte) : SlotEnt :=
  let base := fieldAt e 0x18 8
  ⟨fieldAt e 0 4, fieldAt e 4 2, fieldAt e 6 1, fieldAt e 7 1, fieldAt e 8 2, fieldAt e 0xA 2, fieldAt e 0xC 1, fieldAt e 0x10 4, bits base 38 0,
    bits base 40 39, bits base 46 42, fieldAt e 0xD 3 + fieldAt e 0x14 4 * 2 ^ 24 + bits base 41 41 * 2 ^ 56 + bits base 63 47 * 2 ^ 57⟩

/-- Content that the spec gives by its bytes is never taken from fields. -/
def byFields : SecBody → SecBody
  | .acts _ _ | .group _ | .slots _ => .other
  | b => b

/-- The content of a section of type t whose bytes are b. -/
def secBody (t : Nat) (b : List Byte) : SecIn → SecBody
  | .acts n at_ k => .acts n ((List.range k).map (fun i => schedEnt (cutBytes b (at_ + 8 * i) 8)))
  | .bytes =>
    if t = 2 then .group (groupSec b)
    else if t = 3 then .slots ((List.range (b.length / 32)).map (fun i => slotEnt (cutBytes b (32 * i) 32)))
    else .other
  | .fields x => byFields x

/-- R292: entry k of the section table, with its section. -/
def sectionOf (x : ImageIn) (k : Nat) : Section :=
  let e := cutBytes x.bytes (0x100 + 32 * k) 32
  let off := fieldAt e 8 8
  let len := fieldAt e 0x10 8
  ⟨fieldAt e 0 2, fieldAt e 2 2, fieldAt e 4 1, fieldAt e 5 1, fieldAt e 6 2 + fieldAt e 0x18 8 * 2 ^ 16, off, len,
    secBody (fieldAt e 0 2) (cutBytes x.bytes off len) (x.content.getD k (.fields .other))⟩

/-- R291, R293: a fetched image: the digest covers all its bytes but the last 64, which are its signature. -/
def imageOf (x : ImageIn) : Image :=
  let n := x.bytes.length
  ⟨x.bytes.take 256, (List.range (min 256 (fieldAt x.bytes 0xC 2))).map (sectionOf x), Config.sha512 (x.bytes.take (n - 64)),
    BitVec.ofNat 512 (leNat (x.bytes.drop (n - 64)))⟩

/-! ### Sections -/

/-- The sections of an image that apply to act a. -/
def secsOf (i : Image) (a : Nat) : List Section := i.sections.filter (fun x => x.act == a || x.act == 0xFFFF)

/-- Does a section's scope take in chest c and unit n? -/
def secCovers (x : Section) (c n : Nat) : Bool := (x.chest == c || x.chest == 0xFF) && (x.unit == n || x.unit == 0xFF)

def actsOf (i : Image) : Option (Nat × List SchedEnt) :=
  i.sections.findSome? (fun x => match x.body with | .acts n l => some (n, l) | _ => none)

def groupOf (i : Image) : Option GroupSec :=
  i.sections.findSome? (fun x => match x.body with | .group g => some g | _ => none)

/-- The cores of act a. -/
def coresOf (i : Image) (a : Nat) : List CoreCfg :=
  i.sections.flatMap (fun x => match x.body with | .cores l => l.filter (fun c => c.act == a) | _ => [])

def slotsOf (i : Image) (a : Nat) : List SlotEnt :=
  (secsOf i a).flatMap (fun x => match x.body with | .slots l => l | _ => [])

/-- Descriptor areas of act a: package core id, base, descriptors. -/
def descsOf (i : Image) (a : Nat) : List (Nat × Nat × List (List Byte)) :=
  (secsOf i a).filterMap (fun x => match x.body with | .desc b l => some (x.chest * 8 + x.unit, b, l) | _ => none)

def chainsOf (i : Image) (a id : Nat) : Option (List Word64) :=
  (secsOf i a).findSome? (fun x => match x.body with
    | .chains w => if secCovers x (id / 8) (id % 8) then some w else none
    | _ => none)

/-- Initial tile-store contents and constant blocks of act a. -/
def dataOf (i : Image) (a : Nat) : List DataEnt :=
  (secsOf i a).flatMap (fun x => match x.body with | .data l => l | _ => [])

/-- The PUPPET section of logical slice n of chest c. -/
def puppetOf (i : Image) (a c n : Nat) : Option PupSec :=
  (secsOf i a).findSome? (fun x => match x.body with
    | .puppet p => if secCovers x c n then some p else none
    | _ => none)

def regionsOf (i : Image) (a : Nat) : List Region :=
  (secsOf i a).flatMap (fun x => match x.body with | .regions l _ => l | _ => [])

def slotCfgsOf (i : Image) (a : Nat) : List SlotCfg :=
  (secsOf i a).flatMap (fun x => match x.body with | .regions _ l => l | _ => [])

def kvOf (i : Image) : Option KvGeo := i.sections.findSome? (fun x => match x.body with | .kv g => some g | _ => none)

def qosOf (i : Image) : Option QosSec := i.sections.findSome? (fun x => match x.body with | .qos q => some q | _ => none)

def powerOf (i : Image) : Option (Nat × Bool) :=
  i.sections.findSome? (fun x => match x.body with | .power m st => some (m, st) | _ => none)

def routesOf (i : Image) (a : Nat) : List RouteEnt :=
  (secsOf i a).flatMap (fun x => match x.body with | .routes l => l | _ => [])

/-! ### The layout in force -/

def State.act (s : State) : Nat := s.getF R.LAY_STATUS.act

/-- A value of the layout in force, or `d` when there is none. -/
def State.fromLayout {α : Type} (s : State) (d : α) (f : Image → α) : α :=
  match s.lay.force with
  | some i => f i
  | none => d

def State.coreCfg (s : State) (id : Nat) : Option CoreCfg :=
  s.fromLayout none (fun i => (coresOf i s.act).find? (fun c => c.core == id))

def State.landCfg (s : State) (id idx : Nat) : Option LandCfg :=
  (s.coreCfg id).bind (fun c => c.landings.find? (fun l => l.idx == idx))

def State.kvGeo (s : State) : Option KvGeo := s.fromLayout none kvOf

/-- R169: the home address of descriptor n of package core id. -/
def State.descAddr (s : State) (id n : Nat) : Option Nat :=
  s.fromLayout none (fun i => ((descsOf i s.act).find? (fun d => d.1 == id)).map (fun d => d.2.1 + 256 * n))

def inRange (a base len : Nat) : Bool := decide (base ≤ a) && decide (a < base + len)

/-- Do [a, a+n) and [base, base+len) meet? -/
def overlaps (a n base len : Nat) : Bool := decide (a < base + len) && decide (base < a + n) && decide (0 < n) && decide (0 < len)

/-- R170: does a range meet a descriptor area of the act in force? -/
def State.inDescArea (s : State) (a n : Nat) : Bool :=
  s.fromLayout false (fun i => (descsOf i s.act).any (fun d => overlaps a n d.2.1 (256 * d.2.2.length)))

/-- R213: is an address in a region declared for puppet use? -/
def State.puppetRegion (s : State) (a : Nat) : Bool :=
  s.fromLayout false (fun i => (regionsOf i s.act).any (fun r => r.puppet && inRange a r.base r.len))

/-- R163: does some descriptor of the act take the deferred vectors of descriptor d of core `id`? -/
def consumed (i : Image) (a id : Nat) (d : Desc) : Bool := (descsOf i a).any (fun x => x.2.2.any (takesVector d id x.1))

/-- The planned extents of a descriptor of core `id`: space, first byte, bytes. -/
def descExtents (i : Image) (a id : Nat) (d : Desc) : List (Nat × Nat × Nat) :=
  (if d.x.space ≤ 1 then [(d.x.space, xSpan d)] else []) ++ (if d.w.space ≤ 1 then [(d.w.space, wSpan d)] else []) ++
  (if d.y.space ≤ 1 then [(d.y.space, ySpan d)] else []) ++ scaleSpans d ++
  (if d.deferred && !consumed i a id d then [(bits d.defRegion 40 39, defSpan d)] else [])

/-- The device addresses an act's sections name (R554), as ranges. -/
def namedRanges (i : Image) (a : Nat) : List (Nat × Nat) :=
  (descsOf i a).map (fun d => (d.2.1, 256 * d.2.2.length)) ++
  (descsOf i a).flatMap (fun d => d.2.2.flatMap (fun b =>
    ((descExtents i a d.1 b).filter (fun e => e.1 == 0)).map (fun e => e.2))) ++
  (dataOf i a).filterMap (fun e => if e.space == 0 then some (e.addr, e.bytes.length) else none) ++
  (coresOf i a).flatMap (fun c => [(c.spillArea, c.spill.foldl (fun n p => n + p.2) 0), (c.restoreArea, c.restore.foldl (fun n p => n + p.2) 0)]) ++
  (slotsOf i a).filterMap (fun e => if e.srcSpace == 0 && e.dir == 0 then some (e.srcAddr, e.bytes) else none) ++
  (regionsOf i a).map (fun r => (r.base, r.len))

def addrChest (a : Nat) : Nat := bits a 38 37
def addrSlice (a : Nat) : Nat := bits a 36 33
def addrOff (a : Nat) : Nat := bits a 32 0
def mkAddr (c sl o : Nat) : Nat := c * 2 ^ 37 + sl * 2 ^ 33 + o

/-! ### Memory that a layout declares (R299) -/

/-- The indices of the acts. -/
def actList (i : Image) : List Nat := match actsOf i with | some (n, _) => List.range n | none => [0]

/-- What the sections of an act declare, as ranges. -/
def declaredRanges (i : Image) (a : Nat) : List (Nat × Nat) :=
  (descsOf i a).map (fun d => (d.2.1, 256 * d.2.2.length)) ++
  (dataOf i a).filterMap (fun e => if e.space == 0 then some (e.addr, e.bytes.length) else none) ++
  (coresOf i a).flatMap (fun c => [(c.spillArea, c.spill.foldl (fun n p => n + p.2) 0), (c.restoreArea, c.restore.foldl (fun n p => n + p.2) 0)]) ++
  (regionsOf i a).map (fun r => (r.base, r.len))

/-- The KV tables of every chest (R262-R264). -/
def kvTables (g : KvGeo) : List (Nat × Nat) :=
  (List.range 4).flatMap (fun c =>
    [(mkAddr c 8 g.seqBase, 2 ^ 24), (mkAddr c 8 g.hdrBase, 2 ^ 23), (mkAddr c 8 g.mapBase, g.sequences * g.mapStride)])

/-- What is left of ranges outside another. -/
def cutOut (l : List (Nat × Nat)) (r : Nat × Nat) : List (Nat × Nat) :=
  l.flatMap (fun x => [(x.1, min (x.1 + x.2) r.1 - x.1), (max x.1 (r.1 + r.2), x.1 + x.2 - max x.1 (r.1 + r.2))].filter (fun y => decide (0 < y.2)))

/-- The parts of a range outside the regions that some act declares host-writable. -/
def notWritable (i : Image) (a n : Nat) : List (Nat × Nat) :=
  ((actList i).flatMap (fun x => (regionsOf i x).filter (fun r => r.hostWritable))).foldl (fun l r => cutOut l (r.base, r.len)) [(a, n)]

/-- R554: does act a of an image use logical slice n of chest c? -/
def actUses (i : Image) (a c n : Nat) : Bool :=
  (n < 8 && (coresOf i a).any (fun x => x.core == c * 8 + n)) ||
  (namedRanges i a).any (fun p => overlaps p.1 p.2 (mkAddr c n 0) (2 ^ 33)) ||
  (slotCfgsOf i a).any (fun x => n == 8 && x.chest == c && x.enabled) ||
  (puppetOf i a c n).isSome ||
  (match kvOf i with
   | some g => (n < 8 && g.streams.contains (c * 8 + n)) || n == 8
   | none => false)

/-- R294, R426: the chest whose sideboard holds the staging area: the lowest-numbered one whose sideboard slice is not
failed. -/
def State.stageChest (s : State) : Option Nat :=
  (List.range 4).find? (fun c => s.chestUp c && s.getF (R.SLC_STATUS.state (c * 9 + s.understudy c)) != 3)

/-- R294: does a range meet the staging area? -/
def State.inStaging (s : State) (a n : Nat) : Bool :=
  match s.stageChest with
  | some c => overlaps a n (mkAddr c 8 0x180000000) 0x40000000
  | none => false

/-- R426: does a range meet the firmware copy? -/
def State.inFwCopy (s : State) (a n : Nat) : Bool :=
  match s.boot.fwHome with
  | some c => overlaps a n (mkAddr c 8 0x17F800000) 0x800000
  | none => false

/-- R554: SLC_STATUS.offline of every slice. -/
def State.updateOffline (s : State) : State :=
  s.each (List.range 36) (fun s' u =>
    let c := u / 9
    let used := (List.range 9).any (fun n => s'.slicePos c n == u % 9 &&
      (s'.fromLayout false (fun i => actUses i s'.act c n) || (n == 8 && s'.loading && s'.stageChest == some c)))
    s'.setF (R.SLC_STATUS.offline u) (if used then 0 else 1))

end Sys2Proof.Machine
end

