-- ==== Sys2Proof/Machine/Wire.lean ====
section
/-!
DEFINITION. Bits on the links: fabric flits, codeword pairs and lanes (R326, R329), edge flits and the bytes of a mesh
packet inside them (R362).
-/

namespace Sys2Proof.Machine

open Sys2Proof

/-! ### CRC-32C (R329, R362) -/

def crcBit (c : Nat) : Nat := if c % 2 = 1 then c / 2 ^^^ 0x82F63B78 else c / 2

def crcByte (c : Nat) (b : Byte) : Nat := Nat.repeat crcBit 8 (c ^^^ b.toNat)

/-- The spec names the code and gives no polynomial: that of the name, reflected, from all ones and inverted at the end.
(PRESUMED, log entry 138.) -/
def crc32c (l : List Byte) : Nat := l.foldl crcByte 0xFFFFFFFF ^^^ 0xFFFFFFFF

/-- A byte list filled up with zeros to n bytes. -/
def padTo (n : Nat) (l : List Byte) : List Byte := l ++ List.replicate (n - l.length) 0

/-! ### Fabric flits (R329) -/

/-- Table 11-3: the 96 header bits. -/
def flitHeader (f : Flit) : Nat :=
  f.hdr.seq % 2 ^ 12 + f.hdr.ack % 2 ^ 12 * 2 ^ 12 + (if f.hdr.nak then 2 ^ 24 else 0) + (if f.hdr.seqd then 2 ^ 25 else 0) +
  f.hdr.vc % 4 * 2 ^ 26 + f.op % 16 * 2 ^ 28 + f.hdr.dest % 2 ^ 12 * 2 ^ 32 + f.hdr.src % 2 ^ 12 * 2 ^ 44 +
  cdiv f.payload.length 16 % 16 * 2 ^ 56 + f.hdr.crVc % 4 * 2 ^ 60 + f.hdr.crTotal % 2 ^ 12 * 2 ^ 62 + f.hdr.opField % 2 ^ 22 * 2 ^ 74

/-- Header bytes 0-7 of a flit, as event 0x10 logs them. -/
def flitHead (f : Flit) : Nat := flitHeader f % 2 ^ 64

/-- The 256 bytes of a flit. -/
def flitBytes (f : Flit) : List Byte :=
  let b := leBytes 12 (flitHeader f) ++ padTo 240 f.payload
  b ++ leBytes 4 (crc32c b)

/-- What 256 bytes say; nothing when their CRC is bad. -/
def flitOf (b : List Byte) : Option Flit :=
  let h := fieldAt b 0 12
  if b.length = 256 ∧ fieldAt b 252 4 = crc32c (b.take 252) then
    some ⟨bits h 31 28, ⟨bits h 11 0, bits h 23 12, bit h 24, bit h 25, bits h 27 26, bits h 43 32, bits h 55 44, bits h 61 60, bits h 73 62,
      bits h 95 74⟩, (b.drop 12).take (bits h 59 56 * 16)⟩
  else none

/-! ### Codeword pairs (R326, R327) -/

/-- Table 11-1. -/
def frameWord (pair good : Nat) : Nat := 0xA5C3 + pair % 2 ^ 12 * 2 ^ 16 + good % 2 ^ 8 * 2 ^ 28

/-- The scrambler x^58 + x^39 + 1 on n bits of x, lowest first, at most 39 at a time; the state holds the last 58 bits
sent, the newest highest. Bits out, and the state after them. -/
def scramble : Nat → Nat → Nat → Nat → Nat × Nat
  | 0, st, _, _ => (0, st)
  | fuel + 1, st, x, n =>
    let r := min 39 n
    let o := (x ^^^ st / 2 ^ 19 ^^^ st) % 2 ^ r
    let z := scramble fuel ((st + o * 2 ^ 58) / 2 ^ r % 2 ^ 58) (x / 2 ^ r) (n - r)
    (o + z.1 * 2 ^ r, z.2)

/-- The 10,280 message bits of a pair before the scrambler: the frame word, then five flits. -/
def pairMessage (pair good : Nat) (fs : List Flit) : Nat := frameWord pair good + leNat (fs.flatMap flitBytes) * 2 ^ 40

/-- The message as it is sent, and the scrambler's state after it: the sync field passes as it is. -/
def pairBits (st pair good : Nat) (fs : List Flit) : Nat × Nat :=
  let m := pairMessage pair good fs
  let z := scramble 264 st (m / 2 ^ 16) 10264
  (m % 2 ^ 16 + z.1 * 2 ^ 16, z.2)

/-- RS(544,514): 514 message symbols and the 30 parity symbols of the generator polynomial that the spec takes from
another standard. (DESIGN CHOICE, log entry 131.) -/
def codeword (m : Nat) : List Nat :=
  let msg := (List.range 514).map (fun i => m / 2 ^ (10 * i) % 2 ^ 10)
  msg ++ (List.range 30).map (fun i => (Config.fecParity msg i).toNat)

/-- Codeword A, then codeword B. -/
def pairSymbols (m : Nat) : List Nat := codeword m ++ codeword (m / 2 ^ 5140)

/-- Symbols dealt round robin to lanes, the first to the lane at place `at_` of those in use. -/
def deal (lanes : List Nat) (at_ : Nat) (syms : List Nat) : List (Nat × List Nat) :=
  (List.range lanes.length).map (fun j =>
    (lanes.getD j 0, (syms.zipIdx.filter (fun x => (at_ + x.2) % lanes.length == j)).map (fun x => x.1)))

/-- R326, R327: codewords 0 (A) and 1 (B) of its pair that hold bits of the flit at place q. -/
def flitCodewords (q : Nat) : List Nat := if q < 2 then [0] else if q = 2 then [0, 1] else [1]

/-! ### Edge flits (R362) -/

/-- Table 12-3. -/
def edgeHeader (h : EdgeHdr) : Nat :=
  h.seq % 2 ^ 10 + h.ack % 2 ^ 10 * 2 ^ 10 + (if h.nak then 2 ^ 20 else 0) + (if h.seqd then 2 ^ 21 else 0) + h.vc % 4 * 2 ^ 22 +
  h.cls % 4 * 2 ^ 24 + h.crVc % 4 * 2 ^ 26 + h.crTotal % 2 ^ 10 * 2 ^ 28 + h.len8 % 2 ^ 7 * 2 ^ 38 + h.crCls % 4 * 2 ^ 45

/-- The 1,024 bytes of an edge flit. -/
def edgeFlitBytes (f : EdgeFlit) : List Byte :=
  let b := leBytes 8 (edgeHeader f.hdr) ++ padTo 1008 f.payload
  b ++ leBytes 4 (crc32c b) ++ List.replicate 4 0

/-- What 1,024 bytes say; nothing when their CRC is bad. -/
def edgeFlitOf (b : List Byte) : Option EdgeFlit :=
  let h := fieldAt b 0 8
  if b.length = 1024 ∧ fieldAt b 1016 4 = crc32c (b.take 1016) then
    some ⟨⟨bits h 9 0, bits h 19 10, bit h 20, bit h 21, bits h 23 22, bits h 25 24, bits h 27 26, bits h 37 28, bits h 44 38, bits h 46 45⟩,
      (b.drop 8).take (8 * bits h 44 38)⟩
  else none

/-- A flit as it arrives: as it was sent, or with some of its bits changed. -/
def edgeArrives (f : EdgeFlit) (err : BitVec 8192) : Option EdgeFlit :=
  if err = 0 then some f
  else edgeFlitOf ((edgeFlitBytes f).zipWith (fun a b => a ^^^ b) (leBytes 1024 err.toNat))

/-! ### A packet's bytes on an edge (R355, R362) -/

def meshPortCode : MeshPort → Nat
  | .core => 0
  | .slice => 1
  | .control => 2
  | .cache => 3
  | .plinth => 4

def meshPortOf (n : Nat) : MeshPort :=
  if n = 0 then .core else if n = 1 then .slice else if n = 2 then .control else if n = 3 then .cache else .plinth

/-- The 16-byte header beat; the spec gives it no fields. (DESIGN CHOICE, log entry 134.) -/
def meshHeader (p : MeshPkt) : Nat :=
  p.src % 16 + meshPortCode p.srcPort * 2 ^ 4 + p.home % 4 * 2 ^ 7 + p.dst % 16 * 2 ^ 9 + meshPortCode p.port * 2 ^ 13 + p.chest % 4 * 2 ^ 16 +
  p.vc % 4 * 2 ^ 18 + p.level % 8 * 2 ^ 20 + p.master % 256 * 2 ^ 23 + (if p.request then 2 ^ 31 else 0) + p.tag % 2 ^ 32 * 2 ^ 32 +
  p.crossed % 4 * 2 ^ 64 + p.data.length % 2 ^ 32 * 2 ^ 66 + p.cls % 4 * 2 ^ 98

/-- Header, then data. -/
def meshBytes (p : MeshPkt) : List Byte := leBytes 16 (meshHeader p) ++ p.data

/-- R355: a packet's data beats, 1,024 bytes each; the first rides with the header. -/
def meshBeats (p : MeshPkt) : Nat := max 1 (cdiv p.data.length 1024)

/-- R354: the local ports of a router: core and slice island at each, control cores at p0, p3, p4 and p6, the sideboard cache
at p4; the units of a plinth at its router. -/
def portFits (r : Nat) : MeshPort → Bool
  | .core => decide (r < 9)
  | .slice => decide (r < 9)
  | .control => [0, 3, 4, 6].contains r
  | .cache => r == 4
  | .plinth => r == 9

/-- A packet the network can carry. -/
def meshFits (p : MeshPkt) : Bool :=
  decide (p.home < 4) && decide (p.chest < 4) && portFits p.src p.srcPort && portFits p.dst p.port && decide (p.vc < 4) &&
  p.beats.length == meshBeats p

/-- The packet that reassembled bytes hold. -/
def meshOf (b : List Byte) : MeshPkt :=
  let h := fieldAt b 0 16
  let p : MeshPkt :=
    { src := bits h 3 0, srcPort := meshPortOf (bits h 6 4), home := bits h 8 7, dst := bits h 12 9, port := meshPortOf (bits h 15 13)
      chest := bits h 17 16, vc := bits h 19 18, cls := bits h 99 98, level := bits h 22 20, master := bits h 30 23, request := bit h 31, tag := bits h 63 32
      crossed := bits h 65 64, data := (b.drop 16).take (bits h 97 66), beats := [] }
  { p with beats := List.replicate (meshBeats p) 0 }

end Sys2Proof.Machine
end

