-- ==== Sys2Proof/Machine/FabOps.lean ====
section
/-!
DEFINITION. The fabric link: flits and messages, credits, acknowledgement and replay, what a port does with a flit it
receives (R329-R340, R344, R345).
-/

namespace Sys2Proof.Machine

open Sys2Proof

def State.port (s : State) (p : Nat) : PortSt := Tbl.get PortSt.zero s.ports p

def State.setPort (s : State) (p : Nat) (f : PortSt → PortSt) : State :=
  { s with ports := Tbl.modify PortSt.zero s.ports p f }

/-- PZL_Pn_STATUS.state codes (Table 11-13). -/
def State.portState (s : State) (p : Nat) : Nat := s.getF (R.PZL_P_STATUS.state p)

def State.portIsUp (s : State) (p : Nat) : Bool := s.portState p == 2

/-- A port that carries traffic, or will once it has retrained. (DEDUCED, log entry 133.) -/
def State.portLinked (s : State) (p : Nat) : Bool := s.portState p == 2 || s.portState p == 3

def State.deviceId (s : State) : Nat := s.getF R.PZL_ID.device_id

def State.idAssigned (s : State) : Bool := s.isSet R.PZL_ID.assigned

/-- R345: the port for traffic to device d. -/
def State.homePort (s : State) (d : Nat) : Option Nat :=
  ((List.range 8).map (fun i => (d + i) % 8)).find? s.portLinked

/-! Fields of op_field (Table 11-3). -/

def flitTag (f : Flit) : Nat := bits f.hdr.opField 11 0
def flitCore (f : Flit) : Nat := bits f.hdr.opField 16 12
def flitStatus (f : Flit) : Nat := bits f.hdr.opField 15 12
def flitFirst (f : Flit) : Bool := bit f.hdr.opField 17
def flitLast (f : Flit) : Bool := bit f.hdr.opField 18

/-- Cut a byte list into pieces of n. -/
def chunks (n : Nat) : Nat → List Byte → List (List Byte)
  | 0, _ => []
  | fuel + 1, l => if l.isEmpty then [] else l.take n :: chunks n fuel (l.drop n)

/-- R330: the flits of a message, in order, first and last marked. Sequence, ack and credit fields are set at sending. -/
def msgFlits (op vc dest src field : Nat) (payload : List Byte) : List Flit :=
  let parts := if payload.isEmpty then [[]] else chunks 240 (payload.length / 240 + 1) payload
  (List.range parts.length).map (fun i =>
    ⟨op, ⟨0, 0, false, true, vc, dest, src, 0, 0,
      field + (if i = 0 then 2 ^ 17 else 0) + (if i + 1 = parts.length then 2 ^ 18 else 0)⟩, parts.getD i []⟩)

/-- Put flits at the end of a port's transmit queue. -/
def State.queueFlits (s : State) (p vc : Nat) (fs : List Flit) : State :=
  s.setPort p (fun t => { t with queue := Tbl.modify [] t.queue vc (· ++ fs) })

/-- R332: the response to a request of another device; a read that fails carries no data. -/
def State.fabricRespond (s : State) (dev tag op status : Nat) (data : List Byte) : State :=
  match s.homePort dev with
  | none => s
  | some p =>
    s.queueFlits p 2 (msgFlits (if op = 2 then 5 else 6) 2 dev s.deviceId (tag + status * 2 ^ 12) (if status = 0 then data else []))

/-- The control core a master id names. -/
def ccOfMid (mid : Nat) : Option Nat :=
  if mid = 0x1A then some 0
  else if mid % 64 = 0x0C then some (1 + mid / 64)
  else if 9 ≤ mid % 64 ∧ mid % 64 ≤ 11 then some (5 + 3 * (mid / 64) + (mid % 64 - 9))
  else none

/-- Table 17-5: the answer to a request of a unit of this part or of another device. -/
def State.respond (s : State) (src : ReqSrc) (status : Nat) (data : List Byte) : State :=
  let d := if status = 0 then data else []
  match src with
  | .fabric dev tag op => s.fabricRespond dev tag op status d
  | .gone => s
  | .master m =>
    let s1 := s.emit (.response src status d)
    match ccOfMid m with
    | some i => if status = 0 then s1 else s1.emit (.accessFault i)
    | none => s1

/-! ### Credits (R334) -/

/-- Credits the port holds on a VC: initial credit plus what the peer freed, minus what was sent. -/
def PortSt.credit (t : PortSt) (vc : Nat) : Nat :=
  let init := Tbl.get 0 t.crInit vc
  let out := (Tbl.get 0 t.sent vc + 4096 - Tbl.get 0 t.crPeer vc) % 4096
  init - out

/-- Show the credits held in PZL_Pn_CREDITS. -/
def State.showCredits (s : State) (p : Nat) : State :=
  let t := s.port p
  ((s.setF (R.PZL_P_CREDITS.vc1 p) (min 4095 (t.credit 1))).setF (R.PZL_P_CREDITS.vc2 p) (min 4095 (t.credit 2))).setF
    (R.PZL_P_CREDITS.vc3 p) (min 255 (t.credit 3))

/-! ### Fabric time (R303, R304, R350) -/

/-- R303, R304: one nanosecond on the local reference. A slew moves the count by at most 1 ns per us and never backward
(R350); while time is not locked, LAY_FLAGS.time_unlock is set. (DESIGN CHOICE, log entry 3.) -/
def State.timeTick (s : State) : State :=
  let due := (s.now + 1) % 1000 == 0
  let w := s.fab.slew
  let s1 :=
    if due && decide (0 < w) then { s with now := s.now + 1, ftime := s.ftime + 2, fab := { s.fab with slew := w - 1 } }
    else if due && decide (w < 0) then { s with now := s.now + 1, fab := { s.fab with slew := w + 1 } }
    else { s with now := s.now + 1, ftime := s.ftime + 1 }
  if s.isSet R.PZL_TIME.locked || s.isSet R.LAY_FLAGS.time_unlock then s1 else s1.flagC R.LAY_FLAGS.time_unlock 8

/-- PZL_TIME.locked and LAY_GROUP.locked; losing lock sets time_unlock. -/
def State.setLocked (s : State) (b : Bool) : State :=
  let s1 := (s.setF R.PZL_TIME.locked (if b then 1 else 0)).setF R.LAY_GROUP.locked (if b then 1 else 0)
  if b then s1 else s1.flagC R.LAY_FLAGS.time_unlock 8

/-- Has port p received a TIME in the last 200 us? -/
def State.hasTime (s : State) (p : Nat) : Bool :=
  let t := Tbl.get 0 s.fab.lastTime p
  t != 0 && decide (s.now + 1 < t + 200000)

/-- R350: the time source is the lowest-numbered up port that has received a TIME in the last 200 us. -/
def State.timeSource (s : State) : Option Nat := (List.range 8).find? (fun p => s.portIsUp p && s.hasTime p)

/-- The source as PZL_TIME shows it. -/
def State.shownSource (s : State) : Option Nat :=
  if s.isSet R.PZL_TIME.source_valid then some (s.getF R.PZL_TIME.source_port) else none

/-- The source is found anew; once no port has had a TIME for 200 us the part unlocks. (DEDUCED, log entry 57.) -/
def State.findSource (s : State) : State :=
  match s.timeSource with
  | some p => (s.setF R.PZL_TIME.source_valid 1).setF R.PZL_TIME.source_port p
  | none =>
    let s1 := s.setF R.PZL_TIME.source_valid 0
    if (List.range 8).any s.hasTime then s1
    else
      let s2 := { s1 with fab := { s1.fab with errors := [], slew := 0 } }
      if s2.isSet R.PZL_TIME.locked then s2.setLocked false else s2

/-- Port p has brought no TIME for 200 us. -/
def State.dropSource (s : State) (p : Nat) : State :=
  ({ s with fab := { s.fab with lastTime := Tbl.set 0 s.fab.lastTime p 0 } } : State).findSource

/-! ### Training, errors, replay -/

/-- R343: a port that is up enters retraining; its width stays in force until the new one is up. -/
def State.retrainPort (s : State) (p : Nat) : State :=
  if s.portIsUp p then ((s.setF (R.PZL_P_STATUS.state p) 3).findSource).emit (.training p (s.getF (R.PZL_P_STATUS.local_good p))) else s

/-- R336, R338: a protocol or credit error of a port: flagged, logged with its cause, and the port retrains. -/
def State.portError (s : State) (p cause : Nat) (f : Flit) : State :=
  ((s.flag (R.PZL_P_FLAGS.error p)).logP 5 p 0x10 (flitHead f) (f.op % 16 + cause * 16)).retrainPort p

/-- R343: link-up from enable: a fresh link, in loopback mode where PZL_Pn_CTRL says so (R324). (DEDUCED, log entry 53.) -/
def State.startPort (s : State) (p : Nat) : State :=
  ((s.setF (R.PZL_P_STATUS.state p) 1).setPort p (fun _ => { PortSt.zero with loopback := s.isSet (R.PZL_P_CTRL.loopback p) })).emit
    (.training p (s.getF (R.PZL_P_STATUS.local_good p)))

/-- R323: a port that may be enabled is enabled from the start. (DEDUCED, log entry 53.) -/
def State.licensePort (s : State) (p : Nat) : State :=
  if s.isSet (R.PZL_P_STATUS.licensed p) then s
  else (((s.setF (R.PZL_P_STATUS.licensed p) 1).setF (R.PZL_P_CTRL.enable p) 1)).startPort p

/-- R330: a flit that is dropped; its credit is returned by the caller. -/
def State.portDrop (s : State) (p cause : Nat) (f : Flit) : State :=
  (s.flag (R.PZL_P_FLAGS.error p)).logP 5 p 0x10 (flitHead f) (f.op % 16 + cause * 16)

/-- R340: start a replay of every unacknowledged flit. (DEDUCED, log entry 58.) -/
def State.replayPort (s : State) (p : Nat) : State :=
  let s1 := (s.incSat (R.PZL_P_REPLAYS.count p) 1).flag (R.PZL_P_FLAGS.replay p)
  s1.setPort p (fun t => { t with resend := t.replay, replays := t.replays + 1, progressAt := s.now })

/-- R340: a replay; after 8 without progress the port retrains. (DEDUCED, log entry 58.) -/
def State.replayOrRetrain (s : State) (p : Nat) : State := if 8 ≤ (s.port p).replays then s.retrainPort p else s.replayPort p

/-! ### Receiving (R334, R338-R340) -/

/-- The ack field: drop what it covers from the replay buffer; outside the range it is a protocol error. -/
def State.rxAck (s : State) (p : Nat) (f : Flit) : State :=
  let t := s.port p
  let n := t.replay.length
  let oldest := (t.txNext + 4096 - n % 4096) % 4096
  let d := (f.hdr.ack + 1 + 4096 - oldest) % 4096
  if n < d then s.portError p 3 f
  else if d = 0 then s
  else s.setPort p (fun t => { t with
    replay := t.replay.drop d, resend := t.resend.drop (d - (n - t.resend.length)), replays := 0, progressAt := s.now })

/-- The nak field: resend what follows ack, unless nothing does or the same ack was naked within 4 us. -/
def State.rxNak (s : State) (p : Nat) (f : Flit) : State :=
  let t := s.port p
  if !f.hdr.nak || t.replay.isEmpty || (t.nakAck == f.hdr.ack && decide (s.now < t.nakAt + 4000)) then s
  else (s.replayOrRetrain p).setPort p (fun t => { t with nakAck := f.hdr.ack, nakAt := s.now })

/-- The credit field: the peer's cumulative count; more credit than the INIT advertised is a credit error (R336). -/
def State.rxCredit (s : State) (p : Nat) (f : Flit) : State :=
  let vc := f.hdr.crVc % 4
  if vc = 0 then s
  else
    let t := s.port p
    if Tbl.get 0 t.crInit vc ≠ 0 ∧ Tbl.get 0 t.crInit vc < (Tbl.get 0 t.sent vc + 4096 - f.hdr.crTotal % 4096) % 4096 then s.portError p 2 f
    else (s.setPort p (fun t => { t with crPeer := Tbl.set 0 t.crPeer vc (f.hdr.crTotal % 4096) })).showCredits p

/-- R339: what every flit with a good CRC brings. -/
def State.rxFields (s : State) (p : Nat) (f : Flit) : State := ((s.rxAck p f).rxNak p f).rxCredit p f

/-- R334: a buffer slot of a VC is freed. -/
def State.freeCredit (s : State) (p vc : Nat) : State :=
  if vc = 0 then s else s.setPort p (fun t => { t with freed := Tbl.modify 0 t.freed vc (fun n => (n + 1) % 4096) })

/-- Is the sequenced flit the one the receiver expects (R339)? -/
def State.expects (s : State) (p : Nat) (f : Flit) : Bool :=
  f.hdr.seqd && f.hdr.seq == ((s.port p).rxLast + 1) % 4096

/-- Table 11-4: the VC an op travels on. -/
def opVc (op : Nat) : Option Nat :=
  if op = 1 then some 0 else if 2 ≤ op ∧ op ≤ 4 then some 1 else if op = 5 ∨ op = 6 then some 2
  else if 7 ≤ op ∧ op ≤ 9 then some 3 else none

def destIgnored (op : Nat) : Bool := op == 0 || decide (7 ≤ op)

/-- R330: why a flit is dropped: cause 0 op or VC, 1 dest. -/
def State.dropCause (s : State) (f : Flit) : Option Nat :=
  if f.op = 0 then none
  else if opVc f.op ≠ some f.hdr.vc then some 0
  else if f.op = 9 ∧ ¬ (f.payload.headD 0 = 1 ∨ f.payload.headD 0 = 2 ∨ f.payload.headD 0 = 3) then some 0
  else if !destIgnored f.op && !(s.idAssigned && f.hdr.dest == s.deviceId) then some 1
  else none

/-- R330: drop a flit: flag, log, return its credit. -/
def State.dropFlit (s : State) (p cause : Nat) (f : Flit) : State :=
  let s1 := if cause = 1 then s.flag R.PZL_FLAGS.misrouted else s
  (s1.portDrop p cause f).freeCredit p f.hdr.vc

/-- R327: does the flit that comes next lie in an uncorrectable codeword? -/
def State.rxSpoilt (s : State) (p : Nat) : Bool :=
  let t := s.port p
  (flitCodewords t.rxPos).any (fun i => t.rxBad.contains i)

/-- The next flit of the pair is received. -/
def State.rxTurn (s : State) (p : Nat) : State :=
  s.setPort p (fun t => { t with rxPos := (t.rxPos + 1) % 5, rxBad := if t.rxPos = 4 then [] else t.rxBad })

/-- R339: the receiver asks for a replay until it accepts the expected flit. -/
def State.rxRefuse (s : State) (p : Nat) : State := s.setPort p (fun t => { t with nak := true })

/-- R339: receive a flit with a good CRC: its fields, then either the expected flit is accepted and handled, or the
receiver naks until it comes. (DESIGN CHOICE, log entry 132.) -/
def State.receive (s : State) (p : Nat) (f : Flit) (handle : State → State) : State :=
  if !s.portIsUp p then s
  else
    let s1 := (s.rxTurn p).rxFields p f
    if s.rxSpoilt p then s1.rxRefuse p
    else if !f.hdr.seqd then s1
    else if s1.expects p f then
      let s2 := s1.setPort p (fun t => { t with rxLast := f.hdr.seq, nak := false })
      match s2.dropCause f with
      | some c => s2.dropFlit p c f
      | none => (handle s2).freeCredit p f.hdr.vc
    else s1.rxRefuse p

end Sys2Proof.Machine
end

