-- ==== Sys2Proof/Machine/MemOps.lean ====
section
/-!
DEFINITION. Stacked memory (chapter 07) and the traffic rules around puppets (Table 8-8): where an address lies, sectors
and their error correction, refusals, holds, the sideboard cache, one access from request to response.
-/

namespace Sys2Proof.Machine

open Sys2Proof

/-! ### Slices, channels, banks (R189-R193, R211) -/

def State.slice (s : State) (u : Nat) : SliceSt := Tbl.get SliceSt.zero s.slices u

def State.setSlice (s : State) (u : Nat) (f : SliceSt → SliceSt) : State :=
  { s with slices := Tbl.modify SliceSt.zero s.slices u f }

def State.sliceState (s : State) (u : Nat) : Nat := s.getF (R.SLC_STATUS.state u)

/-- Where a byte lies: slice key, logical channel, channel address. -/
structure Loc where
  u : Nat
  ch : Nat
  ca : Nat
  deriving DecidableEq, Repr

/-- Table 7-2. -/
def bankOf (ca : Nat) : Nat := bits ca 16 12
def rowOf (ca : Nat) : Nat := bits ca 29 18
/-- R193: the slice bank id. -/
def locBank (l : Loc) : Nat := l.ch * 32 + bankOf l.ca
/-- R223: the sector index of a channel address within its bank. -/
def colOf (ca : Nat) : Nat := rowOf ca * 128 + bits ca 17 17 * 64 + bits ca 11 6

/-- Logical channels not cut off. -/
def working (t : SliceSt) : List Nat := (List.range 8).filter (fun c => !bit t.cut c)

/-- R192, R211: channel and channel address of an offset; `none` where the slice's state makes it unreachable (R190). -/
def chanOf (t : SliceSt) (o : Nat) : Option (Nat × Nat) :=
  if t.degraded then
    if o < 0x1C0000000 then some ((working t).getD (o / 4096 % 7) 0, o / 4096 / 7 * 4096 + o % 4096) else none
  else
    let ch := bits o 14 12
    if bit t.cut ch then none else some (ch, bits o 32 15 * 4096 + o % 4096)

/-- The offset a channel address has. -/
def offOf (t : SliceSt) (ch ca : Nat) : Nat :=
  if t.degraded then ((ca / 4096) * 7 + ((working t).findIdx? (· == ch)).getD 0) * 4096 + ca % 4096
  else ca / 4096 * 2 ^ 15 + ch * 4096 + ca % 4096

/-- The slice key of logical slice n of chest c. -/
def State.sliceKey (s : State) (c n : Nat) : Nat := c * 9 + s.slicePos c n

def State.locate (s : State) (a : Nat) : Option Loc :=
  let c := addrChest a
  let u := s.sliceKey c (addrSlice a)
  if 8 < addrSlice a || !s.chestUp c || s.sliceState u == 3 then none
  else (chanOf (s.slice u) (addrOff a)).map (fun p => ⟨u, p.1, p.2⟩)

/-- The logical slice above a physical position. -/
def State.logicalSlice (s : State) (u : Nat) : Nat :=
  ((List.range 9).find? (fun n => s.slicePos (u / 9) n == u % 9)).getD 8

/-- The device address of a channel address. -/
def State.addrAt (s : State) (u ch ca : Nat) : Nat := mkAddr (u / 9) (s.logicalSlice u) (offOf (s.slice u) ch ca)

/-- The channel address of sector `col` of bank `b` (0-31) of a channel (R223). -/
def caOf (b col : Nat) : Nat := col / 128 * 2 ^ 18 + col / 64 % 2 * 2 ^ 17 + b * 2 ^ 12 + col % 64 * 64

/-- Device address of column `col` of slice bank `b` (0-255). -/
def State.bankAddr (s : State) (u b col : Nat) : Nat := s.addrAt u (b / 32) (caOf (b % 32) col)

/-! ### Bytes -/

/-- What a byte reads as where nothing has written it: zero, or an undefined value after a park (R507).
(DESIGN CHOICE, log entry 13; DESIGN CHOICE, log entry 14.) -/
def State.unwritten (s : State) (a : Nat) : Byte := if s.memLost = 0 then 0 else Config.lostByte s.memLost a

def State.rdByte (s : State) (a : Nat) : Byte := Tbl.get 0 s.mem a ^^^ s.unwritten a

def State.wrByte (s : State) (a : Nat) (v : Byte) : State := { s with mem := Tbl.set 0 s.mem a (v ^^^ s.unwritten a) }

def State.rdBytes (s : State) (a n : Nat) : List Byte := (List.range n).map (fun i => s.rdByte (a + i))

def State.wrBytes (s : State) : Nat → List Byte → State
  | _, [] => s
  | a, b :: l => (s.wrByte a b).wrBytes (a + 1) l

/-! ### Defects (R512) and rows (R205-R207) -/

def defRow (c p ch bank row : Nat) : Nat := c * 2 ^ 60 + p * 2 ^ 56 + ch * 2 ^ 53 + bank * 2 ^ 48 + row * 2 ^ 36
def defChan (c p ch : Nat) : Nat := 2 ^ 62 + c * 2 ^ 60 + p * 2 ^ 56 + ch * 2 ^ 53
def defCore (c p : Nat) : Nat := 2 * 2 ^ 62 + c * 2 ^ 60 + p * 2 ^ 56

/-- Record a defect for the next park record's list, once. -/
def State.recordDefect (s : State) (d : Nat) : State :=
  if s.park.bootDefects.contains d || s.park.runDefects.contains d then s
  else { s with park := { s.park with runDefects := s.park.runDefects ++ [d] } }

/-- Spare rows left in a bank: 8, less those the fuse map and the defect list took, less remaps of this run (R204). -/
def State.sparesLeft (s : State) (u b : Nat) : Nat := 8 - Tbl.get 0 (s.slice u).spareUsed b

/-- SLC_ROW: fewest spare rows left in any bank, and banks with none. -/
def State.showSpares (s : State) (u : Nat) : State :=
  let left := (List.range 256).map (s.sparesLeft u)
  (s.setF (R.SLC_ROW.spare_rows_min u) (left.foldl min 8)).setF (R.SLC_ROW.banks_no_spare u)
    (min 255 (left.filter (· == 0)).length)

/-- R207: no spare row is left: the row stays in service, flagged, logged and recorded. Key: slice bank * 4,096 + row. -/
def State.rowStays (s : State) (u key : Nat) : State :=
  let b := key / 4096
  let a := s.bankAddr u b (key % 4096 * 128)
  ((s.flag (R.SLC_FLAGS.spare_rows_out u)).logE (u / 9) 1 (b / 32 * 16 + u % 9) 4 0 true a 0 1).recordDefect
    (defRow (u / 9) (u % 9) (b / 32) (b % 32) (key % 4096))

/-- R205, R207: a row is declared bad, once between resets: it waits for its remap, or stays in service.
(DEDUCED, log entry 122.) -/
def State.declareBad (s : State) (u key : Nat) : State :=
  if (s.slice u).declared.contains key then s
  else
    let s1 := s.setSlice u (fun t => { t with declared := t.declared ++ [key] })
    if s1.sparesLeft u (key / 4096) = 0 then s1.rowStays u key
    else s1.setSlice u (fun t => { t with badRows := t.badRows ++ [key] })

/-! ### Sector ECC (R195-R199) -/

/-- How a sector decodes: 0 clean, 1 corrected, 2 uncorrectable, 3 wrong and undetected. -/
def State.sectorErr (s : State) (a : Nat) : Nat :=
  let m := Tbl.get 0 s.bad (a / 64)
  let n := popcount 36 m.toNat
  if n < 3 then n else if Config.undetected (a / 64) m then 3 else 2

/-- The lowest symbol in error. -/
def State.badSymbol (s : State) (a : Nat) : Nat :=
  ((List.range 36).find? (fun i => bit (Tbl.get 0 s.bad (a / 64)).toNat i)).getD 0

/-- Symbols of stored sectors that have come to be in error. -/
def State.disturb (s : State) (errs : List (Nat × BitVec 36)) : State :=
  s.each errs (fun s' e => { s' with bad := Tbl.modify 0 s'.bad (e.1 / 64) (· ||| e.2) })

/-- R208: count an error of a channel within the current second. -/
def State.countErr (s : State) (u ch bank : Nat) : State :=
  s.setSlice u (fun t =>
    let fresh_ := decide (Tbl.get 0 t.errAt ch + 1000000000 ≤ s.now) || Tbl.get 0 t.errs ch == 0
    if fresh_ then { t with
      errs := Tbl.set 0 t.errs ch 1, errBanks := Tbl.set 0 t.errBanks ch (2 ^ bank), errAt := Tbl.set 0 t.errAt ch s.now }
    else { t with
      errs := Tbl.modify 0 t.errs ch (· + 1), errBanks := Tbl.modify 0 t.errBanks ch (fun m => setBit m bank true) })

/-- Physical channel that serves a logical one. -/
def physChan (t : SliceSt) (ch : Nat) : Nat := t.map.getD ch 8

def State.logSlice (s : State) (l : Loc) (ev cls : Nat) (a detail : Nat) : State :=
  s.logE (l.u / 9) 1 (l.ch * 16 + l.u % 9) ev cls true a detail 1

/-- R198, R205: the effects of a corrected sector. `quiet`: the caller logs it elsewhere. -/
def State.noteCorrected (s : State) (l : Loc) (a : Nat) : State :=
  let sec := a / 64 * 64
  let key := locBank l * 4096 + rowOf l.ca
  let s1 := (s.incSat (R.SLC_CE_CNT.corrected l.u) 1).flag (R.SLC_FLAGS.ce l.u)
  let s2 := s1.logSlice l 1 0 sec (s.badSymbol a + physChan (s.slice l.u) l.ch * 64)
  let s3 := (s2.countErr l.u l.ch (bankOf l.ca)).setSlice l.u (fun t => { t with
    writeBacks := if t.writeBacks.contains sec then t.writeBacks else t.writeBacks ++ [sec]
    rowHits := Tbl.modify [] t.rowHits key (fun h => if h.contains sec then h else h ++ [sec]) })
  let thr := s3.getF (R.SLC_ROW.row_thresh l.u)
  if thr ≠ 0 ∧ thr ≤ (Tbl.get [] (s3.slice l.u).rowHits key).length then s3.declareBad l.u key else s3

/-- R199, R205: the effects of an uncorrectable sector. -/
def State.noteUncorrectable (s : State) (l : Loc) (a : Nat) : State :=
  let sec := a / 64 * 64
  let s1 := (s.flag (R.SLC_FLAGS.ue l.u)).logSlice l 2 1 sec (physChan (s.slice l.u) l.ch * 64)
  (s1.countErr l.u l.ch (bankOf l.ca)).declareBad l.u (locBank l * 4096 + rowOf l.ca)

/-! ### Cues and gaps that keep a bank (R235, R245, Table 8-8) -/

def State.pup (s : State) (u : Nat) : PupSt := Tbl.get PupSt.zero s.pups u

def State.setPup (s : State) (u : Nat) (f : PupSt → PupSt) : State := { s with pups := Tbl.modify PupSt.zero s.pups u f }

/-- Table 8-6: the bank mask of a cue entry. (DEDUCED, log entry 34.) -/
def cueMask (c : List Byte) : Nat := fieldAt c 0x20 32

/-- Is a bank engaged by the cue that runs (R235)? -/
def State.engaged (s : State) (u b : Nat) : Bool :=
  match (s.pup u).cue with
  | some i => bit (cueMask (Tbl.get [] (s.pup u).cues i)) b
  | none => false

/-- Table 8-8, R245: is a bank kept: engaged by the cue that runs, or, in a gap, by the cue that follows it? -/
def State.bankKept (s : State) (u b : Nat) : Bool :=
  s.engaged u b || (match (s.pup u).gap with
    | some i => bit (cueMask (Tbl.get [] (s.pup u).cues i)) b
    | none => false)

/-- The sectors of a bank whose corrected write-back is queued. -/
def State.bankBacks (s : State) (u b : Nat) : List Nat :=
  (s.slice u).writeBacks.filter (fun a => (s.locate a).any (fun l => l.u == u && locBank l == b))

/-- R198: the queued write-backs of a bank are done. -/
def State.writeBacksDone (s : State) (u b : Nat) : State :=
  let mine := s.bankBacks u b
  { s with bad := mine.foldl (fun t a => Tbl.set 0 t (a / 64) 0) s.bad }.setSlice u (fun t =>
    { t with writeBacks := t.writeBacks.filter (fun a => !mine.contains a) })

/-- R198: write-backs go ahead of other accesses to their bank. -/
def State.backsFirst (s : State) (l : Loc) : State :=
  if (s.bankBacks l.u (locBank l)).isEmpty || s.bankKept l.u (locBank l) then s else s.writeBacksDone l.u (locBank l)

/-- R197-R199: read one sector: its 64 bytes, or none where it is uncorrectable. (DESIGN CHOICE, log entry 15.) -/
def State.readSector (s0 : State) (a : Nat) : State × Option (List Byte) :=
  let sec := a / 64 * 64
  match s0.locate sec with
  | none => (s0, none)
  | some l =>
    let s := s0.backsFirst l
    let e := s.sectorErr sec
    if e = 0 then (s, some (s.rdBytes sec 64))
    else if e = 1 then (s.noteCorrected l sec, some (s.rdBytes sec 64))
    else if e = 2 then (s.noteUncorrectable l sec, none)
    else (s.tick, some ((List.range 64).map (fun i => Config.lostByte (s.fresh + 1) (sec + i))))

/-- ERR_INJECT (Table 17-12): the symbols the next write to a sector stores inverted. -/
def State.injectMask (s : State) (sec : Nat) : Option (BitVec 36) :=
  let armedAt := s.getW R.ERR_INJECT_ADDR_LO + s.getW R.ERR_INJECT_ADDR_HI % 128 * 2 ^ 32
  if s.isSet R.ERR_INJECT.armed && armedAt / 64 == sec / 64 then
    let i := s.getF R.ERR_INJECT.symbol
    some (BitVec.ofNat 36 (2 ^ i + (if s.getF R.ERR_INJECT.kind = 1 then 2 ^ ((i + 1) % 36) else 0)))
  else none

/-- Write a whole sector with fresh check bytes; a queued write-back of it is cancelled (R198). -/
def State.writeSector (s : State) (a : Nat) (bytes : List Byte) : State :=
  let sec := a / 64 * 64
  let s1 := s.wrBytes sec bytes
  let m := s.injectMask sec
  let s2 := { s1 with bad := Tbl.set 0 s1.bad (sec / 64) (m.getD 0) }
  let s3 := if m.isSome then s2.setF R.ERR_INJECT.armed 0 else s2
  match s.locate sec with
  | some l => s3.setSlice l.u (fun t => { t with writeBacks := t.writeBacks.filter (· != sec) })
  | none => s3

/-- R194, R195: a write of enabled bytes to one sector: full, or merged after correction; false where the read fails. -/
def State.writePart (s : State) (sec : Nat) (upd : Nat → Option Byte) : State × Bool :=
  let full := (List.range 64).all (fun i => (upd i).isSome)
  if full then (s.writeSector sec ((List.range 64).map (fun i => (upd i).getD 0)), true)
  else
    let r := s.readSector sec
    match r.2 with
    | none => (r.1, false)
    | some old => (r.1.writeSector sec ((List.range 64).map (fun i => (upd i).getD (old.getD i 0))), true)

/-! ### Ranges -/

/-- The sectors a range touches. -/
def sectorsOf (a n : Nat) : List Nat :=
  if n = 0 then [] else (List.range ((a + n - 1) / 64 + 1 - a / 64)).map (fun i => (a / 64 + i) * 64)

/-- Read a range straight from its slice. -/
def State.readRange (s : State) (a n : Nat) : State × Option (List Byte) :=
  let r := (sectorsOf a n).foldl (fun (st : State × Option (List Byte)) sec =>
    let q := st.1.readSector sec
    match st.2, q.2 with
    | some l, some b => (q.1, some (l ++ b))
    | _, _ => (q.1, none)) (s, some [])
  (r.1, r.2.map (fun l => (l.drop (a % 64)).take n))

/-- The byte a write gives offset i of a sector, if enabled (no enables listed: every byte). -/
def updAt (a : Nat) (bytes : List Byte) (en : List Bool) (sec i : Nat) : Option Byte :=
  if a ≤ sec + i then
    (if en.getD (sec + i - a) true then bytes[sec + i - a]? else none)
  else none

/-- Write a range straight to its slice; false where a partial write's read failed. -/
def State.writeRange (s : State) (a : Nat) (bytes : List Byte) (en : List Bool) : State × Bool :=
  (sectorsOf a bytes.length).foldl (fun (st : State × Bool) sec =>
    let q := st.1.writePart sec (updAt a bytes en sec)
    (q.1, st.2 && q.2)) (s, true)

/-! ### Puppets' rules for channel traffic (Table 8-8) -/

/-- Claims the run in progress holds (R242). -/
def heldClaims (t : PupSt) : List Claim :=
  match t.run with
  | some r => if r.started then (List.range 16).filterMap (fun i => if bit (fieldAt r.bytes 0x2A 2) i then Tbl.get none t.claims i else none) else []
  | none => []

def claimCovers (c : Claim) (b row : Nat) : Bool := bit c.mask.toNat b && decide (c.first ≤ row) && decide (row ≤ c.last)

/-- Does a sector lie in a held claim that is not shared? -/
def State.claimed (s : State) (l : Loc) : Bool :=
  (heldClaims (s.pup l.u)).any (fun c => claimCovers c (locBank l) (rowOf l.ca) && !c.shared)

def State.sharedClaim (s : State) (l : Loc) : Bool :=
  (heldClaims (s.pup l.u)).any (fun c => claimCovers c (locBank l) (rowOf l.ca) && c.shared)

/-! ### Refusals (R190, R191) -/

/-- Does a sector lie in a plane of the KV pool (R258, R259, R261)? -/
def State.inPool (s : State) (g : KvGeo) (a : Nat) : Bool :=
  g.streams.contains (addrChest a * 8 + addrSlice a) && decide (addrSlice a < 8) &&
  (match s.locate a with
   | some l =>
     let c := colOf l.ca
     if locBank l % 2 = 0 then
       inRange c g.keyBase (g.h * g.s * g.p * g.ks) || inRange c g.cntBase (g.s / g.f) || inRange c g.sideBase (g.x * ((1 + g.h) * g.f * g.p / 16))
     else inRange c g.valBase (g.h * g.s * g.p * g.vs) || inRange c g.idBase (g.s * g.p / 16)
   | none => false)

/-- R299: may the host write a range: inside regions declared host-writable, in state 4 or 5, or outside all memory that an
act of the layout declares? (DEDUCED, log entry 129.) -/
def State.hostMayWrite (s : State) (a n : Nat) : Bool :=
  s.fromLayout true (fun i =>
    let left := if s.runState = 4 ∨ s.runState = 5 then notWritable i a n else [(a, n)]
    left.all (fun x => (actList i).all (fun act => !(declaredRanges i act).any (fun r => overlaps x.1 x.2 r.1 r.2)) &&
      (match kvOf i with
       | some g => !(kvTables g).any (fun r => overlaps x.1 x.2 r.1 r.2) && !(sectorsOf x.1 x.2).any (s.inPool g)
       | none => true)))

/-- R216: the slot window, offsets 0x1_FFFC_0000 up of a sideboard slice. -/
def inSlotWindow (a : Nat) : Bool := addrSlice a == 8 && decide (0x1FFFC0000 ≤ addrOff a)

/-- Does a request touch the slot window? -/
def reqInWindow (q : MemReq) : Bool := addrSlice q.addr == 8 && decide (0x1FFFC0000 < addrOff q.addr + max q.len 1)

/-- Does an access go through the sideboard cache (R213)? -/
def State.cached (s : State) (a : Nat) : Bool := addrSlice a == 8 && !s.puppetRegion a

/-- Does an access to a range go through the sideboard cache, for a sector of it at least? -/
def State.anyCached (s : State) (a n : Nat) : Bool := (sectorsOf a n).any s.cached

/-- R213, R215: an atomic that the cache executes: 4 or 8 bytes, aligned, in a sideboard slice outside the slot window
and outside every region declared for puppet use. FADD, FMAX and FMIN take 4 bytes. -/
def State.atomOk (s : State) (q : MemReq) (op : Nat) : Bool :=
  addrSlice q.addr == 8 && (q.len == 4 || (q.len == 8 && !(op == 1 || op == 6 || op == 7))) && q.addr % q.len == 0 &&
    !reqInWindow q && !s.puppetRegion q.addr

/-- Why an access is refused, in order: 2 chest in reset, 7 an atomic of another form, 1 reserved slice, 3 unreachable,
4 owned area, 5 host write to memory the act declares and does not open, 6 claim. The slot window's own refusals follow
(R216, R217). (DEDUCED, log entry 20; DEDUCED, log entry 22.) -/
def State.refusal (s : State) (q : MemReq) : Option Nat :=
  let secs := sectorsOf q.addr q.len
  if s.chestInReset (addrChest q.addr) then some 2
  else if (match q.atom with | some x => !s.atomOk q x.1 | none => false) then some 7
  else if 8 < addrSlice q.addr then some 1
  else if reqInWindow q then (if s.chestUp (addrChest q.addr) then none else some 3)
  else if secs.any (fun a => (s.locate a).isNone) then some 3
  else if q.write.isSome then
    if s.inDescArea q.addr q.len || s.inStaging q.addr q.len || s.inFwCopy q.addr q.len then some 4
    else if q.host && !s.hostMayWrite q.addr q.len then some 5
    else if secs.any (fun a => match s.locate a with | some l => s.claimed l | none => false) then some 6
    else none
  else none

/-- The slice island that reports a refused address: its physical position and 0xF for no channel. (DEDUCED, log entry 21.) -/
def State.islandIdx (s : State) (a : Nat) : Nat :=
  if 8 < addrSlice a then 0xFF else 0xF0 + s.slicePos (addrChest a) (addrSlice a)

/-- The effects of a refusal and its status (R469). (DEDUCED, log entry 20.) -/
def State.refuse (s : State) (q : MemReq) (why : Nat) : State × Nat :=
  let c := addrChest q.addr
  if why = 1 ∨ why = 3 then (s.logE c 1 (s.islandIdx q.addr) 7 2 true q.addr q.mid 1, 1)
  else if why = 7 then (s.logE c 7 0 7 2 true q.addr q.mid 1, 1)
  else if why = 2 then (s.absorb (fun r => r.chest == c && r.level == 2) false, 4)
  else if why = 4 then (s.logE c 1 (s.islandIdx q.addr) 0x0B 2 true q.addr q.mid 1, 1)
  else if why = 5 then (s, 1)
  else
    let u := s.sliceKey c (addrSlice q.addr)
    let s1 := (s.flag (R.PUP_FLAGS.claim_conflict u)).setPair (R.PUP_CONFLICT_LO u) q.addr
    (s1.logE c 2 (u % 9) 8 2 true q.addr q.mid 1, 2)

/-! ### The sideboard cache (R213, R214) -/

def lineKey (c a : Nat) : Nat := c * 8192 + addrOff a / 512 % 8192
def lineTag (a : Nat) : Nat := addrOff a / 512 / 8192

def State.findLine (s : State) (a : Nat) : Option Line :=
  (Tbl.get [] s.lines (lineKey (addrChest a) a)).find? (fun l => l.tag == lineTag a)

/-- The device address of a line of a set. -/
def lineAddr (key tag : Nat) : Nat := mkAddr (key / 8192) 8 ((tag * 8192 + key % 8192) * 512)

/-- The sectors of a line, by number. -/
def lineSectors (m : Nat) : List Nat := (List.range 8).filter (bit m)

/-- Write the dirty sectors of a line to the slice; a line that cannot be written is lost (R214). -/
def State.writeBackLine (s : State) (key : Nat) (l : Line) : State :=
  let a := lineAddr key l.tag
  if l.dirty = 0 then s
  else if (s.locate a).isNone then s.logE (key / 8192) 7 0 0x0E 1 true a 0 1
  else s.each (lineSectors l.dirty) (fun s' i => s'.writeSector (a + 64 * i) (Tbl.getList 0 l.data (64 * i) 64))

def State.setLines (s : State) (key : Nat) (ls : List Line) : State := { s with lines := Tbl.set [] s.lines key ls }

/-- Make room in a full set: the way given up is open to the implementation. (DESIGN CHOICE, log entry 16.) -/
def State.evictLine (s : State) (key : Nat) : State :=
  let ls := Tbl.get [] s.lines key
  if ls.length < 16 then s
  else
    let w := (Config.victimWay key s.fresh).val
    let s1 := (ls.filter (fun l => l.way == w)).foldl (fun s' l => s'.writeBackLine key l) s.tick
    s1.setLines key (ls.filter (fun l => l.way != w))

/-- Does the cache hold the sector of an address? -/
def State.holdsSector (s : State) (a : Nat) : Bool := (s.findLine a).any (fun l => bit l.held (a % 512 / 64))

/-- The byte of a cached line. -/
def State.cacheByte (s : State) (a : Nat) : Byte :=
  match s.findLine a with
  | some l => if bit l.held (a % 512 / 64) then Tbl.get 0 l.data (a % 512) else s.rdByte a
  | none => s.rdByte a

/-- A sector of a line takes 64 bytes. -/
def Line.put (l : Line) (i : Nat) (bytes : List Byte) (dirty : Bool) : Line :=
  { l with
    dirty := if dirty then setBit l.dirty i true else l.dirty
    held := setBit l.held i true
    data := Tbl.setList 0 l.data (64 * i) bytes }

/-- The cache takes the 64 bytes of a sector, in its line or in a new one. -/
def State.putSector (s : State) (a : Nat) (bytes : List Byte) (dirty : Bool) : State :=
  let key := lineKey (addrChest a) a
  let i := a % 512 / 64
  match s.findLine a with
  | some _ => s.setLines key ((Tbl.get [] s.lines key).map (fun l => if l.tag == lineTag a then l.put i bytes dirty else l))
  | none =>
    let s1 := s.evictLine key
    let ls := Tbl.get [] s1.lines key
    let w := ((List.range 16).find? (fun i => ls.all (fun l => l.way != i))).getD 0
    s1.setLines key (ls ++ [Line.put ⟨lineTag a, w, 0, 0, []⟩ i bytes dirty])

/-- R213: bring in the sectors of a line that it does not hold, but for those a write covers whole, those that bypass the
cache, and those that cannot be read. (DESIGN CHOICE, log entry 16.) -/
def State.fillLine (s : State) (a : Nat) (whole : List Nat) : State :=
  s.each (((List.range 8).map (fun i => a + 64 * i)).filter (fun x => !whole.contains x)) (fun s' x =>
    if s'.holdsSector x || !s'.cached x then s'
    else
      let r := s'.readSector x
      match r.2 with
      | some b => r.1.putSector x b false
      | none => r.1)

/-- The lines a range touches. -/
def linesOf (a n : Nat) : List Nat :=
  if n = 0 then [] else (List.range ((a + n - 1) / 512 + 1 - a / 512)).map (fun i => (a / 512 + i) * 512)

/-- A read of a range of the sideboard, sector by sector: through the cache, or past it (R213). -/
def State.cacheRead (s : State) (a n : Nat) : State × Option (List Byte) :=
  let s1 := s.each (linesOf a n) (fun s' x => s'.fillLine x [])
  let r := (sectorsOf a n).foldl (fun (st : State × Option (List Byte)) sec =>
    let q := if !st.1.cached sec then st.1.readSector sec
      else (st.1, if st.1.holdsSector sec then some ((List.range 64).map (fun i => st.1.cacheByte (sec + i))) else none)
    match st.2, q.2 with
    | some l, some b => (q.1, some (l ++ b))
    | _, _ => (q.1, none)) (s1, some [])
  (r.1, r.2.map (fun l => (l.drop (a % 64)).take n))

/-- A write to one sector of the sideboard. -/
def State.cacheWriteSector (s : State) (sec : Nat) (upd : Nat → Option Byte) : State × Bool :=
  if !s.cached sec then s.writePart sec upd
  else if s.holdsSector sec || (List.range 64).all (fun i => (upd i).isSome) then
    (s.putSector sec ((List.range 64).map (fun i => (upd i).getD (s.cacheByte (sec + i)))) true, true)
  else (s, false)

/-- A write of a range of the sideboard; false where a sector it merges into cannot be read. -/
def State.cacheWrite (s : State) (a : Nat) (bytes : List Byte) (en : List Bool) : State × Bool :=
  let secs := sectorsOf a bytes.length
  let whole := secs.filter (fun x => (List.range 64).all (fun i => (updAt a bytes en x i).isSome))
  let s1 := s.each (linesOf a bytes.length) (fun s' x => s'.fillLine x whole)
  secs.foldl (fun (st : State × Bool) sec =>
    let q := st.1.cacheWriteSector sec (updAt a bytes en sec)
    (q.1, st.2 && q.2)) (s1, true)

/-- Bytes of device memory as every requester sees them (R196, R213). -/
def State.memRead (s : State) (a n : Nat) : State × Option (List Byte) :=
  if s.anyCached a n then s.cacheRead a n else s.readRange a n

def State.memWrite (s : State) (a : Nat) (bytes : List Byte) (en : List Bool) : State × Bool :=
  if s.anyCached a bytes.length then s.cacheWrite a bytes en else s.writeRange a bytes en

/-- R213: the sectors of a line that bypass the cache from now on leave it, the dirty ones into the slice. -/
def State.bypassLine (s : State) (key : Nat) (l : Line) : State :=
  let gone := (lineSectors l.held).filter (fun i => !s.cached (lineAddr key l.tag + 64 * i))
  if gone.isEmpty then s
  else
    let off := fun (m : Nat) => gone.foldl (fun m i => setBit m i false) m
    let s1 := s.writeBackLine key { l with dirty := l.dirty - off l.dirty }
    s1.setLines key ((Tbl.get [] s1.lines key).filterMap (fun x =>
      if x.tag != l.tag then some x else if off x.held = 0 then none else some { x with held := off x.held, dirty := off x.dirty }))

/-- R213: the regions declared for puppet use have changed. -/
def State.regionsTake (s : State) : State := s.each s.lines (fun s' e => s'.each e.2 (fun s'' l => s''.bypassLine e.1 l))

/-! ### Exact reduction slots (R67-R71, R216-R218) -/

def slotKey (c i : Nat) : Nat := c * 4096 + i

def State.slot (s : State) (k : Nat) : Slot := Tbl.get Slot.zero s.slots k

def State.setSlot (s : State) (k : Nat) (v : Slot) : State := { s with slots := Tbl.set Slot.zero s.slots k v }

/-- R217: zero the value, flags and counter; the configuration stays. -/
def slotCleared (t : Slot) : Slot := { Slot.zero with c := t.c, fixed := t.fixed, enabled := t.enabled }

/-- R69: one contribution more; past 2^41 the counter overflow flag sets. -/
def slotCount (t : Slot) : Slot := { t with counter := t.counter + 1, cntOvf := t.cntOvf || decide (2 ^ 41 < t.counter + 1) }

/-- R68: an FP32 contribution. -/
def slotAddFp (t : Slot) (x : Word32) : Slot :=
  let t1 := slotCount t
  match Num.val x with
  | .nan => { t1 with nan := true }
  | .inf false => { t1 with pinf := true }
  | .inf true => { t1 with ninf := true }
  | .fin n m e => { t1 with value := t1.value + BitVec.ofInt 320 (Num.alignTo (-149) n m e) }

/-- R68: a fixed contribution under window C (LSB weight 2^(C-44), R54): value and sticky bits NaN, overflow,
exactness_lost. -/
def slotAddFixed (t : Slot) (x : Word64) (sticky : Nat) : Slot :=
  let t1 := slotCount t
  let sh := (signed 8 t.c + 105).toNat
  { t1 with value := t1.value + BitVec.ofInt 320 (x.toInt * (2 ^ sh : Nat)), nan := t1.nan || bit sticky 0
            ovf := t1.ovf || bit sticky 1, lost := t1.lost || bit sticky 2 }

/-- R69, R70: the FP32 readout. -/
def slotFp (t : Slot) : Word32 :=
  if t.cntOvf || t.nan || (t.pinf && t.ninf) then Num.nanW
  else if t.pinf then Num.pInf
  else if t.ninf then Num.nInf
  else let z := t.value.toInt; Num.rne (.fin (decide (z < 0)) z.natAbs (-149))

def slotFlags (t : Slot) : Nat :=
  [t.nan, t.pinf, t.ninf, t.cntOvf, t.ovf, t.lost].foldr (fun b n => 2 * n + (if b then 1 else 0)) 0

/-- Table 7-8: the configuration word at +0x38. -/
def slotCfgWord (t : Slot) : Nat := t.c % 256 + (if t.fixed then 256 else 0) + (if t.enabled then 512 else 0)

/-- Table 7-8: the 64 bytes of a slot. -/
def slotBytes (t : Slot) : List Byte :=
  leBytes 4 (slotFp t).toNat ++ leBytes 4 (slotFlags t) ++ leBytes 8 (t.counter % 2 ^ 48) ++ leBytes 40 t.value.toNat ++
  leBytes 8 (slotCfgWord t)

/-- What an access in the window is: 0 FP32 contribution, 1 zero, 2 fixed contribution, 3 read of the configuration
word, 4 another read; `none`: refused (R216). -/
def slotForm (q : MemReq) : Option Nat :=
  let o := q.addr % 64
  let whole := q.enables.all (fun b => b)
  if !inSlotWindow q.addr || q.atom.isSome then none
  else if q.write.isSome then
    if o = 0 ∧ q.len = 4 ∧ whole = true then some 0
    else if o = 8 then some 1
    else if o = 0x10 ∧ q.len = 16 ∧ whole = true then some 2
    else none
  else if (q.len = 4 ∧ o % 4 = 0) ∨ (q.len = 8 ∧ o % 8 = 0) then (if o = 0x38 then some 3 else some 4)
  else if q.len = 64 ∧ o = 0 then some 4
  else none

/-- R216, R217: a refused access in the window. -/
def State.slotRefuse (s : State) (q : MemReq) : State × Nat × List Byte :=
  (s.logE (addrChest q.addr) 7 0 7 2 true q.addr q.mid 1, 1, [])

/-- R216-R218: one access in the slot window. -/
def State.slotAccess (s : State) (q : MemReq) : State × Nat × List Byte :=
  let k := slotKey (addrChest q.addr) ((addrOff q.addr - 0x1FFFC0000) / 64)
  let t := s.slot k
  let data := ((slotBytes t).drop (q.addr % 64)).take q.len
  let b := q.write.getD []
  match slotForm q with
  | some 3 => (s, 0, data)
  | some f =>
    if !t.enabled then s.slotRefuse q
    else if f = 0 then (s.setSlot k (slotAddFp t (BitVec.ofNat 32 (fieldAt b 0 4))), 0, [])
    else if f = 1 then (s.setSlot k (slotCleared t), 0, [])
    else if f = 2 then
      if t.fixed then (s.setSlot k (slotAddFixed t (BitVec.ofNat 64 (fieldAt b 0 8)) (fieldAt b 8 1)), 0, []) else s.slotRefuse q
    else (s, 0, data)
  | none => s.slotRefuse q

/-! ### Atomics (R215, Table 7-7) -/

/-- The new value of an operand of n bytes. -/
def atomValue (op n old v cmp : Nat) : Nat :=
  let f := fun (g : Word32 → Word32 → Word32) => (g (BitVec.ofNat 32 old) (BitVec.ofNat 32 v)).toNat
  match op with
  | 0 => (old + v) % 2 ^ (8 * n)
  | 1 => f Num.addW
  | 2 => if signed (8 * n) old < signed (8 * n) v then v else old
  | 3 => if signed (8 * n) v < signed (8 * n) old then v else old
  | 4 => max old v
  | 5 => min old v
  | 6 => f Num.maxW
  | 7 => f Num.minW
  | 8 => v
  | _ => if old = cmp then v else old

/-! ### One access -/

/-- What became of an access: served with a status, or held by a cue or by a pause. -/
inductive Access where
  | done (status : Nat) (data : List Byte)
  | heldByCue (u : Nat)
  | heldByPause
  deriving DecidableEq, Repr

/-- R493, R494: a pause has been detected and not been resumed. -/
def State.paused (s : State) : Bool := s.thm.pausing || s.isSet R.THM_STATUS.paused

/-- Does an access need a drawer: a direct one, or a cached one with a sector missing (R494)? -/
def State.needsDrawer (s : State) (q : MemReq) : Bool :=
  (sectorsOf q.addr q.len).any (fun a => !s.cached a || !s.holdsSector a)

/-- The sectors of the slice that an access reaches: its own, and the dirty lines of a full set that a new line may push out
(DESIGN CHOICE, log entry 16). -/
def State.reaches (s : State) (q : MemReq) : List Nat :=
  sectorsOf q.addr q.len ++ (if !s.anyCached q.addr q.len then [] else
    (linesOf q.addr q.len).flatMap (fun a =>
      let key := lineKey (addrChest a) a
      let ls := Tbl.get [] s.lines key
      if (s.findLine a).isSome || ls.length < 16 then [] else (ls.filter (fun l => l.dirty != 0)).map (fun l => lineAddr key l.tag)))

/-- Table 8-8: does a cue hold the access at its slice island, or the gap before one? A write into a shared claim is held
as a read. -/
def State.cueHolds (s : State) (q : MemReq) : Option Nat :=
  (s.reaches q).findSome? (fun a => match s.locate a with
    | some l => if s.bankKept l.u (locBank l) || (q.write.isSome && (s.pup l.u).cue.isSome && s.sharedClaim l) then some l.u else none
    | none => none)

/-- R203: do the drawers of a slice that an access needs refresh themselves? -/
def State.drawerSleeps (s : State) (q : MemReq) : Bool :=
  (sectorsOf q.addr q.len).any (fun a => match s.locate a with
    | some l => (s.slice l.u).selfRefresh
    | none => false)

/-- R202: a bank that owes 8 refreshes takes one ahead of all traffic. -/
def State.refreshFirst (s : State) (q : MemReq) : State :=
  s.each (sectorsOf q.addr q.len) (fun s' a => match s'.locate a with
    | some l =>
      if Tbl.get 0 (s'.slice l.u).owed (locBank l) < 8 then s' else s'.setSlice l.u (fun t => { t with owed := Tbl.set 0 t.owed (locBank l) 7 })
    | none => s')

/-- R190-R199, R213, R215: serve an access that nothing refuses or holds: status and data. -/
def State.serve (s : State) (q : MemReq) : State × Nat × List Byte :=
  match q.write, q.atom with
  | none, _ =>
    let r := s.memRead q.addr q.len
    match r.2 with
    | some d => (r.1, 0, d)
    | none => (r.1, 1, [])
  | some b, none =>
    let r := s.memWrite q.addr b q.enables
    (r.1, if r.2 then 0 else 1, [])
  | some b, some (op, cmp) =>
    let r := s.cacheRead q.addr q.len
    match r.2 with
    | none => (r.1, 1, [])
    | some old => ((r.1.cacheWrite q.addr (leBytes q.len (atomValue op q.len (leNat old) (leNat b) cmp)) []).1, 0, old)

/-- One access, from its refusals to its effect. -/
def State.access (s : State) (q : MemReq) : State × Access :=
  match s.refusal q with
  | some w => let r := s.refuse q w; (r.1, .done r.2 [])
  | none =>
    if reqInWindow q then let r := s.slotAccess q; (r.1, .done r.2.1 r.2.2)
    else if !s.needsDrawer q then let r := s.serve q; (r.1, .done r.2.1 r.2.2)
    else if s.paused || s.drawerSleeps q then (s, .heldByPause)
    else match s.cueHolds q with
      | some u => (s, .heldByCue u)
      | none => let r := (s.refreshFirst q).serve q; (r.1, .done r.2.1 r.2.2)

/-- R396, Table 17-5: what the requester of a memory request sees. -/
def State.answer (s : State) (q : MemReq) (status : Nat) (data : List Byte) : State :=
  if q.host then
    if q.write.isSome && q.atom.isNone then s
    else if status = 0 then s.emit (.bar2Data q.addr data) else s.emit (.abort (.host 0) q.addr)
  else s.respond q.src status data

/-- R27, R429: requests that wait, of masters that reset: their responses are absorbed. -/
def State.loseResponses (s : State) (mids : List Nat) : State :=
  let f := fun (q : MemReq) => match q.src with
    | .master m => if mids.contains m then { q with src := .gone } else q
    | _ => q
  { s with
    pups := s.pups.map (fun e => (e.1, { e.2 with held := e.2.held.map (fun h => (h.1, f h.2)) }))
    thm := { s.thm with held := s.thm.held.map (fun h => (h.1, f h.2)) } }

/-- Serve a request, hold it, or refuse it, and answer it. (DEDUCED, log entry 72.) -/
def State.request (s : State) (q : MemReq) : State :=
  let r := s.access q
  match r.2 with
  | .done st d => r.1.answer q st d
  | .heldByCue u => r.1.setPup u (fun t => { t with held := t.held ++ [(r.1.now, q)] })
  | .heldByPause => { r.1 with thm := { r.1.thm with held := r.1.thm.held ++ [(r.1.now, q)] } }

/-- A read by a unit of this part whose step waits for the data: status and bytes (a held access answers 0xF: the step
waits). -/
def State.unitRead (s : State) (mid a n : Nat) : State × Nat × List Byte :=
  let r := s.access ⟨.master mid, mid, false, a, n, none, [], none⟩
  match r.2 with
  | .done st d => (r.1, st, d)
  | _ => (s, 0xF, [])

def State.unitWrite (s : State) (mid a : Nat) (bytes : List Byte) : State × Nat :=
  if bytes.isEmpty then (s, 0)
  else
    let r := s.access ⟨.master mid, mid, false, a, bytes.length, some bytes, [], none⟩
    match r.2 with
    | .done st _ => (r.1, st)
    | _ => (s, 0xF)

/-- The part's own write into an area it owns: past R170, R294, R299 and claims (layout commit, staging). -/
def State.ownWrite (s : State) (a : Nat) (bytes : List Byte) : State :=
  (s.memWrite a bytes []).1

/-- Bytes as the part's own readers see them, past every refusal (image sections, restore areas). -/
def State.ownRead (s : State) (a n : Nat) : State × Option (List Byte) := s.memRead a n

/-- Zero the cached bytes of a range of a sideboard slice. -/
def zeroLine (key a n : Nat) (l : Line) : Line :=
  { l with data := Tbl.keep l.data (fun i => !inRange (lineAddr key l.tag + i) a n) }

/-- R442, R211, R289: zero every byte of a range, with fresh check bytes, in memory and in the sideboard cache. -/
def State.zeroRange (s : State) (a n : Nat) : State :=
  let s1 := if s.memLost = 0 then { s with mem := Tbl.keep s.mem (fun k => !inRange k a n) } else s.wrBytes a (List.replicate n 0)
  { s1 with
    bad := Tbl.keep s1.bad (fun k => !inRange (k * 64) a n)
    lines := s1.lines.map (fun e => (e.1, e.2.map (zeroLine e.1 a n))) }

/-- R386: the rate at which a slice can be served, in MB/s: band, channels in service, cue share in 64ths. -/
def floorMB (band channels share : Nat) : Nat :=
  let pct := if band = 0 then 78 else if band = 1 then 74 else if band = 2 then 70 else 65
  pct * 256000 * channels * (64 - min share 64) / 6400

end Sys2Proof.Machine
end

