-- ==== Sys2Proof/Machine/QosOps.lean ====
section
/-!
DEFINITION. Regulator entries, admission, and the guarantee scale factor (R375-R379, R383, R386, R387, R390).
-/

namespace Sys2Proof.Machine

open Sys2Proof

/-- A valid regulator entry: its key master id * 16 + entry, class, target, cap in MB/s (0 none), depth in bytes, and
its parameter. -/
structure QEnt where
  key : Nat
  cls : Nat
  any : Bool
  chest : Nat
  slice : Nat
  cap : Nat
  depth : Nat
  param : Nat
  deriving DecidableEq, Repr

/-- The word a set of QOS values holds at an offset; a register the set does not list is at its Reset value (R378). -/
def qosWord (t : Tbl Word32) (off : Nat) : Nat := (Tbl.get (R.reset off) t off).toNat

/-- Tables 13-12 and 13-13. -/
def qosEntry (t : Tbl Word32) (k : Nat) : Option QEnt :=
  let w0 := qosWord t (R.QOS_REG_W0 k)
  let w1 := qosWord t (R.QOS_REG_W1 k)
  if bit w0 31 then
    some ⟨k, bits w0 30 29, bit w0 26, bits w0 25 24, bits w0 23 20, bits w0 19 0 * 4, max 1 (bits w1 31 16) * 64, bits w1 15 0⟩
  else none

/-- R378: the keys of the default set. -/
def qosDefaultKeys : List Nat := [0x090, 0x0A0, 0x0B0, 0x0C0, 0x160, 0x1A0, 0x490, 0x4A0, 0x4B0, 0x4C0, 0x560,
  0x890, 0x8A0, 0x8B0, 0x8C0, 0x960, 0xC90, 0xCA0, 0xCB0, 0xCC0, 0xD60]

/-- Every valid entry of a set of values. -/
def qosEntries (t : Tbl Word32) : List QEnt :=
  let listed := ((t.filter (fun p => decide (0x710000 ≤ p.1) && decide (p.1 < 0x718000) && p.1 % 8 == 0)).map
    (fun p => (p.1 - 0x710000) / 8)).filter (fun k => !qosDefaultKeys.contains k)
  (qosDefaultKeys ++ listed).filterMap (qosEntry t)

/-- R376: does an entry's target cover logical slice n of chest c? -/
def qosCovers (e : QEnt) (c n : Nat) : Bool := e.any || (decide (e.slice < 9) && e.chest == c && e.slice == n)

/-- R383: cap rates of the L0 entries whose target covers a slice, in MB/s. -/
def l0Sum (es : List QEnt) (c n : Nat) : Nat :=
  (es.filter (fun e => e.cls == 0 && qosCovers e c n)).foldl (fun a e => a + e.cap) 0

/-- R383: minimum rates of the L2 entries whose target covers a slice, in MB/s. -/
def l2Sum (es : List QEnt) (c n : Nat) : Nat :=
  (es.filter (fun e => e.cls == 2 && qosCovers e c n)).foldl (fun a e => a + e.param * 64) 0

/-- R383: two valid entries of one master with the same class and target. -/
def qosDuplicate (es : List QEnt) : Bool :=
  es.any (fun a => es.any (fun b => a.key != b.key && a.key / 16 == b.key / 16 && a.cls == b.cls && a.any == b.any &&
    (a.any || (a.chest == b.chest && a.slice == b.slice))))

/-- R383: an L2 entry's minimum exceeds its cap. -/
def qosMinAboveCap (es : List QEnt) : Bool := es.any (fun e => e.cls == 2 && e.cap != 0 && decide (e.cap < e.param * 64))

/-- R379: an L0 entry without a cap. -/
def qosL0NoCap (es : List QEnt) : Bool := es.any (fun e => e.cls == 0 && e.cap == 0)

/-- Table 13-5: the band of a declared drawer temperature. -/
def tempBand (t : Nat) : Nat := if t ≤ 85 then 0 else if t ≤ 95 then 1 else 2

/-- R383: channels counted at admission: 8, or 7 for a degraded slice. -/
def State.admitChannels (s : State) (u : Nat) : Nat := if s.sliceState u = 2 then 7 else if s.sliceState u = 3 then 0 else 8

/-- The slices of an act whose admitted sum exceeds the floor of R383, given each slice's cue share. -/
def State.floorExceeded (s : State) (es : List QEnt) (img : Image) (a : Nat) (share : Nat → Nat) : List Nat :=
  (List.range 36).filter (fun i => actUses img a (i / 9) (i % 9) &&
    decide (floorMB (tempBand (imgMaxTemp img)) (s.admitChannels (s.sliceKey (i / 9) (i % 9))) (share i) <
      l0Sum es (i / 9) (i % 9) + l2Sum es (i / 9) (i % 9)))

def State.cueShare (s : State) (i : Nat) : Nat := s.getF (R.QOS_ADMIT.cue_share i)

/-! ### Shortfall (R386) -/

/-- The band in force in the hottest drawer region of a slice. -/
def State.hotBand (s : State) (u : Nat) : Nat :=
  (List.range 8).foldl (fun m d => max m (bits (s.getF (R.SLC_BANDS.band u)) (2 * d + 1) (2 * d))) 0

/-- Channels in service. -/
def State.channelsUp (s : State) (u : Nat) : Nat := if s.sliceState u = 3 then 0 else (working (s.slice u)).length

/-- R386: f × 256 for a floor and admitted sums. -/
def scaleOf (fl l0 l2 : Nat) : Nat :=
  if l0 + l2 ≤ fl then 256
  else if fl ≤ l0 ∨ l2 = 0 then 0
  else min 256 (256 * (fl - l0) / l2)

/-- R386: a slice recomputes its floor and scale factor; slice i = chest * 9 + logical slice. -/
def State.rescale (s : State) (i : Nat) : State :=
  let u := s.sliceKey (i / 9) (i % 9)
  let es := qosEntries s.qos.active
  let fl := floorMB (s.hotBand u) (s.channelsUp u) (s.cueShare i)
  let f := scaleOf fl (l0Sum es (i / 9) (i % 9)) (l2Sum es (i / 9) (i % 9))
  let old := s.getF (R.QOS_SHORT.factor i)
  let s1 := ((s.setF (R.QOS_SHORT.floor i) (fl / 1000)).setF (R.QOS_SHORT.factor i) f).setF (R.QOS_SHORT.short i) (if f < 256 then 1 else 0)
  if f = old then s1
  else
    let s2 := s1.logE (i / 9) 1 (0xF0 + u % 9) 0x1E 4 false (i / 9 + i % 9 * 4) f 1
    if f < 256 ∧ old = 256 then s2.flagC R.QOS_FLAGS.shortfall 3 else s2

/-- The scale factor that has reached a master for a slice, × 256. -/
def State.portFactor (s : State) (m i : Nat) : Nat := Tbl.get 256 s.qos.arrived (m * 64 + i)

/-! ### A commit takes effect (R378, R390) -/

/-- QOS_ADMIT of every slice. -/
def State.showAdmit (s : State) : State :=
  let es := qosEntries s.qos.active
  s.each (List.range 36) (fun s' i =>
    (s'.setF (R.QOS_ADMIT.l0_sum i) (cdiv (l0Sum es (i / 9) (i % 9)) 1000)).setF (R.QOS_ADMIT.l2_sum i) (cdiv (l2Sum es (i / 9) (i % 9)) 1000))

/-- Every port switches to a set of values; buckets start full and measured latencies at 0; each slice recomputes. -/
def State.qosApply (s : State) (t : Tbl Word32) : State :=
  let s1 := { s with qos := { s.qos with active := t, pend := none, capDef := [], minDef := [], at_ := [], lat := [] } }
  ((s1.setF R.QOS_STATUS.pending 0).showAdmit).each (List.range 36) (fun s' i => s'.rescale i)

/-- R391: the buckets of a master's entries fill and its latencies return to 0; what waits at its port is gone. -/
def State.qosRefill (s : State) (mids : List Nat) : State :=
  let out := fun k => !mids.contains (k / 16)
  { s with qos := { s.qos with
    capDef := Tbl.keep s.qos.capDef out, minDef := Tbl.keep s.qos.minDef out, lat := Tbl.keep s.qos.lat out
    held := Tbl.keep s.qos.held (fun m => !mids.contains m) } }

/-! ### Latency (R382) -/

/-- R382: urgency of a measured latency against a target. -/
def urgency (a t : Nat) : Nat := if 2 * a < t then 0 else if 4 * a < 3 * t then 1 else if a < t then 2 else 3

/-- R382: a + (sample - a) / 8, rounded toward zero. -/
def latencyStep (a sample : Nat) : Nat := (((a : Int) + Int.tdiv ((sample : Int) - a) 8)).toNat

/-! ### Arbiters (R388) -/

/-- The number of an arbiter; its kind, chest and position can be read from it. (DESIGN CHOICE, log entry 71.) -/
def arbKey (a : ArbReq) : Nat := ((a.kind * 4 + a.chest) * 16 + a.pos) * 64 + a.res

/-- R388: among inputs in ascending order, the first after the one last granted (plus one; 0 none), in cyclic order. -/
def nextInput (last : Nat) (ins : List Nat) : Option Nat :=
  let after := ins.filter (fun i => decide (last ≤ i))
  let pick := fun (l : List Nat) => l.foldl (fun (b : Option Nat) i => match b with | some x => some (min x i) | none => some i) none
  if after.isEmpty then pick ins else pick after

/-- R388: the winner: input, level, master. -/
def State.winner (s : State) (a : ArbReq) : Option (Nat × Nat × Nat) :=
  let top := a.ready.foldl (fun m r => max m r.2.1) 0
  let ins := (a.ready.filter (fun r => r.2.1 == top)).map (·.1)
  match nextInput (Tbl.get 0 s.qos.granted (arbKey a * 8 + top)) ins with
  | some i => a.ready.find? (fun r => r.1 == i && r.2.1 == top)
  | none => none

/-- The input granted last at its level. -/
def State.noteGrant (s : State) (a : ArbReq) (w : Nat × Nat × Nat) : State :=
  { s with qos := { s.qos with granted := Tbl.set 0 s.qos.granted (arbKey a * 8 + w.2.1) (w.1 + 1) } }

end Sys2Proof.Machine
end

