-- ==== Sys2Proof/Machine/SliceOps.lean ====
section
/-!
DEFINITION. What takes parts of a slice out of service: rows (R206, R207), channels (R208-R212), and the failure of a
work item whose memory or run is lost.
-/

namespace Sys2Proof.Machine

open Sys2Proof

def State.core (s : State) (u : Nat) : CoreSt := Tbl.get CoreSt.zero s.cores u

def State.setCore (s : State) (u : Nat) (f : CoreSt → CoreSt) : State := { s with cores := Tbl.modify CoreSt.zero s.cores u f }

/-- What a byte of the tile store reads as when nothing has written it: zero after a reset or a load, undefined after a
switch that did not preserve it (R317). -/
def tileBase (t : CoreSt) (a : Nat) : Byte := if t.tileLost = 0 then 0 else Config.outsideTile a t.tileLost

def tileByte (t : CoreSt) (a : Nat) : Byte := Tbl.get 0 t.tile a ^^^ tileBase t a

def tileBytes (t : CoreSt) (a n : Nat) : List Byte := (List.range n).map (fun i => tileByte t (a + i))

def tilePut (t : CoreSt) : Nat → List Byte → CoreSt
  | _, [] => t
  | a, b :: l => tilePut { t with tile := Tbl.set 0 t.tile a (b ^^^ tileBase t a) } (a + 1) l

/-! ### A core's operations -/

def CoreSt.mode (t : CoreSt) : Nat := match t.ops with | o :: _ => o.desc.mode | [] => 0

def CoreSt.sub (t : CoreSt) (i : Nat) : SubSt := Tbl.get SubSt.zero t.subs i

def CoreSt.op (t : CoreSt) (k : Nat) : OpSt := t.ops.getD k ⟨[], 0, 0, ⟨0, 0, 0, 0, 0⟩, 0⟩

/-- COR_ARR_STATUS (Table 3-10). Every sub-array of the mode shows as granted while operations run.
(DESIGN CHOICE, log entry 105.) -/
def State.showArr (s : State) (u : Nat) : State :=
  let t := s.core u
  let idle := (List.range 16).all (fun i => (t.sub i).flight.isEmpty)
  let granted := if t.ops.isEmpty then 0 else 2 ^ subCount t.mode - 1
  let stop := s.isSet (R.COR_ARR_CTRL.hold u) || s.paused || s.getF (R.COR_ARR_DUTY.duty_active u) == 0
  (((((s.setF (R.COR_ARR_STATUS.sub_granted u) granted).setF (R.COR_ARR_STATUS.held u) (if stop && idle then 1 else 0)).setF
    (R.COR_ARR_STATUS.drained u) (if idle then 1 else 0)).setF (R.COR_ARR_STATUS.issuing u) (if t.slotAt ≠ 0 then 1 else 0)).setF
    (R.COR_ARR_STATUS.mode u) t.mode)

/-- COR_VEC_STATUS.busy_pro and busy_epi; no prologue waits for its input while no operation runs (R138). -/
def State.showVec (s : State) (u : Nat) : State :=
  let t := s.core u
  let s1 := (s.setF (R.COR_VEC_STATUS.busy_epi u) (if t.ctx.isSome then 1 else 0)).setF (R.COR_VEC_STATUS.busy_pro u)
    (if t.pctx.isSome then 1 else 0)
  if t.ops.isEmpty then s1.setF (R.COR_VEC_STATUS.wait_input u) 0 else s1

/-- COR_FUS_STATUS: a pair runs, a finish pass runs; no prologue waits for a vector while no operation runs (R167). -/
def State.showFus (s : State) (u : Nat) : State :=
  let t := s.core u
  let pair := decide (1 < t.ops.length) || t.finish.elim false (fun o => o.desc.kind != 1)
  let s1 := (s.setF (R.COR_FUS_STATUS.pair_active u) (if pair then 1 else 0)).setF (R.COR_FUS_STATUS.finish_busy u)
    (if t.finish.isSome then 1 else 0)
  if t.ops.isEmpty then s1.setF (R.COR_FUS_STATUS.wait_vector u) 0 else s1

/-- The status registers of a core's array, vector engine and fused engine. -/
def State.showCore (s : State) (u : Nat) : State := ((s.showArr u).showVec u).showFus u

/-- Nothing of an operation is left in a core's engines. The tile store and the arrival flags keep what they hold. -/
def dropOps (t : CoreSt) : CoreSt :=
  { t with ops := [], subs := [], ctx := none, pctx := none, epi := [], defer := [], proDone := [], fetched := [], recs := [], finish := none
           order := [] }

/-- A core's operations end, and its status registers show it. -/
def State.dropCore (s : State) (u : Nat) : State := (s.setCore u dropOps).showCore u

/-- The work item on a core is gone with its operations. -/
def State.dropWork (s : State) (u : Nat) : State := (s.setCore u (fun t => { dropOps t with work := none })).showCore u

/-- Table 17-5, R187, R408: the work item on a core ends with a result; no later descriptor of it runs. Its record keeps the
sticky bits of what ran, and the tag of the last descriptor that ran. -/
def State.failWork (s : State) (u result : Nat) : State :=
  (s.setCore u (fun t => match t.work with
    | some w =>
      if w.result = 0 then
        let ran := t.ops ++ t.finish.toList
        { dropOps t with work := some { w with
            result := result, next := none, sticky := ran.foldl (fun a o => a ||| o.sticky) w.sticky
            tag := (ran.getLast?).elim w.tag (fun o => o.desc.outTag) } }
      else t
    | none => t)).showCore u

/-- Do the drawers of a slice accept accesses (R203, R441, R449)? -/
def State.drawersUp (s : State) (u : Nat) : Bool :=
  decide (u < 36) && s.chestUp (u / 9) && !s.chestInReset (u / 9) && !(s.slice u).selfRefresh

/-! ### Rows (R206, R207) -/

/-- Rewrite a sector from its corrected value; an uncorrectable one keeps its stored data and check bits. -/
def State.recopySector (s : State) (a : Nat) : State :=
  if s.sectorErr a = 1 then { s with bad := Tbl.set 0 s.bad (a / 64) 0 } else s

/-- R206: the row's 128 sectors move to a spare row. -/
def State.remapRow (s : State) (u key : Nat) : State :=
  let b := key / 4096
  let s1 := s.each (List.range 128) (fun s' i => s'.recopySector (s'.bankAddr u b (key % 4096 * 128 + i)))
  let s2 := s1.setSlice u (fun t => { t with
    badRows := t.badRows.filter (· != key), remapped := t.remapped ++ [key], spareUsed := Tbl.modify 0 t.spareUsed b (· + 1) })
  ((s2.showSpares u).logE (u / 9) 1 (b / 32 * 16 + u % 9) 3 0 true (s.bankAddr u b (key % 4096 * 128)) (s2.sparesLeft u b) 1).recordDefect
    (defRow (u / 9) (u % 9) (b / 32) (b % 32) (key % 4096))

/-! ### Patrol scrubbing (R200) -/

/-- The channel address of the next patrol burst of a channel. -/
def State.scrubAt (s : State) (u ch : Nat) : Nat := Tbl.get 0 (s.slice u).scrub ch % 2 ^ 21 * 512

/-- R200: the next burst of a channel; a pass of the slice ends when every working channel has started again at 0.
(DEDUCED, log entry 18.) -/
def State.scrubNow (s : State) (u ch : Nat) : State :=
  let n := Tbl.get 0 (s.slice u).scrub ch
  let s1 := s.each (List.range 8) (fun s' i => (s'.readSector (s'.addrAt u ch (s.scrubAt u ch + 64 * i))).1)
  let passes := fun (t : SliceSt) => ((working t).map (fun c => Tbl.get 0 t.scrub c / 2 ^ 21)).foldl min (n / 2 ^ 21 + 1)
  let before := passes (s1.slice u)
  let s2 := s1.setSlice u (fun t => { t with scrub := Tbl.set 0 t.scrub ch (n + 1) })
  if before < passes (s2.slice u) then s2.incWrap (R.SLC_SCRUB.passes u) 1 else s2

/-! ### Channels (R208-R212) -/

/-- Is the spare path free? -/
def State.spareFree (s : State) (u : Nat) : Bool :=
  s.getF (R.SLC_STATUS.spare_for u) == 0xF && (s.slice u).toSpare.isNone && s.getBit (R.SLC_STATUS.ch_working u) (s.slice u).spare

/-- R208: retire a logical channel's path; cause 0 count, 1 training, 2 firmware. It moves at the next gap. -/
def State.retirePath (s : State) (u ch cause : Nat) : State :=
  let t := s.slice u
  if 8 ≤ ch || bit t.cut ch || s.sliceState u == 3 || t.toCut.any (fun p => p.1 == ch) || t.toSpare.any (fun p => p.1 == ch) then s
  else
    let free := s.spareFree u
    let s1 := (s.putBit (R.SLC_STATUS.ch_working u) (physChan t ch) false).flagC (R.SLC_FLAGS.channel_retired u) 12
    let s2 := s1.recordDefect (defChan (u / 9) (u % 9) ch)
    s2.setSlice u (fun t => if free then { t with toSpare := some (ch, cause) } else { t with toCut := t.toCut ++ [(ch, cause)] })

/-- R212: the state of a slice with n working channels. -/
def sliceStateOf (n : Nat) : Nat := if n = 8 then 0 else if n = 7 then 2 else 3

/-- Is a bank of logical channel ch engaged by a cue? -/
def State.chanEngaged (s : State) (u ch : Nat) : Bool := (List.range 32).any (fun b => s.engaged u (ch * 32 + b))

end Sys2Proof.Machine
end

