-- ==== Sys2Proof/Machine/TrayOps.lean ====
section
/-!
DEFINITION. The acceptance journal: entries, their completion, re-dispatch after a reset (R406-R416), and the fields of
a tray entry (Tables 14-5, 14-6).
-/

namespace Sys2Proof.Machine

open Sys2Proof

/-! ### Tray entries -/

def entKind (b : List Byte) : Nat := fieldAt b 0 1
def entFlags (b : List Byte) : Nat := fieldAt b 1 1
def entInt (b : List Byte) : Bool := bit (entFlags b) 0
def entFence (b : List Byte) : Bool := bit (entFlags b) 1
def entNoReplay (b : List Byte) : Bool := bit (entFlags b) 2
def entClass (b : List Byte) : Nat := bits (fieldAt b 2 1) 1 0
def entAct (b : List Byte) : Nat := fieldAt b 3 1
def entTag (b : List Byte) : Nat := fieldAt b 8 8
def entCore (b : List Byte) : Nat := bits (fieldAt b 0x10 1) 4 0
def entDesc (b : List Byte) : Nat := fieldAt b 0x12 2
def entSeqPresent (b : List Byte) : Bool := bit (fieldAt b 0x14 4) 31
def entSeq (b : List Byte) : Nat := bits (fieldAt b 0x14 4) 19 0
def entBody (b : List Byte) (off n : Nat) : Nat := fieldAt b (0x20 + off) n
/-- The operation record of a KV entry (Table 9-5). -/
def entKv (b : List Byte) : List Byte := (b.drop 0x20).take 64

/-- R405: every reserved field is zero. -/
def entReservedOk (b : List Byte) : Bool :=
  bits (entFlags b) 7 3 == 0 && bits (fieldAt b 2 1) 7 2 == 0 && (entKind b == 1 || entAct b == 0) && fieldAt b 4 4 == 0 &&
  fieldAt b 0x11 1 == 0 && fieldAt b 0x18 8 == 0 &&
  (if entKind b = 1 then
     bits (fieldAt b 0x10 1) 7 5 == 0 && bits (fieldAt b 0x14 4) 30 20 == 0 && entBody b 16 80 == 0
   else fieldAt b 0x10 1 == 0 && fieldAt b 0x12 2 == 0 && fieldAt b 0x14 4 == 0 &&
     (if entKind b = 2 then entBody b 64 32 == 0
      else if entKind b = 3 ∨ entKind b = 4 then bits (entBody b 8 8) 63 39 == 0 && entBody b 20 76 == 0
      else entBody b 0 96 == 0))

/-! ### The journal -/

def State.jFind (s : State) (jid : Nat) : Option JEntry := s.journal.find? (fun e => e.jid == jid)

def State.jSet (s : State) (jid : Nat) (f : JEntry → JEntry) : State :=
  { s with journal := s.journal.map (fun e => if e.jid = jid then f e else e) }

/-- Function and tray of a tray key. -/
def trayFn (t : Nat) : Nat := t / 64

/-- Table 6-4: a status word from a result, nothing_written and sticky bits. -/
def statusWord (result : Nat) (nothing : Bool) (sticky : Nat) : Nat :=
  result % 16 * 2 ^ 12 + (if nothing then 2 ^ 11 else 0) + bits sticky 7 1 * 2

def State.trayState (s : State) (t : Nat) : Nat := s.getF (R.HQ_T_STATUS.state t)

def State.tray (s : State) (t : Nat) : TraySt := Tbl.get TraySt.zero s.trays t

def State.setTray (s : State) (t : Nat) (v : TraySt) : State := { s with trays := Tbl.set TraySt.zero s.trays t v }

/-- R399 step 4: a tray's registers at their Reset values. -/
def State.clearTray (s : State) (t : Nat) : State := (s.resetRange (R.trayBase t) (R.trayBase t + 0x34)).setTray t TraySt.zero

/-- R399 steps 3 and 4: a tray in state resetting discards what has finished; once nothing of it is left, its registers
return to their Reset values. There are 1,088 trays. (DEDUCED, log entry 84.) -/
def State.discard (s : State) (t : Nat) : State :=
  if t < 1088 ∧ s.trayState t = 4 then
    let s1 := { s with journal := s.journal.filter (fun e => !(e.tray == t && e.st == 2)) }
    if s1.journal.any (fun e => e.tray == t) then s1 else s1.clearTray t
  else s

/-- An entry reaches its completion point or its end; the first one stands (R412). -/
def State.finishEntry (s : State) (jid status outTag kvRes detail : Nat) : State :=
  let s1 := s.jSet jid (fun e =>
    if e.st = 2 then e else { e with st := 2, status := status, outTag := outTag, kvRes := kvRes, detail := detail })
  match s.jFind jid with
  | some e => s1.discard e.tray
  | none => s1

/-- R414-R416: an entry completes as aborted, retryable; what a COPY has moved stands. (DEDUCED, log entry 38.) -/
def State.abortEntry (s : State) (jid : Nat) : State :=
  s.finishEntry jid (statusWord 3 false 0) 0 0 ((s.jFind jid).elim 0 (fun e => e.detail))

/-- R414, R415: an entry whose work ran in a reset scope goes back to the journal, ahead of every later one of its
target, or completes with result 0x3. (DEDUCED, log entry 85.) -/
def State.replayEntry (s : State) (jid : Nat) : State :=
  match s.jFind jid with
  | none => s
  | some e =>
    if e.st ≠ 1 ∧ e.st ≠ 3 then s
    else if entNoReplay e.bytes || 3 ≤ e.replays then s.abortEntry jid
    else ((s.jSet jid (fun e => { e with st := 0, replays := e.replays + 1 })).incSat R.HQ_REPLAYS.count 1).flagC R.HQ_FLAGS.replayed 11

/-- A tray's entries in acceptance order. -/
def State.trayEntries (s : State) (t : Nat) : List JEntry := s.journal.filter (fun e => e.tray == t)

/-- A tray enters state error (R402, R403). -/
def State.trayError (s : State) (t code : Nat) : State :=
  let s1 := (s.setF (R.HQ_T_STATUS.state t) 3).setF (R.HQ_T_STATUS.error t) code
  (s1.flagC R.HQ_FLAGS.tray_error 11).logE 0 9 (trayFn t) 0x1D 2 false 0 (t % 64 + code * 256) 1

end Sys2Proof.Machine
end

