-- ==== Sys2Proof/Machine/CoreOps.lean ====
section
/-!
DEFINITION. A core as other units see it: its reset (R102, R137, R166), the starting contents of its tile store and
chain store (R137, R451), the units a reset interrupts.
-/

namespace Sys2Proof.Machine

open Sys2Proof

/-- Bytes into a core's tile store. -/
def State.putTile (s : State) (u off : Nat) (bytes : List Byte) : State :=
  s.setCore u (fun t => tilePut t off bytes)

def State.getTile (s : State) (u off n : Nat) : List Byte := tileBytes (s.core u) off n

/-- R102, R137, R166: everything in a core island returns to its reset value; the governor's limit lies in the plinth and
stays (R488). The work item is lost; the journal holds it. -/
def State.clearCore (s : State) (u : Nat) : State :=
  let duty := (s.core u).govDuty
  ((s.setCore u (fun _ => { CoreSt.zero with govDuty := duty })).resetRange (R.corBase u) (R.corBase u + 0x20000)).setF
    (R.COR_ARR_DUTY.duty_active u) (min 64 duty)

/-- R317: the chain store of the act in force, and COR_VEC_CHAINS. -/
def State.loadChains (s : State) (u id : Nat) : State :=
  let w := s.fromLayout [] (fun i => (chainsOf i s.act id).getD [])
  (s.setCore u (fun t => { t with chain := Tbl.setList 0 [] 0 w })).setF (R.COR_VEC_CHAINS.words u) w.length

/-- R317: regions of a tile store read back from consecutive bytes of an area; a read that fails leaves its bytes. -/
def State.restoreRegions (s : State) (u area : Nat) (l : List (Nat × Nat)) : State :=
  (l.foldl (fun (st : State × Nat) p =>
    let r := st.1.ownRead st.2 p.2
    ((match r.2 with | some b => r.1.putTile u p.1 b | none => r.1), st.2 + p.2)) (s, area)).1

/-- R317: regions of a tile store written to consecutive bytes of an area. -/
def State.spillRegions (s : State) (u area : Nat) (l : List (Nat × Nat)) : State :=
  (l.foldl (fun (st : State × Nat) p => (st.1.ownWrite st.2 (st.1.getTile u p.1 p.2), st.2 + p.2)) (s, area)).1

/-- R451: the starting contents of the act in force for package core id: DATA, then the restore set; the rest reads
zero. -/
def State.loadTile (s : State) (u id : Nat) : State :=
  let s1 := s.setCore u (fun t => { t with tile := [], tileLost := 0 })
  let ds := s1.fromLayout [] (fun i => (dataOf i s1.act).filter (fun d => d.space == 1 && d.core == id))
  let s2 := s1.each ds (fun s' d => s'.putTile u d.addr d.bytes)
  match s2.coreCfg id with
  | some c => s2.restoreRegions u c.restoreArea c.restore
  | none => s2

/-- R450 step 5: chain store and tile store of the core that serves a logical id. -/
def State.reloadCore (s : State) (u : Nat) : State :=
  match s.logicalOf (u / 9) (u % 9) with
  | some n => (s.loadChains u (u / 9 * 8 + n)).loadTile u (u / 9 * 8 + n)
  | none => s

/-- R414: the entry whose work runs on a core goes back to the journal. -/
def State.replayCore (s : State) (u : Nat) : State :=
  match (s.core u).work with
  | some w => s.replayEntry w.jid
  | none => s

/-- Is a core idle (no operation in progress)? -/
def coreIdle (t : CoreSt) : Bool := t.work.isNone && t.ops.isEmpty && t.finish.isNone

/-- The number of a core's landing tiles: those its act declares. -/
def State.landTile (s : State) (u idx : Nat) : Option LandCfg :=
  (s.logicalOf (u / 9) (u % 9)).bind (fun n => s.landCfg (u / 9 * 8 + n) idx)

/-- R98: the arrival flag of landing tile i. -/
def State.arrived (s : State) (u i : Nat) : Bool := s.getBit (R.COR_ARR_ARRIVE.arrived u (i / 32)) (i % 32)

def State.setArrived (s : State) (u i : Nat) (b : Bool) : State := s.putBit (R.COR_ARR_ARRIVE.arrived u (i / 32)) (i % 32) b

end Sys2Proof.Machine
end

