-- ==== Sys2Proof/Machine/LandOps.lean ====
section
/-!
DEFINITION. The landing engine (R96, R99, R557): one write at a landing tile, from its checks to the arrival flag.
-/

namespace Sys2Proof.Machine

open Sys2Proof

/-- The sender as an error-log detail names it: master id, or fabric source. -/
def srcDetail : ReqSrc → Nat
  | .master m => m % 256
  | .fabric dev _ _ => dev % 4096
  | .gone => 0xFF

/-- The transfers of a tile are told apart by their senders: a master of this part, or another device, whatever the tags of its
requests. (DESIGN CHOICE, log entry 109.) -/
def xferKey : ReqSrc → Nat
  | .master m => m % 2 ^ 16
  | .fabric dev _ _ => 2 ^ 16 + dev
  | .gone => 2 ^ 32

/-- Is a write part of one of the transfers that a table lists for its tile? -/
def xferIn (t : Tbl (List Nat)) (w : LandWrite) : Bool := (Tbl.get [] t w.idx).contains (xferKey w.src)

def xferAdd (t : Tbl (List Nat)) (w : LandWrite) : Tbl (List Nat) :=
  if xferIn t w then t else Tbl.modify [] t w.idx (fun l => l ++ [xferKey w.src])

def xferDrop (t : Tbl (List Nat)) (w : LandWrite) : Tbl (List Nat) := Tbl.modify [] t w.idx (fun l => l.filter (· != xferKey w.src))

/-- R557: a refused write: logged. A posted one ends the scheduled transfer it belongs to: what follows of it is dropped. A
refused request leaves later requests to be checked by themselves. -/
def State.landRefuse (s : State) (w : LandWrite) : State :=
  let s1 := s.logE (w.core / 9) 0 (w.core % 9) 0x22 2 false (w.idx % 4096 + w.off % 2 ^ 26 * 4096) (srcDetail w.src) 1
  if !w.posted then s1
  else s1.setCore w.core (fun t =>
    { t with openXfer := xferDrop t.openXfer w
             dropXfer := if !w.last && (w.first || xferIn t.openXfer w) then xferAdd t.dropXfer w
                         else if w.last then xferDrop t.dropXfer w else t.dropXfer })

/-- R99: the first byte of a transfer finds the flag set: the whole transfer is dropped. -/
def State.landOverrun (s : State) (w : LandWrite) : State :=
  let s1 := (s.flag (R.COR_ARR_FLAGS.landing_overrun w.core)).setF (R.COR_ARR_OVERRUN.landing_index w.core) w.idx
  let s2 := s1.logE (w.core / 9) 0 (w.core % 9) 0x0A 2 false (w.idx % 4096) (srcDetail w.src) 1
  s2.setCore w.core (fun t => { t with openXfer := xferDrop t.openXfer w
                                       dropXfer := if w.last then xferDrop t.dropXfer w else xferAdd t.dropXfer w })

/-- R310: a transfer has landed whole: the receive slot of this epoch that expects it, if any. A landing counts one for
its slot; the boundary takes one off. -/
def State.markReceive (s : State) (u idx : Nat) : State :=
  let sl := s.fromLayout [] (fun i => slotsOf i s.act)
  let mine := (List.range sl.length).filter (fun j => match sl[j]? with
    | some e => e.dir == 1 && e.landing == idx && s.coreKey e.core == u
    | none => false)
  let least := mine.foldl (fun (b : Option Nat) j => match b with
    | some k => if Tbl.get 0 s.lay.slotSt j < Tbl.get 0 s.lay.slotSt k then some j else b
    | none => some j) none
  match least with
  | some j => { s with lay := { s.lay with slotSt := Tbl.modify 0 s.lay.slotSt j (· + 1) } }
  | none => s

/-- The bytes are written; the last one sets the tile's arrival flag (R96). -/
def State.landStore (s : State) (w : LandWrite) (cfg : LandCfg) : State :=
  let s1 := s.putTile w.core (cfg.off + w.off) w.bytes
  if w.last then
    ((s1.setCore w.core (fun t => { t with openXfer := xferDrop t.openXfer w, dropXfer := xferDrop t.dropXfer w })).setArrived
      w.core w.idx true).markReceive w.core w.idx
  else s1.setCore w.core (fun t => { t with openXfer := xferAdd t.openXfer w, dropXfer := xferDrop t.dropXfer w })

/-- R99: a later write of a transfer that is being dropped. -/
def State.landDropped (s : State) (w : LandWrite) : State :=
  if w.last then s.setCore w.core (fun t => { t with dropXfer := xferDrop t.dropXfer w }) else s

/-- R96, R99, R557: one landing-tile write; the status a request sees (R332). A core inside a reset absorbs it (R449). -/
def State.landWrite (s : State) (w : LandWrite) : State × Nat :=
  if s.coreInReset w.core then (s.absorb (fun r => r.hasCore w.core) w.posted, 4)
  else match s.landTile w.core w.idx with
    | none => (s.landRefuse w, 1)
    | some cfg =>
      if cfg.len < w.off + w.bytes.length then (s.landRefuse w, 1)
      else if w.first then
        if s.arrived w.core w.idx then (s.landOverrun w, 3) else (s.landStore w cfg, 0)
      else if xferIn (s.core w.core).dropXfer w then (s.landDropped w, 3)
      else (s.landStore w cfg, 0)

/-- A landing-tile write whose sender sees an answer unless it is posted (R469). -/
def State.landRequest (s : State) (w : LandWrite) : State :=
  let r := s.landWrite w
  if w.posted then r.1 else r.1.respond w.src r.2 []

end Sys2Proof.Machine
end

