-- ==== Sys2Proof/Machine/ArrOps.lean ====
section
/-!
DEFINITION. The matrix array (chapter 03) and the operations that run on it: operand elements and scales as they reach a
cell, a row's pass result, output blocks in the accumulator halves and the sum area, the end of an operation.
-/

namespace Sys2Proof.Machine

open Sys2Proof

/-! ### Operations and their tiles -/

/-- One list after the other, element by element (R141). -/
def interleave {α : Type} : List α → List α → List α
  | [], l => l
  | a :: l, [] => a :: l
  | a :: l, b :: m => a :: b :: interleave l m

/-- The tiles of one operation on a sub-array; an operation whose run-time shape is empty has none (R177). -/
def opTiles (o : OpSt) (k i : Nat) : List (Nat × TilePos) :=
  if shapeEmpty o.shape then [] else (tileSeq o.desc o.shape i).map (fun p => (k, p))

/-- The stationary tiles of sub-array i in order, with the operation each belongs to: an attention pair takes turns. -/
def subTiles (t : CoreSt) (i : Nat) : List (Nat × TilePos) :=
  match t.ops with
  | [a, b] => interleave (opTiles a 0 i) (opTiles b 1 i)
  | a :: _ => opTiles a 0 i
  | [] => []

def State.setSub (s : State) (u i : Nat) (f : SubSt → SubSt) : State :=
  s.setCore u (fun t => { t with subs := Tbl.modify SubSt.zero t.subs i f })

/-- Masked-in rows of an output block (R185). -/
def rowsOf (o : OpSt) (b : Nat) : Nat := min (blockRows o.desc) (foldedM o.desc o.shape - b * blockRows o.desc)

/-- R313, R314: does the layout in force run its epochs? -/
def State.runsEpochs (s : State) : Bool := s.runState == 5 && s.lay.began

/-- Steady timing in force (R490). -/
def State.steady (s : State) : Bool := s.isSet R.PWR_MODE.steady_active

/-- The duty value of a core comes into force: the lower of its own and the governor's (R489).
(DESIGN CHOICE, log entry 29.) -/
def State.dutyTakes (s : State) (u : Nat) : State :=
  (s.setF (R.COR_ARR_DUTY.duty_active u) (min (s.getF (R.COR_ARR_DUTY.duty u)) (s.core u).govDuty)).showArr u

/-- The master id of a core (Table 13-3). -/
def coreMid (u : Nat) : Nat := u / 9 * 64 + u % 9

/-! ### Elements -/

/-- `w` bits from bit `b0` of a tile-store offset. -/
def tileBits (t : CoreSt) (off b0 w : Nat) : Nat :=
  leNat (tileBytes t (off + b0 / 8) ((b0 % 8 + w + 7) / 8)) / 2 ^ (b0 % 8) % 2 ^ w

/-- Tile-store offset of the landing tile of unit n of an operand. -/
def State.unitOff (s : State) (u : Nat) (o : Operand) (n : Nat) : Nat :=
  match s.landTile u (o.tile n) with
  | some c => c.off
  | none => 0

/-- R96: is the landing tile of an operand's unit there? Bytes of the tile store are (`State.landedRange` asks of those that
lie in a declared landing tile). -/
def State.unitHere (s : State) (u : Nat) (o : Operand) (n : Nat) : Bool := o.space == 1 || s.arrived u (o.tile n)

/-- R96, R133: the landing tiles that a range of the tile store meets have arrived. -/
def State.landedRange (s : State) (u a n : Nat) : Bool :=
  match (s.logicalOf (u / 9) (u % 9)).bind (fun m => s.coreCfg (u / 9 * 8 + m)) with
  | some c => c.landings.all (fun l => !overlaps a n l.off l.len || s.arrived u l.idx)
  | none => true

def State.landedAll (s : State) (u : Nat) (l : List (Nat × Nat)) : Bool := l.all (fun r => s.landedRange u r.1 r.2)

/-- R98, R173: the last read of a unit clears its flag: always for a space-0 operand, and where marked consume-once. -/
def State.consumeUnit (s : State) (u : Nat) (o : Operand) (n : Nat) : State :=
  if o.space = 0 ∨ (o.space = 2 ∧ o.consume = true) then s.setArrived u (o.tile n) false else s

/-- R172, R181: unit number of the stationary tile at `pos` of an operation's own sequence. -/
def wUnit (o : OpSt) (i : Nat) (p : TilePos) : Nat :=
  unitNo (wCounts o.desc o.shape) (((tileSeq o.desc o.shape i).findIdx? (· == p)).getD 0) i

/-- Unit number of the rows of block b for a stationary tile. -/
def xUnit (o : OpSt) (i : Nat) (p : TilePos) (b : Nat) : Nat :=
  let nb := blocks o.desc o.shape
  unitNo (xCounts o.desc o.shape) (((xTiles o.desc o.shape i).findIdx? (· == p)).getD 0 * nb + b) i

/-- Batch item, streamed head and row of folded row r at a stationary head, and its index over the whole operation. -/
def rowAt (o : OpSt) (head r : Nat) : Nat × Nat × Nat := unfold o.desc o.shape head r
def denseRow (o : OpSt) (head r : Nat) : Nat :=
  let x := rowAt o head r
  (x.1 * (o.shape.heads * o.desc.group) + x.2.1) * o.shape.m + x.2.2

/-- R44: index of a streamed row's scale byte. -/
def xScaleIdx (o : OpSt) (head r kg : Nat) : Nat := denseRow o head r * mxBlocks o.desc.planK + kg / 32

/-- R44: index of a stationary column's scale byte. -/
def wScaleIdx (o : OpSt) (head ng kg : Nat) : Nat := (head * o.desc.planN + ng) * mxBlocks o.desc.planK + kg / 32

/-- A scale byte of an operand (R45): of its scale array, its per-tensor scale, or 2^0. -/
def State.scaleByte (s : State) (u fmt tscale : Nat) (o : Operand) (idx : Nat) : Nat :=
  if Num.isMx fmt then
    if o.scaleSpace = 1 then (tileByte (s.core u) (o.scaleAddr + idx)).toNat
    else (if s.cached (o.scaleAddr + idx) then s.cacheByte (o.scaleAddr + idx) else s.rdByte (o.scaleAddr + idx)).toNat
  else if fmt = 0xC then tscale
  else 0x7F

/-- R197-R199: the sectors of scale bytes are read from device memory, as requests of the core: 0 done, 1 one of them failed,
2 one is held by a cue or a pause (R243, R493). -/
def State.touchScales (s : State) (u fmt : Nat) (o : Operand) (idx : List Nat) : State × Nat :=
  if Num.isMx fmt && o.scaleSpace == 0 then
    (idx.foldl (fun l i => if l.contains ((o.scaleAddr + i) / 64) then l else l ++ [(o.scaleAddr + i) / 64]) []).foldl
      (fun (st : State × Nat) a =>
        if st.2 ≠ 0 then st
        else let r := st.1.unitRead (coreMid u) (a * 64) 64; (r.1, if r.2.1 = 0 then 0 else if r.2.1 = 0xF then 2 else 1)) (s, 0)
  else (s, 0)

/-- The scale bytes of an operand that lie in the tile store. -/
def scaleRanges (fmt : Nat) (o : Operand) (idx : List Nat) : List (Nat × Nat) :=
  if Num.isMx fmt && o.scaleSpace == 1 then idx.map (fun i => (o.scaleAddr + i, 1)) else []

/-- R76, R184: a stationary element of a tile and its scale; row k and column n within the tile. (DEDUCED, log entry 103.) -/
def State.wElem (s : State) (u : Nat) (o : OpSt) (i : Nat) (p : TilePos) (k n : Nat) : Nat × Nat :=
  let d := o.desc
  let kg := p.kt * subK d.mode + k
  let ng := p.nt * subN d + n
  if o.shape.k ≤ kg ∨ o.shape.n ≤ ng then (0, 0x7F)
  else
    let eb := Num.elemBits d.fmtW
    let t := s.core u
    let bits_ :=
      if d.w.space = 1 then
        let base := d.w.addr + p.head * d.w.headStride
        if d.w.trans then tileBits t (base + ng * d.w.rowStride) (kg * eb) eb
        else tileBits t (base + kg * d.w.rowStride) (ng * eb) eb
      else
        let off := s.unitOff u d.w (wUnit o i p)
        tileBits t off ((if d.w.trans then n * subK d.mode + k else k * subN d + n) * eb) eb
    (bits_, s.scaleByte u d.fmtW d.tscaleW d.w (wScaleIdx o p.head ng kg))

/-- Columns n < N of a tile, and rows k < K. -/
def tileCols (o : OpSt) (p : TilePos) : Nat := min (subN o.desc) (o.shape.n - p.nt * subN o.desc)
def tileRows (o : OpSt) (p : TilePos) : Nat := min (subK o.desc.mode) (o.shape.k - p.kt * subK o.desc.mode)

/-- R44, R184: the scale bytes that row k of a stationary tile takes: those of the columns below N. -/
def fillScales (o : OpSt) (p : TilePos) (k : Nat) : List Nat :=
  if k < tileRows o p then
    (List.range (tileCols o p)).map (fun n => wScaleIdx o p.head (p.nt * subN o.desc + n) (p.kt * subK o.desc.mode + k))
  else []

/-- R96: the ranges of the tile store that row k of a stationary tile is read from. -/
def fillRanges (o : OpSt) (p : TilePos) (k : Nat) : List (Nat × Nat) :=
  let d := o.desc
  let eb := Num.elemBits d.fmtW
  let kg := p.kt * subK d.mode + k
  let base := d.w.addr + p.head * d.w.headStride
  let cols := tileCols o p
  (if d.w.space ≠ 1 ∨ tileRows o p ≤ k ∨ cols = 0 then []
   else if d.w.trans then (List.range cols).map (fun n =>
     (base + (p.nt * subN d + n) * d.w.rowStride + kg * eb / 8, (kg * eb % 8 + eb + 7) / 8))
   else [(base + kg * d.w.rowStride + p.nt * subN d * eb / 8, (cols * eb + 7) / 8)]) ++
  scaleRanges d.fmtW d.w (fillScales o p k)

/-- R44: the scale bytes of rows of a streamed block for one K tile. -/
def rowScales (o : OpSt) (p : TilePos) (b : Nat) (rows : List Nat) : List Nat :=
  rows.flatMap (fun r => (List.range (tileRows o p)).map (fun j =>
    xScaleIdx o p.head (b * blockRows o.desc + r) (p.kt * subK o.desc.mode + j)))

/-- R183, R184: an element of the streamed operand and its scale; row r of block b, k within the tile. (DEDUCED, log entry 103.) -/
def State.xRaw (s : State) (u : Nat) (o : OpSt) (i : Nat) (p : TilePos) (b r k : Nat) : Nat × Nat :=
  let d := o.desc
  let kg := p.kt * subK d.mode + k
  let fr := b * blockRows d + r
  if o.shape.k ≤ kg ∨ foldedM d o.shape ≤ fr then (0, 0x7F)
  else
    let eb := Num.elemBits d.fmtX
    let t := s.core u
    let bits_ :=
      if d.x.space = 1 then tileBits t (d.x.rowAddr (rowAt o p.head fr)) (kg * eb) eb
      else tileBits t (s.unitOff u d.x (xUnit o i p b) + r * packedBytes d.fmtX (subK d.mode)) (k * eb) eb
    (bits_, s.scaleByte u d.fmtX d.tscaleX d.x (xScaleIdx o p.head fr kg))

/-- R107: the key of a block of copy rows: operation, head, K tile, block. -/
def copyKey (k head kt b : Nat) : Nat := k * 2 ^ 60 + head * 2 ^ 40 + kt * 2 ^ 20 + b

/-- Tile-store offset of a row of the prologue copy (R107). -/
def copyRow (o : OpSt) (head fr : Nat) : Nat := o.desc.proCopy + denseRow o head fr * packedBytes o.desc.fmtX o.desc.planK

/-- R96: the ranges of the tile store that rows of a streamed block are read from; `copy` for the prologue copy. -/
def rowRanges (o : OpSt) (p : TilePos) (b : Nat) (copy : Bool) (rows : List Nat) : List (Nat × Nat) :=
  let d := o.desc
  let eb := Num.elemBits d.fmtX
  let col := p.kt * subK d.mode * eb / 8
  (if copy then rows.map (fun r => (copyRow o p.head (b * blockRows d + r) + col, (tileRows o p * eb + 7) / 8))
   else if d.x.space = 1 then rows.map (fun r => (d.x.rowAddr (rowAt o p.head (b * blockRows d + r)) + col, (tileRows o p * eb + 7) / 8))
   else []) ++ scaleRanges d.fmtX d.x (rowScales o p b rows)

/-- The element that streams: of the prologue copy where there is a prologue (R107), else of the operand. -/
def State.xElem (s : State) (u : Nat) (o : OpSt) (i : Nat) (p : TilePos) (b r k : Nat) : Nat × Nat :=
  let d := o.desc
  let kg := p.kt * subK d.mode + k
  let fr := b * blockRows d + r
  if (chainPtr d.proChain).isNone then s.xRaw u o i p b r k
  else if o.shape.k ≤ kg ∨ foldedM d o.shape ≤ fr then (0, 0x7F)
  else
    let eb := Num.elemBits d.fmtX
    (tileBits (s.core u) (copyRow o p.head fr) (kg * eb) eb, s.scaleByte u d.fmtX d.tscaleX d.x (xScaleIdx o p.head fr kg))

/-! ### A row's pass (R55, R58, R62, R63, R73) -/

/-- A cell's step on the exact path. -/
def exactStep (c : Int) (acc : Num.Fixed) (a b : Num.Val) : Num.Fixed := acc.add (Num.fixedTerm c (Num.mul a b))

/-- A cell's step on the ordered path, or the six of a triple-split product. -/
def orderedStep (fmt : Nat) (acc : Word32) (a b : Num.Val) : Word32 :=
  if fmt = 0xF then Num.stepSplit acc a b else Num.stepO acc (Num.mul a b)

/-- The pass result of one row at one column; ordered values stand in bits [31:0]. -/
def columnPass (d : Desc) (as bs : List Num.Val) : Num.Fixed :=
  if d.exact then (as.zip bs).foldl (fun q p => exactStep d.ceiling q p.1 p.2) Num.Fixed.zero
  else
    let r := (as.zip bs).foldl (fun q p => orderedStep d.fmtX q p.1 p.2) 0#32
    ⟨r.setWidth 64, false, false, false⟩

/-- Table 3-5: first row and first column of sub-array i. -/
def subRow (mode i : Nat) : Nat := if mode = 1 then 256 * (i / 2) else if mode = 2 then 128 * (i / 4) else 0
def subCol (mode i : Nat) : Nat := if mode = 1 then 256 * (i % 2) else if mode = 2 then 128 * (i % 4) else 0

/-- R73, R86: the register of the physical cell at row k and physical column n of sub-array i. -/
def cellKey (mode i k n : Nat) : Nat := (subRow mode i + k) * 512 + subCol mode i + n

/-- R86: does a cell lie in sub-array i? -/
def inSub (mode i key : Nat) : Bool :=
  decide (subRow mode i ≤ key / 512) && decide (key / 512 < subRow mode i + subK mode) && decide (subCol mode i ≤ key % 512) &&
    decide (key % 512 < subCol mode i + subK mode)

/-- R73, R76: an element and its scale go into the register of cell (k, n), or halves of the element into those of its column
pair (R75), the low half in the even column. (DESIGN CHOICE, log entry 104.) -/
def putCell (m : Tbl Nat) (d : Desc) (i k n : Nat) (e : Nat × Nat) : Tbl Nat :=
  let sc := e.2 % 2 ^ 8 * 2 ^ 16
  if isPaired d.fmtW then
    Tbl.set 0 (Tbl.set 0 m (cellKey d.mode i k (2 * n)) (e.1 % 2 ^ 16 + sc)) (cellKey d.mode i k (2 * n + 1)) (e.1 / 2 ^ 16 % 2 ^ 16 + sc)
  else Tbl.set 0 m (cellKey d.mode i k n) (e.1 % 2 ^ 16 + sc)

/-- The element that cell (k, n), or its column pair, holds, and its scale. -/
def cellElem (m : Tbl Nat) (d : Desc) (i k n : Nat) : Nat × Nat :=
  if isPaired d.fmtW then
    let lo := Tbl.get 0 m (cellKey d.mode i k (2 * n))
    (lo % 2 ^ 16 + Tbl.get 0 m (cellKey d.mode i k (2 * n + 1)) % 2 ^ 16 * 2 ^ 16, lo / 2 ^ 16)
  else
    let w := Tbl.get 0 m (cellKey d.mode i k n)
    (w % 2 ^ 16, w / 2 ^ 16)

/-- The value in a cell's front register. -/
def frontVal (t : CoreSt) (d : Desc) (i k n : Nat) : Num.Val :=
  let e := cellElem t.front d i k n
  Num.scaleVal e.2 (Num.decodeElem d.fmtW e.1)

/-- The pass results of one streamed row over the columns of a sub-array. (DESIGN CHOICE, log entry 30.) -/
def State.rowPass (s : State) (u : Nat) (o : OpSt) (i : Nat) (p : TilePos) (b r : Nat) : List Num.Fixed :=
  let d := o.desc
  let ks := List.range (subK d.mode)
  let as := ks.map (fun k => let e := s.xElem u o i p b r k; Num.scaleVal e.2 (Num.decodeElem d.fmtX e.1))
  (List.range (subN d)).map (fun n => columnPass d as (ks.map (fun k => frontVal (s.core u) d i k n)))

/-- R146: the correction of a row of a P landing tile, in the last place of a row's results. -/
def State.rowCorr (s : State) (u : Nat) (o : OpSt) (i : Nat) (p : TilePos) (b r : Nat) : List Num.Fixed :=
  if o.desc.kind = 3 then
    let off := s.unitOff u o.desc.x (xUnit o i p b) + rowsOf o b * packedBytes o.desc.fmtX (subK o.desc.mode) + 4 * r
    [⟨BitVec.ofNat 64 (tileBits (s.core u) off 0 32), false, false, false⟩]
  else []

/-! ### Blocks (R90-R93) -/

def accKey (d : Desc) (i half r n : Nat) : Nat := half * 2 ^ 18 + i * (blockRows d * subN d) + r * subN d + n

def halfOf (t : SubSt) (b : BlockId) : Option Nat :=
  if t.half0 == some b then some 0 else if t.half1 == some b then some 1 else none

def freeHalf (t : SubSt) : Option Nat := if t.half0.isNone then some 0 else if t.half1.isNone then some 1 else none

def setHalf (t : SubSt) (h : Nat) (b : Option BlockId) : SubSt := if h = 0 then { t with half0 := b } else { t with half1 := b }

def isSplit (d : Desc) : Bool := decide (1 < d.holders)

/-- R90: the entries of a block's share of a half at +0 with their bits clear. -/
def clearHalf (t : CoreSt) (d : Desc) (i h : Nat) : CoreSt :=
  let lo := accKey d i h 0 0
  { t with acc := Tbl.keep t.acc (fun k => !inRange k lo (blockRows d * subN d)) }

/-- R93: how many rows of a draining block the epilogue invocation `c` has consumed: a row is consumed when the vector that holds it
enters the engine. -/
def rowsConsumed (d : Desc) (c : Ctx) (unroll : Nat) : Nat :=
  if c.seg = 0 then 0 else if c.seg = 2 then c.rows else min c.rows ((c.iter + 1) * unroll * (512 / subN d))

def unrollOf (t : CoreSt) (ch : Nat) : Nat := 2 ^ bits (Tbl.get 0 t.chain ch).toNat 32 31

/-- R93: rows of half h of sub-array i that are not free: the range from the first one that its draining block still holds. -/
def heldRows (t : CoreSt) (i h : Nat) : Nat × Nat :=
  match (if h = 0 then (t.sub i).drain0 else (t.sub i).drain1) with
  | none => (0, 0)
  | some id =>
    match t.epi.find? (fun e => e.sub == i && e.id == id) with
    | some e => (0, e.rows.length)
    | none =>
      match t.ctx with
      | some c => if c.kind = 0 ∧ c.sub = i ∧ c.id = id then (rowsConsumed (t.op id.op).desc c (unrollOf t c.chain), c.rows) else (0, 0)
      | none => (0, 0)

/-- R93: are rows [a, b) of a half free? -/
def rowsFree (t : CoreSt) (i h a b : Nat) : Bool := let r := heldRows t i h; decide (b ≤ r.1) || decide (r.2 ≤ a) || decide (r.2 ≤ r.1)

def accRow (t : CoreSt) (d : Desc) (i h r : Nat) : List Num.Fixed := Tbl.getList Num.Fixed.zero t.acc (accKey d i h r 0) (subN d)

/-- R58, R63, R147: one entry takes a pass result; `c` is a value row's correction; R66: a holder of an ordered split sends every
pass result unaccumulated, so a pass result replaces what is there. -/
def accumulate (d : Desc) (acc r : Num.Fixed) (c : Word32) : Num.Fixed :=
  if d.exact then acc.add r
  else
    let a := acc.q.setWidth 32
    let x := r.q.setWidth 32
    let v := if d.kind = 3 then Num.fmaW a c x else if d.orderedSplit && isSplit d then x else Num.addW a x
    ⟨v.setWidth 64, false, false, false⟩

/-- R91: byte offset of a sum-area entry. -/
def sumOff (o : OpSt) (i b r n : Nat) : Nat :=
  let d := o.desc
  let planRows := foldedM d d.planShape
  d.sumArea + i * (planRows * subN d * 8) + ((b * blockRows d + r) * subN d + n) * 8

def fixedBits (f : Num.Fixed) : Nat := (if f.nan then 1 else 0) + (if f.ovf then 2 else 0) + (if f.lost then 4 else 0)

/-- R91: write a half's running sums to the sum area; its NaN, overflow and exactness_lost bits, for which the area has no room,
stay beside it. (DESIGN CHOICE, log entry 106.) -/
def rotateOut (t : CoreSt) (o : OpSt) (i h : Nat) (b : BlockId) : CoreSt :=
  (List.range (rowsOf o b.block)).foldl (fun t r => (List.range (subN o.desc)).foldl (fun t n =>
    let f := Tbl.get Num.Fixed.zero t.acc (accKey o.desc i h r n)
    let a := sumOff o i b.block r n
    { tilePut t a (leBytes 8 f.q.toNat) with sumBits := Tbl.set 0 t.sumBits a (fixedBits f) }) t) t

/-- R91: read the running sums of a block back into a half. -/
def rotateIn (t : CoreSt) (o : OpSt) (i h : Nat) (b : BlockId) : CoreSt :=
  (List.range (rowsOf o b.block)).foldl (fun t r => (List.range (subN o.desc)).foldl (fun t n =>
    let a := sumOff o i b.block r n
    let z := Tbl.get 0 t.sumBits a
    let f : Num.Fixed := ⟨BitVec.ofNat 64 (leNat (tileBytes t a 8)), bit z 0, bit z 1, bit z 2⟩
    { t with acc := Tbl.set Num.Fixed.zero t.acc (accKey o.desc i h r n) f }) t) (clearHalf t o.desc i h)

/-! ### Partial sums of a split reduction (R61, R65, R66) -/

/-- Is this core the owner of a split operation's sums? -/
def State.ownsSum (s : State) (u : Nat) (d : Desc) : Bool :=
  !bit d.owner 17 && s.coreKey (bits d.owner 4 0) == u

/-- Passes of the whole reduction and this holder's first one. -/
def passesTotal (d : Desc) : Nat := cdiv d.kTotal (subK d.mode)
def firstPass (d : Desc) : Nat := d.kFirst / subK d.mode

/-- Order of a drained block among the operation's blocks. -/
def blockOrd (o : OpSt) (b : BlockId) : Nat := (b.head * nTiles o.desc o.shape + b.nt) * blocks o.desc o.shape + b.block

/-- The landing tile of part j of a block's sums at the owner: part j is the holder index, or the global pass under ordered
split. (DESIGN CHOICE, log entry 107.) -/
def partTile (o : OpSt) (b : BlockId) (j : Nat) : Nat :=
  o.desc.partialLanding + blockOrd o b * (if o.desc.orderedSplit then passesTotal o.desc else o.desc.holders) + j

/-- Bytes of one entry of a partial: a 64-bit fixed value and its three bits (in the low bits of a second 64-bit word), or an FP32
value. (DESIGN CHOICE, log entry 107.) -/
def partBytes (d : Desc) (f : Num.Fixed) : List Byte :=
  if d.exact then leBytes 8 f.q.toNat ++ leBytes 8 (fixedBits f) else leBytes 4 f.q.toNat

def partSize (d : Desc) : Nat := if d.exact then 16 else 4

def partOf (d : Desc) (b : List Byte) : Num.Fixed :=
  if d.exact then let z := fieldAt b 8 8; ⟨BitVec.ofNat 64 (fieldAt b 0 8), bit z 0, bit z 1, bit z 2⟩
  else ⟨BitVec.ofNat 64 (fieldAt b 0 4), false, false, false⟩

/-- R348: the next tag that no waiting request has. -/
def State.freeTag (s : State) : Nat :=
  (((List.range 4096).map (fun i => (s.fab.nextTag + i) % 4096)).find? (fun n => !s.fab.reqs.any (fun (r : OutReq) => r.tag == n))).getD s.fab.nextTag

/-- R348: a request of this part that waits for its response. -/
def State.newReq (s : State) (r : OutReq) : State :=
  { s with fab := { s.fab with nextTag := (r.tag + 1) % 4096, reqs := s.fab.reqs ++ [r] } }

/-- One message of landing-tile writes to another device: WRITE requests of at most 4,096 bytes (R309, R331, R345).
With no port up they time out (R348). -/
def State.remoteLand (s : State) (dev core tile : Nat) (bytes : List Byte) : State :=
  let parts := chunks 4096 (bytes.length / 4096 + 1) bytes
  (List.range parts.length).foldl (fun (s' : State) i =>
    let b := parts.getD i []
    let pre := leBytes 8 (i * 4096 + tile % 2 ^ 12 * 2 ^ 26 + core % 32 * 2 ^ 38) ++ leBytes 4 b.length ++
      leBytes 1 (1 + (if i = 0 then 2 else 0) + (if i + 1 = parts.length then 4 else 0)) ++ leBytes 1 0 ++ leBytes 2 0
    let tag := s'.freeTag
    let s1 := s'.newReq ⟨tag, 3, 0xFF, [], s'.now⟩
    match s.homePort dev with
    | some p => s1.queueFlits p 1 (msgFlits 3 1 dev s1.deviceId tag (pre ++ b))
    | none => s1) s

/-- Send part j of a block to the owner's landing tile. -/
def State.sendPart (s : State) (u : Nat) (o : OpSt) (b : BlockId) (j : Nat) (rows : List (List Num.Fixed)) : State :=
  let d := o.desc
  let bytes := rows.flatMap (fun r => r.flatMap (partBytes d))
  if bit d.owner 17 then s.remoteLand (bits d.owner 16 5) (bits d.owner 4 0) (partTile o b j) bytes
  else s.landRequest ⟨s.coreKey (bits d.owner 4 0), partTile o b j, 0, bytes, true, true, true, .master (coreMid u)⟩

/-- The rows of part j of a block at the owner. -/
def State.readPart (s : State) (u : Nat) (o : OpSt) (b : BlockId) (j : Nat) : List (List Num.Fixed) :=
  let d := o.desc
  match s.landTile u (partTile o b j) with
  | none => []
  | some c => (List.range (rowsOf o b.block)).map (fun r => (List.range (subN d)).map (fun n =>
      partOf d (s.getTile u (c.off + (r * subN d + n) * partSize d) (partSize d))))

/-- The parts an owner waits for: every pass, or every other holder's sum. -/
def partsNeeded (d : Desc) : List Nat :=
  if d.orderedSplit then List.range (passesTotal d) else (List.range d.holders).filter (· != d.holder)

/-- R65, R66: the owner's sums of a block: the holders in ascending index, or every pass in ascending order from +0. -/
def State.sumParts (s : State) (u : Nat) (o : OpSt) (b : BlockId) (own : List (List Num.Fixed)) : List (List Num.Fixed) :=
  let d := o.desc
  let add := fun (x y : Num.Fixed) => if d.exact then x.add y else ⟨(Num.addW (x.q.setWidth 32) (y.q.setWidth 32)).setWidth 64, false, false, false⟩
  let rowsAdd := fun (x y : List (List Num.Fixed)) => List.zipWith (fun r q => List.zipWith add r q) x y
  if d.orderedSplit then
    let zero := own.map (fun r => r.map (fun _ => Num.Fixed.zero))
    (List.range (passesTotal d)).foldl (fun acc j => rowsAdd acc (s.readPart u o b j)) zero
  else
    let parts := (List.range d.holders).map (fun j => if j = d.holder then own else s.readPart u o b j)
    match parts with
    | [] => own
    | p :: l => l.foldl rowsAdd p

/-! ### The end of an operation (R176, R187, R408) -/

/-- R163, R164: does a descriptor of the act in force take a deferred output's vector? -/
def State.hasConsumer (s : State) (u : Nat) (d : Desc) : Bool :=
  let id := u / 9 * 8 + (s.logicalOf (u / 9) (u % 9)).getD 8
  s.fromLayout false (fun i => (descsOf i s.act).any (fun a => a.2.2.any (takesVector d id a.1)))

/-- Has every sub-array and engine of a core finished with its operations? -/
def opsDone (t : CoreSt) : Bool :=
  !t.ops.isEmpty && t.epi.isEmpty && t.ctx.isNone && t.pctx.isNone && t.defer.isEmpty &&
  (List.range (subCount t.mode)).all (fun i =>
    let b := t.sub i
    decide ((subTiles t i).length ≤ b.pos) && b.flight.isEmpty && b.half0.isNone && b.half1.isNone && b.ready.isEmpty && b.out.isEmpty)

/-- R408: the descriptors of a core's operations are over: status, tag and the descriptor that runs next; nothing_written where
one of them had an empty shape (R177). (DESIGN CHOICE, log entry 108.) -/
def endOps (t : CoreSt) (last : OpSt) (sticky : Nat) : CoreSt :=
  { dropOps t with work := t.work.map (fun w => { w with
      sticky := w.sticky ||| sticky, tag := last.desc.outTag, nothing := w.nothing || t.ops.any (fun o => shapeEmpty o.shape)
      next := if last.desc.nextValid && w.result == 0 then some last.desc.next else none }) }

/-- Set a sticky bit of an operation's status (Table 6-4). -/
def State.opSticky (s : State) (u k bits_ : Nat) : State :=
  s.setCore u (fun t => { t with ops := (List.range t.ops.length).map (fun j =>
    let o := t.op j; if j = k then { o with sticky := o.sticky ||| bits_ } else o) })

end Sys2Proof.Machine
end

