-- ==== Sys2Proof/Machine/OutOps.lean ====
section
/-!
DEFINITION. Where results go: conversion of lanes to stored elements (R46-R50, R129, R130), output rows in tile store,
memory or landing tiles, pads (R186), row statistics and references (R126, R142), the attention finish and triples
(R149-R151).
-/

namespace Sys2Proof.Machine

open Sys2Proof

/-! ### Lanes to elements -/

/-- Elements of lanes (none: inactive), scale bytes per group of 32 (none: no active lane), conv_overflow and
conv_invalid. -/
structure Stored where
  els : List (Option Nat)
  scales : List (Option Nat)
  ovf : Bool
  inv : Bool
  deriving DecidableEq, Repr

/-- Cut a list into pieces of n. -/
def pieces {α : Type} (n : Nat) : Nat → List α → List (List α)
  | 0, _ => []
  | fuel + 1, l => if l.isEmpty then [] else l.take n :: pieces n fuel (l.drop n)

/-- FP32 formats as ST and CVT take them (R129: code 0xF behaves as 0x0). -/
def storeFmt (fmt : Nat) : Nat := if fmt = 0xF then 0 else fmt

/-- The value a per-tensor scale leaves for the element (R45, R129). -/
def unscale (fmt tscale : Nat) (x : Word32) : Num.Val :=
  if fmt = 0xC then Num.mul (Num.val x) (.fin false 1 (127 - (tscale : Int))) else Num.val x

/-- R129, R130: convert lanes to a format. -/
def storeLanes (fmt : Nat) (rm : Num.Rm) (sat : Bool) (tscale : Nat) (lanes : List (Option Word32)) : Stored :=
  if Num.isMx fmt then
    let gs := (pieces 32 (lanes.length / 32 + 1) lanes).map (Num.mxGroup fmt rm)
    ⟨gs.flatMap (fun p => p.1), gs.map (fun p => p.2), false, false⟩
  else
    let c := lanes.map (fun x => x.map (fun v => Num.conv (storeFmt fmt) rm sat (unscale fmt tscale v)))
    ⟨c.map (fun x => x.map (fun r => r.bits)), [], c.any (fun x => match x with | some r => r.ovf | none => false),
      c.any (fun x => match x with | some r => r.inv | none => false)⟩

/-- R130: byte j of a row of elements: written where an active element has a bit in it, inactive elements as zero. -/
def rowByte (els : List (Option Nat)) (eb j : Nat) : Option Byte :=
  let ls := (List.range els.length).filter (fun i => decide (i * eb < 8 * j + 8) && decide (8 * j < i * eb + eb) && (els.getD i none).isSome)
  if ls.isEmpty then none
  else some (BitVec.ofNat 8 (ls.foldl (fun a i =>
    let v := (els.getD i none).getD 0
    a + (if 8 * j ≤ i * eb then v * 2 ^ (i * eb - 8 * j) else v / 2 ^ (8 * j - i * eb)) % 256) 0))

/-- The bytes of a row of elements. -/
def rowBytes (els : List (Option Nat)) (eb : Nat) : List (Option Byte) :=
  (List.range ((els.length * eb + 7) / 8)).map (rowByte els eb)

/-- Runs of bytes that are written, with their offsets. -/
def byteRuns : Nat → List (Option Byte) → List (Nat × List Byte)
  | _, [] => []
  | o, none :: l => byteRuns (o + 1) l
  | o, some b :: l =>
    match byteRuns (o + 1) l with
    | (o', bs) :: t => if o' = o + 1 then (o, b :: bs) :: t else (o, [b]) :: (o', bs) :: t
    | [] => [(o, [b])]

/-! ### Destinations -/

/-- Where a row goes: this core's tile store, device memory, a landing tile of a core. -/
inductive Dest where
  | tile (off : Nat)
  | mem (addr : Nat)
  | land (core idx off : Nat)
  deriving DecidableEq, Repr

/-- An output under way: the state, whether its landing tile has begun, whether a cue or a pause holds a write. -/
structure OutSt where
  s : State
  begun : Bool
  held : Bool

/-- Write one run of bytes. A device write that fails is dropped at its slice (R469). -/
def OutSt.run (x : OutSt) (u : Nat) (d : Dest) (r : Nat × List Byte) : OutSt :=
  match d with
  | .tile off => { x with s := x.s.putTile u (off + r.1) r.2 }
  | .mem a => let w := x.s.unitWrite (coreMid u) (a + r.1) r.2; { x with s := w.1, held := x.held || w.2 == 0xF }
  | .land c i off =>
    { x with s := x.s.landRequest ⟨c, i, off + r.1, r.2, !x.begun, false, true, .master (coreMid u)⟩, begun := true }

def OutSt.runs (x : OutSt) (u : Nat) (d : Dest) (l : List (Nat × List Byte)) : OutSt := l.foldl (fun x r => x.run u d r) x

/-- R130: the scale bytes of stored groups. -/
def OutSt.scaleRuns (x : OutSt) (u : Nat) (y : Operand) (idx : Nat) (sc : List (Option Nat)) : OutSt :=
  x.runs u (if y.scaleSpace = 1 then .tile (y.scaleAddr + idx) else .mem (y.scaleAddr + idx))
    (byteRuns 0 (sc.map (fun z => z.map (BitVec.ofNat 8))))

/-- The output unit of a block (R172): blocks of the N tiles of a sub-array in their order. -/
def yUnit (o : OpSt) (i : Nat) (b : BlockId) : Nat :=
  let nb := blocks o.desc o.shape
  let seq := dealt o.desc o.shape i
  unitNo (yCounts o.desc o.shape) (((seq.findIdx? (· == (b.head, b.nt))).getD 0) * nb + b.block) i

/-- R183: where row r of an output block begins, for elements of a format, from the tile's first column. -/
def State.outDest (s : State) (o : OpSt) (i : Nat) (b : BlockId) (fmt r : Nat) : Dest :=
  let d := o.desc
  let a := d.y.rowAddr (rowAt o b.head (b.block * blockRows d + r)) + b.nt * subN d * Num.elemBits fmt / 8
  if d.y.space = 1 then .tile a
  else if d.y.space = 0 then .mem a
  else .land (s.coreKey d.y.target) (d.y.tile (yUnit o i b)) (r * packedBytes fmt (subN d))

/-- R44: index of the first scale byte of an output row's tile. -/
def yScaleIdx (o : OpSt) (b : BlockId) (r : Nat) : Nat :=
  denseRow o b.head (b.block * blockRows o.desc + r) * mxBlocks o.desc.planN + b.nt * subN o.desc / 32

/-- Store the lanes of one row of an output block. -/
def OutSt.row (x : OutSt) (u : Nat) (o : OpSt) (i : Nat) (b : BlockId) (fmt r : Nat) (st : Stored) : OutSt :=
  let x1 := x.runs u (x.s.outDest o i b fmt r) (byteRuns 0 (rowBytes st.els (Num.elemBits fmt)))
  if st.scales.isEmpty then x1 else x1.scaleRuns u o.desc.y (yScaleIdx o b r) st.scales

/-- R134: the end-of-tile marker of a remote output tile. -/
def OutSt.mark (x : OutSt) (u : Nat) (o : OpSt) (i : Nat) (b : BlockId) : OutSt :=
  if o.desc.y.space = 2 ∧ o.desc.kind ≠ 2 then
    { x with s := x.s.landRequest ⟨x.s.coreKey o.desc.y.target, o.desc.y.tile (yUnit o i b), 0, [], !x.begun, true, true, .master (coreMid u)⟩ }
  else x

/-! ### Pads (R186) -/

/-- Every row (batch item, streamed head, row) of a shape. -/
def shapeRows (d : Desc) (z : Shape) : List (Nat × Nat × Nat) :=
  (List.range z.batch).flatMap (fun b => (List.range (z.heads * d.group)).flatMap (fun q => (List.range z.m).map (fun m => (b, q, m))))

/-- Rows to pad with the first column padded. -/
def padRows (d : Desc) (z : Shape) : List ((Nat × Nat × Nat) × Nat) :=
  if d.predPolicy = 1 then (shapeRows d z).map (fun r => (r, z.n))
  else if d.predPolicy = 2 then
    (shapeRows d d.planShape).map (fun r =>
      (r, if r.1 < z.batch && decide (r.2.1 < z.heads * d.group) && decide (r.2.2 < z.m) then z.n else 0))
  else []

/-- R186: +0 in every padded element of an output in memory or in the tile store; written when the operation ends. A cue or a
pause may hold one of the writes: then the pads are written later. -/
def State.padOutput (s : State) (u : Nat) (o : OpSt) : OutSt :=
  let d := o.desc
  if 2 ≤ d.y.space ∨ d.kind = 2 ∨ d.tripleOut = true ∨ shapeEmpty o.shape = true then ⟨s, false, false⟩
  else
    let eb := Num.elemBits d.fmtOut
    (padRows d o.shape).foldl (fun x r =>
      let b0 := (r.2 * eb + 7) / 8
      let n := (d.planN * eb + 7) / 8 - b0
      let a := d.y.rowAddr r.1 + b0
      x.runs u (if d.y.space = 1 then .tile a else .mem a) [(0, List.replicate n 0)]) (OutSt.mk s false false)

/-- R186: the pads of an output tile that goes to a landing tile, before its marker: the columns from N up to the planned N, and
under policy 0x2 the planned rows past the last one. (DESIGN CHOICE, log entry 112.) -/
def OutSt.padTile (x : OutSt) (u : Nat) (o : OpSt) (i : Nat) (b : BlockId) : OutSt :=
  let d := o.desc
  if d.y.space ≠ 2 ∨ d.predPolicy = 0 ∨ d.kind = 2 ∨ d.tripleOut = true then x
  else
    let eb := Num.elemBits d.fmtOut
    let cols := min (subN d) (d.planN - b.nt * subN d)
    let rows := if d.predPolicy = 2 then min (blockRows d) (foldedM d d.planShape - b.block * blockRows d) else rowsOf o b.block
    (List.range rows).foldl (fun x r =>
      let b0 := ((if r < rowsOf o b.block then min cols (o.shape.n - b.nt * subN d) else 0) * eb + 7) / 8
      let n := (cols * eb + 7) / 8 - b0
      if n = 0 then x else x.runs u (x.s.outDest o i b d.fmtOut r) [(b0, List.replicate n 0)]) x

/-! ### Row statistics and references (R126, R142) -/

/-- Table 4-5: statistics per row of a mode. -/
def statCount (mode : Nat) : Nat := if mode = 0 then 8 else if mode = 1 then 4 else 2

def statKey (i r j : Nat) : Nat := (i * 512 + r) * 8 + j
def refKey (i r : Nat) : Nat := i * 512 + r

/-- Does the planned folded M span more than one block (R126)? -/
def spansBlocks (d : Desc) : Bool := decide (blockRows d < foldedM d d.planShape)

/-- Words per row of a stats area: the statistics, and a pair's reference. -/
def statWords (d : Desc) : Nat := statCount d.mode + (if d.kind = 1 then 0 else 1)

/-- Tile-store offset of a row's words in the stats area. -/
def statOff (d : Desc) (i fr : Nat) : Nat := d.statsArea + (i * foldedM d d.planShape + fr) * statWords d * 4

/-- R126: save a block's statistics and references. -/
def saveStats (t : CoreSt) (d : Desc) (i b rows : Nat) : CoreSt :=
  (List.range rows).foldl (fun (m : CoreSt) r =>
      tilePut m (statOff d i (b * blockRows d + r))
        (((List.range (statCount d.mode)).flatMap (fun j => leBytes 4 (Tbl.get 0 t.stats (statKey i r j)).toNat)) ++
          (if d.kind = 1 then [] else leBytes 4 (Tbl.get 0 t.refs (refKey i r)).toNat))) t

/-- R126: restore them. -/
def restoreStats (t : CoreSt) (d : Desc) (i b rows : Nat) : CoreSt :=
  let word := fun (r j : Nat) => BitVec.ofNat 32 (leNat (tileBytes t (statOff d i (b * blockRows d + r) + 4 * j) 4))
  let t1 := { t with stats := (List.range rows).foldl (fun m r =>
    (List.range (statCount d.mode)).foldl (fun m j => Tbl.set 0 m (statKey i r j) (word r j)) m) t.stats }
  if d.kind = 1 then t1
  else { t1 with refs := (List.range rows).foldl (fun m r => Tbl.set 0 m (refKey i r) (word r (statCount d.mode))) t1.refs }

/-- Statistics at their stat_init values, references at −∞. -/
def initStats (t : CoreSt) (i rows init : Nat) : CoreSt :=
  { t with
    stats := (List.range rows).foldl (fun m r => (List.range 8).foldl (fun m j =>
      Tbl.set 0 m (statKey i r j) (if bit init j then Num.nInf else 0)) m) t.stats
    refs := (List.range rows).foldl (fun m r => Tbl.set 0 m (refKey i r) Num.nInf) t.refs }

/-! ### The finish (R149) and triples (R150, R151) -/

/-- Is a row with running maximum m a NaN row (R144, R152)? -/
def nanRow (m : Word32) : Bool := Num.isNanW m || m == Num.pInf

/-- 2^(a − b) for integers held as FP32; +0 when a is −∞. -/
def pow2Diff (a b : Word32) : Word32 :=
  if a == Num.nInf then 0 else Num.pow2W (Num.floorVal (Num.val a) - Num.floorVal (Num.val b))

/-- Outcome of a row's finish: its lanes, nan_row, empty_row. -/
structure Finished where
  lanes : List Word32
  l : Word32
  nan : Bool
  empty : Bool
  deriving DecidableEq, Repr

/-- f of R149: 2^(R − ceil m). -/
def finishScale (m r : Word32) : Word32 := pow2Diff r (Num.ceilW m)

/-- R149. -/
def finishRow (m l r : Word32) (o : List Word32) : Finished :=
  if nanRow m then ⟨o.map (fun _ => Num.nanW), Num.nanW, true, false⟩
  else if m == Num.nInf then ⟨o.map (fun _ => 0), 0, false, true⟩
  else
    let f := finishScale m r
    let l1 := Num.mulW l f
    let inv := Num.rcpW l1
    ⟨o.map (fun x => Num.mulW (Num.mulW x f) inv), l1, false, false⟩

/-- R151: a triple record of head width d. -/
def tripleBytes (m l : Word32) (o : List Word32) : List Byte :=
  let b := leBytes 4 m.toNat ++ leBytes 4 l.toNat ++ o.flatMap (fun x => leBytes 4 x.toNat)
  b ++ List.replicate ((64 - b.length % 64) % 64) 0

/-- R150: a row as a triple: f-scaled O and l, or the NaN or empty record. -/
def tripleRow (m l r : Word32) (o : List Word32) : List Byte × Bool × Bool :=
  if nanRow m then (tripleBytes Num.nanW Num.nanW (o.map (fun _ => Num.nanW)), true, false)
  else if m == Num.nInf then (tripleBytes Num.nInf 0 (o.map (fun _ => 0)), false, true)
  else
    let f := finishScale m r
    (tripleBytes m (Num.mulW l f) (o.map (fun x => Num.mulW x f)), false, false)

/-- Set the row flags of COR_FUS_FLAGS and of the operation's status. -/
def State.rowFlags (s : State) (u k : Nat) (nan empty : Bool) : State :=
  let s1 := if nan then (s.flag (R.COR_FUS_FLAGS.nan_row u)).opSticky u k 0x40 else s
  if empty then (s1.flag (R.COR_FUS_FLAGS.empty_row u)).opSticky u k 0x80 else s1

/-- Set the conversion flags of COR_VEC_FLAGS and of the operation's status (R132). -/
def State.convFlags (s : State) (u k : Nat) (ovf inv : Bool) : State :=
  let s1 := if ovf then (s.flag (R.COR_VEC_FLAGS.conv_overflow u)).opSticky u k 0x20 else s
  if inv then (s1.flag (R.COR_VEC_FLAGS.conv_invalid u)).opSticky u k 0x10 else s1

/-- R154: the staging format of an operation with strict staging; rounding to it, with RNE and sat = 0. -/
def stage (d : Desc) (x : Word32) : Word32 :=
  if d.strict then
    match Num.fmtOf d.fmtStage with
    | some f => Num.rne (Num.decodeF f (Num.conv d.fmtStage .rne false (Num.val x)).bits)
    | none => x
  else x

/-! ### The end of an operation -/

/-- The operations of a core end when nothing of them is left, after a finish pass where a deferred output has no
consumer (R164). -/
def State.settleOps (s : State) (u : Nat) : State :=
  let t := s.core u
  if opsDone t then
    let last := t.op (t.ops.length - 1)
    let sticky := t.ops.foldl (fun a o => a ||| o.sticky) 0
    if last.desc.deferred && !s.hasConsumer u last.desc && !shapeEmpty last.shape then
      (s.setCore u (fun t => { dropOps t with finish := some { last with sticky := sticky } })).showCore u
    else
      let x := t.ops.foldl (fun (x : OutSt) o => let y := x.s.padOutput u o; { y with held := x.held || y.held }) ⟨s, false, false⟩
      if x.held then s.showCore u else (x.s.setCore u (fun t => endOps t last sticky)).showCore u
  else s.showCore u

end Sys2Proof.Machine
end

