-- ==== Sys2Proof/Machine/PupOps.lean ====
section
/-!
DEFINITION. Runs and claims of the puppeteers as other units see them (R237-R242, R247, R556).
-/

namespace Sys2Proof.Machine

open Sys2Proof

/-! ### Run records (Table 8-7) -/

def runHead (r : List Byte) : Nat := fieldAt r 0 2
def runBody (r : List Byte) : Nat := fieldAt r 2 2
def runTail (r : List Byte) : Nat := fieldAt r 4 2
def runRepeats (r : List Byte) : Nat := fieldAt r 8 3
def runArgStep (r : List Byte) (i : Nat) : Nat := fieldAt r (0x0C + 4 * i) 4
def runBcast (r : List Byte) : Nat := fieldAt r 0x20 8
def runBcastSlots (r : List Byte) : Nat := fieldAt r 0x28 1
def runClaims (r : List Byte) : Nat := fieldAt r 0x2A 2
def runLanding (r : List Byte) : Nat := bits (fieldAt r 0x2C 2) 11 0
def runNoRecords (r : List Byte) : Bool := bit (fieldAt r 0x2C 2) 15
def runTarget (r : List Byte) : Nat := bits (fieldAt r 0x2E 2) 4 0
def runRecUnits (r : List Byte) : Nat := bits (fieldAt r 0x2E 2) 15 10
def runArgBase (r : List Byte) (i : Nat) : Nat := fieldAt r (0x30 + 4 * i) 4

/-- First cue and count of a list word. -/
def listFirst (w : Nat) : Nat := bits w 9 0
def listCount (w : Nat) : Nat := bits w 15 10

/-- Show the run, its claims, the queue and the hold at a gap in PUP_STATUS and PUP_CLAIMS (R242, R248, R489). -/
def State.showPup (s : State) (u : Nat) : State :=
  let t := s.pup u
  let held := match t.run with
    | some r => if r.started then runClaims r.bytes else 0
    | none => 0
  (((((s.setF (R.PUP_STATUS.queued u) t.queue.length).setF (R.PUP_STATUS.run_active u) (if t.run.isSome then 1 else 0)).setF
    (R.PUP_STATUS.cue_active u) (if t.cue.isSome then 1 else 0))).setF (R.PUP_CLAIMS.held u) held).setF (R.PUP_STATUS.halted u)
    (if (s.isSet (R.PUP_CTRL.halt u) || s.paused) && t.cue.isNone then 1 else 0)

/-- R243, R245: accesses held are served in arrival order; the longest hold is kept (1 ns is one SCLK). -/
def State.gapHeld (s : State) (u : Nat) : State :=
  let held := (s.pup u).held
  let longest := held.foldl (fun n h => max n (s.now - h.1)) (s.getF (R.PUP_HOLD_MAX.value u))
  ((s.setPup u (fun t => { t with held := [] })).setF (R.PUP_HOLD_MAX.value u) (min longest 0xFFFFFFFF)).each
    (held.map (fun h => h.2)) (fun s' q => s'.request q)

/-- R556: what the submitter of a run without records sees: its work item, or that of the KV pass, ends. -/
def State.submitterFails (s : State) : Submitter → State
  | .core u => s.failWork u 7
  | .walker _ jid => s.each (List.range 36) (fun s' u =>
      match (s'.core u).work with
      | some w => if w.jid = jid then s'.failWork u 7 else s'
      | none => s')
  | _ => s

/-- R556: the run in progress ends without records; cause 1 bank lost (R247), 2 broadcast fetch failed (R239). -/
def State.runFails (s : State) (u cause a : Nat) : State :=
  match (s.pup u).run with
  | none => s
  | some r =>
    let s1 := s.setPup u (fun t => { t with run := none, cue := none, gap := none })
    let s2 := s1.logE (u / 9) 2 (u % 9) 9 (if cause = 1 then 1 else 2) true a cause 1
    ((s2.submitterFails r.by_).showPup u).gapHeld u

/-- R247: a logical channel of the slice is cut off: later runs are refused until the next layout load, and the run in
progress ends. (DESIGN CHOICE, log entry 17.) -/
def State.pupBankLost (s : State) (u a : Nat) : State :=
  let s1 := (s.setPup u (fun t => { t with lost := true })).flag (R.PUP_FLAGS.bank_lost u)
  if (s1.pup u).run.isSome then s1.runFails u 1 a else s1.logE (u / 9) 2 (u % 9) 9 1 true a 1 1

end Sys2Proof.Machine
end

