-- ==== Sys2Proof/Machine/ThmOps.lean ====
section
/-!
DEFINITION. Power and temperature as other units see them: the cap in force (R483, R485), governors and what they hold
(R488-R491), Sprint windows (R484), the pause (R493-R495), and what steady timing defers to an epoch boundary (R490).
-/

namespace Sys2Proof.Machine

open Sys2Proof

/-- Table 18-6: a thermal event of a chest; index 0x3FF is the chest or the package. -/
def State.logT (s : State) (c idx ev addr detail : Nat) : State := s.logE c 0xB idx ev 3 false addr detail 1

/-! ### Caps and modes (R483, R485) -/

def State.sprintOpen (s : State) : Bool := s.isSet R.PWR_MODE.window

/-- Table 18-3: the package cap of the mode in force. -/
def State.modeCap (s : State) : Nat :=
  let m := s.getF R.PWR_MODE.mode_active
  if m = 2 then 800 else if m = 1 ∧ s.sprintOpen = true then 1400 else 1200

/-- The active package cap: the lower of the host's and the mode's; at most 800 W while PWRBRK_N is asserted. -/
def State.capNow (s : State) : Nat :=
  min (if s.pins.pwrbrkN then 0xFFF else 800) (min (max 400 (s.getF R.PWR_CAP.cap)) s.modeCap)

def State.capActive (s : State) : Nat := s.getF R.PWR_CAP.cap_active

/-- Table 18-3: the top rung of the ladder of R488. -/
def State.topRung (s : State) : Nat :=
  let m := s.getF R.PWR_MODE.mode_active
  if m = 2 then 3 else if m = 1 ∧ s.sprintOpen = true then 0 else 1

/-! ### Governors (R488, R489, R491) -/

/-- The governor of chest c is number c, that of the fallback column of core u is 4 + u. -/
def State.gov (s : State) (k : Nat) : GovSt := Tbl.get GovSt.zero s.thm.gov k

def State.setGov (s : State) (k : Nat) (f : GovSt → GovSt) : State :=
  { s with thm := { s.thm with gov := Tbl.modify GovSt.zero s.thm.gov k f } }

/-- R491: is the column of core u under fallback? -/
def State.columnFalls (s : State) (u : Nat) : Bool := s.getBit (R.CHS_GOV.fallback (u / 9)) (u % 9)

/-- The duty that governs core u: its column's own governor's under fallback, else its chest's. -/
def State.govDutyOf (s : State) (u : Nat) : Nat := (s.gov (if s.columnFalls u then 4 + u else u / 9)).duty

/-- R489: a core receives its governor's duty. Under fallback, and in steady timing while no layout runs its epochs, it is
in force at once; otherwise from the next window (R101) or epoch boundary. -/
def State.giveDuty (s : State) (u : Nat) : State :=
  let s1 := s.setCore u (fun t => { t with govDuty := s.govDutyOf u })
  if s1.steady && (!s1.runsEpochs || s1.columnFalls u || s1.isSet (R.CHS_GOV.chest_fallback (u / 9))) then s1.dutyTakes u else s1

/-- CHS_GOV of chest c, and its duty at every core. -/
def State.showGov (s : State) (c : Nat) : State :=
  let s1 := (s.setF (R.CHS_GOV.duty c) (s.gov c).duty).setF (R.CHS_GOV.aclk c) (s.gov c).aclk
  s1.each (List.range 9) (fun s' p => s'.giveDuty (c * 9 + p))

def allGovs : List Nat := List.range 40

/-- R483: no governor's clock runs above the mode's top rung. -/
def clampGov (top : Nat) (g : GovSt) : GovSt :=
  if g.aclk ≤ top then { g with aclk := top, steps := g.steps.filter (fun c => !c) } else g

/-- R483: the mode, its window or a cap has changed: active cap and top rung. -/
def State.modeTakes (s : State) : State :=
  let s1 := s.setF R.PWR_CAP.cap_active s.capNow
  let s2 := s1.each (allGovs.filter (fun k => decide ((s1.gov k).aclk < s1.topRung))) (fun s' k => s'.setGov k (clampGov s1.topRung))
  s2.each (List.range 4) (fun s' c => s'.showGov c)

/-! ### Sprint windows (R484) -/

def State.openSprint (s : State) : State :=
  let s1 := (s.setF R.PWR_MODE.window 1).incSat R.PWR_SPRINT.windows 1
  { s1 with thm := { s1.thm with sprintAt := s.now } }.modeTakes

/-- A window of ms milliseconds closes; an early close is counted and logged. -/
def State.closeSprint (s : State) (early : Bool) (ms : Nat) : State :=
  let s1 := (s.setF R.PWR_MODE.window 0).setF R.PWR_SPRINT.last_ms (min 255 ms)
  let s2 := if early then (s1.incSat R.PWR_SPRINT.cut 1).logT 0 0x3FF 0x49 (ms % 256) 0 else s1
  { s2 with thm := { s2.thm with sprintPrev := ms, sprintEnd := s.now } }.modeTakes

/-- Length in ms of the window that is open. -/
def State.sprintMs (s : State) : Nat := min 250 ((s.now - s.thm.sprintAt) / 1000000)

/-- R484, Table 18-5: a window whose active cap has fallen below 1,400 W closes early. -/
def State.sprintFits (s : State) : State :=
  let s1 := s.modeTakes
  if s1.sprintOpen && decide (s1.capActive < 1400) then s1.closeSprint true s1.sprintMs else s1

/-- R483: a mode and the steady bit come into force. -/
def State.setMode (s : State) (m : Nat) (st : Bool) : State :=
  ((s.setF R.PWR_MODE.mode_active m).setF R.PWR_MODE.steady_active (if st then 1 else 0)).sprintFits

/-- R490: does a change wait for an epoch boundary? -/
def State.defers (s : State) : Bool := s.steady && s.runsEpochs

/-- R484, R490: an open window closes, in steady timing at the next boundary. -/
def State.endSprint (s : State) (early : Bool) (ms : Nat) : State :=
  if !s.sprintOpen then s
  else if s.defers then { s with thm := { s.thm with windowDue := some (false, early) } }
  else s.closeSprint early ms

/-- R483, R485: PWR_CAP or PWRBRK_N has changed; the cap takes effect at once, a window that no longer fits closes. -/
def State.capChanged (s : State) : State :=
  let s1 := s.modeTakes
  if s1.capActive < 1400 then s1.endSprint true s1.sprintMs else s1

/-! ### What an epoch boundary applies (R313, R490, R101, R390) -/

/-- What no governor ever is: the value of an unlisted key of those that wait. -/
def GovSt.absent : GovSt := ⟨0, 0, [], 0, 0, 0⟩

/-- R488, R489: governor k of chest c is g from now on; a clock step writes event 0x48. -/
def State.govTakes (s : State) (c k : Nat) (g : GovSt) : State :=
  let s1 := (s.setGov k (fun _ => g)).showGov c
  if g.aclk = (s.gov k).aclk then s1 else s1.logT c 0x3FF 0x48 g.aclk g.duty

/-- Governor steps that waited. -/
def State.govsTake (s : State) : State :=
  ({ s with thm := { s.thm with govPend := [] } } : State).each s.thm.govPend (fun s' (p : Nat × GovSt) =>
    s'.govTakes (if p.1 < 4 then p.1 else (p.1 - 4) / 9) p.1 p.2)

/-- Throttle and mode changes and a QOS commit that waited, in the order governor, duty, Sprint window, mode, regulation. -/
def State.deferredTake (s : State) : State :=
  let s1 := s.govsTake
  let s2 := if s1.steady then s1.each (List.range 36) (fun s' u => s'.dutyTakes u) else s1
  let s3 := match s2.thm.windowDue with
    | some w => if w.1 == s2.sprintOpen then s2 else if w.1 then s2.openSprint else s2.closeSprint w.2 s2.sprintMs
    | none => s2
  let s4 := match s3.thm.modeDue with
    | some m => s3.setMode m.1 (m.2 == 1)
    | none => s3
  let s5 := { s4 with thm := { s4.thm with windowDue := none, modeDue := none } }
  match s5.qos.pend with
  | some t => s5.qosApply t
  | none => s5

/-! ### The pause (R493-R495) -/

/-- Held and halted show the pause (R489). -/
def State.showHolds (s : State) : State :=
  (s.each (List.range 36) (fun s' u => s'.showArr u)).each (List.range 36) (fun s' u => s'.showPup u)

/-- Reading of sensor i of chest c, in 0.1 °C. -/
def State.reading (s : State) (c i : Nat) : Int := signed 16 (s.getF (R.CHS_TEMP.reading c i))

def State.sensorBroken (s : State) (c i : Nat) : Bool := s.getBit (R.CHS_BROKEN.broken c (i / 32)) (i % 32)

/-- Has a sensor produced a reading, and is it not broken (R499)? -/
def State.sensorWorks (s : State) (c i : Nat) : Bool := s.getF (R.CHS_TEMP.reading c i) != 0x8000 && !s.sensorBroken c i

/-- The hottest working sensor: chest, index, reading. -/
def State.hottest (s : State) : Option (Nat × Nat × Int) :=
  (List.range 464).foldl (fun (b : Option (Nat × Nat × Int)) k =>
    let c := k / 116
    let i := k % 116
    if s.sensorWorks c i then
      (match b with
       | some x => if x.2.2 < s.reading c i then some (c, i, s.reading c i) else b
       | none => some (c, i, s.reading c i))
    else b) none

/-- The hottest reading as an event's detail names it. -/
def State.hotDetail (s : State) : Nat := match s.hottest with | some x => unsigned 12 x.2.2 | none => 0

/-- R493: a pause is detected by a die sensor (chest * 116 + index) or by COOL_FAULT_N. One pause serves both; the pin names it.
(DEDUCED, log entry 68.) -/
def State.pauseBegins (s : State) (pin : Bool) (sensor : Nat) : State :=
  if s.isSet R.THM_STATUS.paused then s
  else if s.thm.pausing then { s with thm := { s.thm with pauseByPin := s.thm.pauseByPin || pin } }
  else
    { s with thm := { s.thm with pausing := true, pauseByPin := pin, pauseSensor := sensor, pauseAt := s.now } }.showHolds

/-- R493: the drawers enter or leave self-refresh; those of a chest inside a reset stay. -/
def State.drawersSleep (s : State) (b : Bool) : State :=
  s.each ((List.range 36).filter (fun u => s.chestUp (u / 9) && !s.chestInReset (u / 9))) (fun s' u =>
    s'.setSlice u (fun t => { t with selfRefresh := b, owed := if b then t.owed else [] }))

/-- R495: a governor restarts at 500 MHz and duty 32, from where it climbs to the mode's top rung. -/
def restartGov (top : Nat) (g : GovSt) : GovSt :=
  { g with duty := 32, aclk := max top 3, steps := List.replicate (3 - top) true ++ List.replicate 8 false }

/-- R495: the holds of a pause are lifted; requests held are served in arrival order. -/
def State.pauseLifts (s : State) : State :=
  let held := s.thm.held
  let s1 := { s with thm := { s.thm with pausing := false, resumeDue := false, held := [] } }
  let s2 := (s1.setF R.THM_STATUS.paused 0).setF R.THM_STATUS.resuming 0
  let s3 := s2.each allGovs (fun s' k => s'.setGov k (restartGov s2.topRung))
  let s4 := (s3.each (List.range 4) (fun s' c => s'.showGov c)).showHolds
  (((s4.logT 0 0x3FF 0x42 ((s.now - s.thm.pauseAt) / 1000 % 2 ^ 32) 0).raise 7)).each held (fun s' (h : Nat × MemReq) => s'.request h.2)

/-- R495: something that forbids a resume has just happened. -/
def State.stir (s : State) : State := { s with thm := { s.thm with stirAt := s.now } }

/-- R493: COOL_FAULT_N has been low for two samples. -/
def State.coolFault (s : State) : State :=
  ((s.stir.setF R.THM_STATUS.cool_fault 1).flag R.THM_FLAGS.cool_fault).pauseBegins true 0

/-- After a whole-device reset the pins show what they are driven to: PWRBRK_N, COOL_FAULT_N, and THERMTRIP_N, which stays
asserted until power is removed (R485, R493, R497). -/
def State.pinLevels (s : State) : State :=
  let s1 := if s.pins.pwrbrkN then s else s.modeTakes
  let s2 := if s.pins.thermtrip then s1.setF R.THM_STATUS.tripped 1 else s1
  if s.pins.coolFaultN then s2 else s2.coolFault

/-! ### ALERT_N (R497, R545) -/

/-- ALERT_N is driven low. -/
def State.alertLow (s : State) : Bool :=
  s.isSet R.THM_STATUS.paused || s.isSet R.THM_STATUS.degraded || s.isSet R.THM_STATUS.tripped ||
    s.isSet R.THM_STATUS.fallback || s.pins.brownOut

end Sys2Proof.Machine
end

