-- ==== Sys2Proof/Machine/Array.lean ====
section
/-!
DEFINITION. The array commands of chapter 03: fills, slots, completions, rotation, drain, hold, duty, landing writes. An
ACLK is one command: a command whose enabling condition fails is an empty slot or a pause, which changes only the wait
counters (R94).
-/

namespace Sys2Proof.Machine

open Sys2Proof

/-- The core's operations are running and sub-array i is granted (R86). -/
def subGranted (t : CoreSt) (i : Nat) : Bool := !t.ops.isEmpty && decide (i < subCount t.mode)

/-! ### Fill (R82, R84) -/

/-- One row of the tile at `fillPos` goes into the back registers. -/
def fillRowOp (s : State) (u i : Nat) : State :=
  let t := s.core u
  let b := t.sub i
  match (subTiles t i)[b.fillPos]? with
  | none => s
  | some (k, p) =>
    let o := t.op k
    let d := o.desc
    if !subGranted t i || subK d.mode ≤ b.filled || (b.pos < b.fillPos && !(b.pos + 1 == b.fillPos && b.streaming)) then s
    else if !s.unitHere u d.w (wUnit o i p) || !s.landedAll u (fillRanges o p b.filled) then s
    else
      let tr := s.touchScales u d.fmtW d.w (fillScales o p b.filled)
      if tr.2 = 2 then s
      else if tr.2 ≠ 0 then tr.1.failWork u 7
      else
        let s1 := tr.1.setCore u (fun t => { t with back := (List.range (subN d)).foldl (fun m n =>
          putCell m d i b.filled n (tr.1.wElem u o i p b.filled n)) t.back })
        let s2 := s1.setSub u i (fun b => { b with filled := b.filled + 1 })
        if b.filled + 1 = subK d.mode then s2.consumeUnit u d.w (wUnit o i p) else s2

def execArrFillRow (u sub : Nat) (s : State) : Host.Outcome State Fault Refusal := whenUp s (fun s => fillRowOp s u sub)

/-! ### Slots (R74, R78, R83, R93, R96, R101) -/

/-- Slots one row slot of a format takes (R75). -/
def slotCost (fmt : Nat) : Nat := if fmt = 0xF then 3 else 1

/-- R83: the SWAP: back registers to the front, and the next tile may fill. -/
def swapRegs (t : CoreSt) (i : Nat) : CoreSt :=
  let here := inSub t.mode i
  let mv := t.back.filter (fun e => here e.1)
  { t with front := mv.foldl (fun m e => Tbl.set 0 m e.1 e.2) (Tbl.keep t.front (fun k => !here k))
           back := (t.front.filter (fun e => here e.1)).foldl (fun m e => Tbl.set 0 m e.1 e.2) (Tbl.keep t.back (fun k => !here k)) }

/-- Rows of a slot: those from the next row of the block, as many as share one (R74). -/
def slotRows (o : OpSt) (b : SubSt) : List Nat :=
  (List.range (min (pairPacking o.desc.fmtX o.desc.fmtW) (rowsOf o b.block - b.row))).map (fun j => b.row + j)

/-- Is the streamed block there (R96, R107), and are the landing tiles that the slot's rows lie in? `k` is the operation. -/
def State.blockHere (s : State) (u k : Nat) (o : OpSt) (i : Nat) (p : TilePos) (b : Nat) (rows : List Nat) : Bool :=
  let copy := (chainPtr o.desc.proChain).isSome
  (if copy then Tbl.get false (s.core u).proDone (copyKey k p.head p.kt b) else s.unitHere u o.desc.x (xUnit o i p b)) &&
    s.landedAll u (rowRanges o p b copy rows)

/-- R93: may the rows of a slot of block `id` be added: into its half, or, at its first K tile, into one that is free for it? -/
def State.halfReady (s : State) (u i kt : Nat) (id : BlockId) (rows : List Nat) : Bool :=
  let t := s.core u
  let b := t.sub i
  let free := fun h => rowsFree t i h (rows.headD 0) (rows.headD 0 + rows.length)
  match halfOf b id, freeHalf b with
  | some h, _ => free h
  | none, some h => kt == 0 && free h
  | none, none => false

/-- Why a sub-array issues an empty slot: 0 duty or hold, 1 fill, 2 arrival, 3 rotation or drain; where several hold, the first of
them counts. A triple-split row may begin in any slot that is left of a window and goes on into the next one.
(DEDUCED, log entry 28; DESIGN CHOICE, log entry 110.) -/
def State.slotWait (s : State) (u i k : Nat) (p : TilePos) : Option Nat :=
  let t := s.core u
  let b := t.sub i
  let o := t.op k
  if s.isSet (R.COR_ARR_CTRL.hold u) || s.paused || decide (s.getF (R.COR_ARR_DUTY.duty_active u) ≤ Tbl.get 0 t.issued i) then some 0
  else if !b.streaming && !(b.fillPos == b.pos && b.filled == subK o.desc.mode) then some 1
  else if !s.blockHere u k o i p b.block (slotRows o b) then some 2
  else if !s.halfReady u i p.kt ⟨k, p.head, p.nt, b.block⟩ (slotRows o b) then some 3
  else none

def waitReg (u w : Nat) : Fld :=
  if w = 0 then R.COR_ARR_WAIT_DUTY.wait u else if w = 1 then R.COR_ARR_WAIT_FILL.wait u
  else if w = 2 then R.COR_ARR_WAIT_ARRIVE.wait u else R.COR_ARR_WAIT_ACC.wait u

/-- After the slots of a block, the next block, or the next tile. -/
def advanceSub (b : SubSt) (rows nblocks next : Nat) : SubSt :=
  if next < rows then { b with row := next }
  else if b.block + 1 < nblocks then { b with row := 0, block := b.block + 1 }
  else { b with row := 0, block := 0, pos := b.pos + 1, streaming := false }

/-- The effect of a non-empty slot. (DESIGN CHOICE, log entry 30.) -/
def State.issueSlot (s : State) (u i k : Nat) (p : TilePos) : State :=
  let t := s.core u
  let b := t.sub i
  let o := t.op k
  let d := o.desc
  let id : BlockId := ⟨k, p.head, p.nt, b.block⟩
  let s1 := if b.streaming then s
    else (s.setCore u (fun t => swapRegs t i)).setSub u i (fun b => { b with streaming := true, fillPos := b.pos + 1, filled := 0 })
  let s2 := match halfOf b id, freeHalf b with
    | none, some h => (s1.setCore u (fun t => clearHalf t d i h)).setSub u i (fun b => setHalf b h (some id))
    | _, _ => s1
  let rows := slotRows o b
  let n := rows.length
  let tr := s2.touchScales u d.fmtX d.x (rowScales o p b.block rows)
  if tr.2 = 2 then s
  else if tr.2 ≠ 0 then tr.1.failWork u 7
  else
    let s3 := tr.1
    let parts := rows.map (fun r => s3.rowPass u o i p b.block r ++ s3.rowCorr u o i p b.block r)
    let s4 := s3.setSub u i (fun b =>
      advanceSub { b with flight := b.flight ++ [⟨k, p.head, p.nt, p.kt, b.block, b.row, parts⟩] }
        (rowsOf o b.block) (blocks d o.shape) (b.row + n))
    let s5 := if rowsOf o b.block ≤ b.row + n ∧ (chainPtr d.proChain).isNone then s4.consumeUnit u d.x (xUnit o i p b.block) else s4
    let s6 := s5.setCore u (fun t => { t with issued := Tbl.modify 0 t.issued i (· + slotCost d.fmtX), slotAt := s5.now + 1 })
    (s6.addPair (R.COR_ARR_SLOTS_LO u) (slotCost d.fmtX)).showArr u

/-- DEDUCED, log entry 28. -/
def slotIssueOp (s : State) (u i : Nat) : State :=
  let t := s.core u
  match (subTiles t i)[(t.sub i).pos]? with
  | none => s
  | some (k, p) =>
    if !subGranted t i then s
    else match s.slotWait u i k p with
      | some w => s.incSat (waitReg u w) 1
      | none => s.issueSlot u i k p

def execArrSlotIssue (u sub : Nat) (s : State) : Host.Outcome State Fault Refusal := whenUp s (fun s => slotIssueOp s u sub)

/-! ### Completion (R58, R63, R66, R80, R147) -/

/-- The rows of a flight added to a half. -/
def accumRows (t : CoreSt) (d : Desc) (i h first : Nat) (parts : List (List Num.Fixed)) : CoreSt :=
  (List.range parts.length).foldl (fun t j =>
    let row := parts.getD j []
    let c := ((row.getD (subN d) Num.Fixed.zero).q).setWidth 32
    { t with acc := (List.range (subN d)).foldl (fun m n =>
      Tbl.modify Num.Fixed.zero m (accKey d i h (first + j) n) (fun a => accumulate d a (row.getD n Num.Fixed.zero) c)) t.acc }) t

/-- R108: does a finished block of an operation go to the epilogue of this core? -/
def State.toEpilogue (s : State) (u : Nat) (d : Desc) : Bool :=
  (chainPtr d.epiChain).isSome && !(d.kind == 3 && d.tripleOut) && (!isSplit d || s.ownsSum u d)

/-- A completed slot. Two blocks never finish in one ACLK here, since a completion is one ACLK of one sub-array.
(DESIGN CHOICE, log entry 111.) -/
def slotCompleteOp (s : State) (u i : Nat) : State :=
  let t := s.core u
  match (t.sub i).flight with
  | [] => s
  | f :: rest =>
    let o := t.op f.op
    let d := o.desc
    let id : BlockId := ⟨f.op, f.head, f.nt, f.block⟩
    match halfOf (t.sub i) id with
    | none => s
    | some h =>
      let s1 := (s.setCore u (fun t => accumRows t d i h f.first f.parts)).setSub u i (fun b => { b with flight := rest })
      let last := decide (rowsOf o f.block ≤ f.first + f.parts.length)
      let rows := (List.range (rowsOf o f.block)).map (fun r => accRow (s1.core u) d i h r)
      let s2 := if last && isSplit d && d.orderedSplit then s1.sendPart u o id (firstPass d + f.kt) rows else s1
      let s3 := if last && f.kt + 1 == kTiles d o.shape then
          (s2.setSub u i (fun b => { b with ready := b.ready ++ [id] })).setCore u (fun t =>
            if s2.toEpilogue u d then { t with order := t.order ++ [(i, id)] } else t)
        else s2
      s3.showArr u

def execArrSlotComplete (u sub : Nat) (s : State) : Host.Outcome State Fault Refusal := whenUp s (fun s => slotCompleteOp s u sub)

/-! ### Rotation (R91, R92) -/

/-- The block that accumulates now and the one after it. -/
def wantedBlocks (t : CoreSt) (i : Nat) : List BlockId :=
  let b := t.sub i
  let ts := subTiles t i
  let at_ := fun (n blk : Nat) => (ts[n]?).map (fun x => (⟨x.1, x.2.head, x.2.nt, blk⟩ : BlockId))
  let nb := match ts[b.pos]? with | some x => blocks (t.op x.1).desc (t.op x.1).shape | none => 0
  (at_ b.pos b.block).toList ++ (if b.block + 1 < nb then at_ b.pos (b.block + 1) else at_ (b.pos + 1) 0).toList

/-- R91: the half that the rotation port writes out: one whose block belongs to a stream of several blocks, still has passes to
come, does not accumulate now and has no slot in flight; rather one whose block is not the next. -/
def outHalf (t : CoreSt) (i : Nat) : Option (Nat × BlockId) :=
  let b := t.sub i
  let w := wantedBlocks t i
  let ok := fun (id : BlockId) => decide (1 < blocks (t.op id.op).desc (t.op id.op).shape) && !b.ready.contains id && w.head? != some id &&
    !b.flight.any (fun f => (⟨f.op, f.head, f.nt, f.block⟩ : BlockId) == id)
  let cand : List (Nat × BlockId) := (b.half0.toList.map (fun x => (0, x)) ++ b.half1.toList.map (fun y => (1, y))).filter (fun z => ok z.2)
  if b.half0.isNone || b.half1.isNone then none
  else match cand.find? (fun z => !w.contains z.2) with
    | some z => some z
    | none => cand.head?

/-- R91: the block whose running sums the rotation port reads back next: one that accumulates now or next, once the first of the
two has its half or its sums (a block at its first pass takes a free half by itself, R90). -/
def inBlock (t : CoreSt) (i : Nat) : Option BlockId :=
  let b := t.sub i
  let w := wantedBlocks t i
  if w.head?.all (fun id => (halfOf b id).isSome || b.out.contains id) then w.find? (fun id => b.out.contains id) else none

def rotationOp (s : State) (u i : Nat) : State :=
  let t := s.core u
  let s1 := match outHalf t i with
    | some (h, id) => (s.setCore u (fun t => rotateOut t (t.op id.op) i h id)).setSub u i (fun b =>
        { setHalf b h none with out := b.out ++ [id] })
    | none => s
  let t1 := s1.core u
  match inBlock t1 i, freeHalf (t1.sub i) with
  | some id, some h =>
    if rowsFree t1 i h 0 (rowsOf (t1.op id.op) id.block) then
      (s1.setCore u (fun t => rotateIn t (t.op id.op) i h id)).setSub u i (fun b => { setHalf b h (some id) with out := b.out.filter (· != id) })
    else s1
  | _, _ => s1

def execBlockRotation (u sub : Nat) (s : State) : Host.Outcome State Fault Refusal := whenUp s (fun s => rotationOp s u sub)

/-! ### Drain (R59, R60, R93, R149, R150) -/

/-- The FP32 value of an entry at the drain, and whether its conversion overflows (R60). -/
def drainEntry (d : Desc) (f : Num.Fixed) : Word32 × Bool :=
  if d.exact then f.drain d.ceiling else (f.q.setWidth 32, false)

/-- The flags of a drained tile (R59, Table 3-17). -/
def State.drainFlags (s : State) (u i k : Nat) (d : Desc) (rows : List (List Num.Fixed)) : State :=
  if !d.exact then s
  else
    let all := rows.flatMap (fun r => r)
    let ovf := all.any (fun f => f.ovf || (f.drain d.ceiling).2)
    let s1 := if all.any (fun f => f.nan) then (s.flag (R.COR_ARR_FLAGS.nan_seen u)).opSticky u k 8 else s
    let s2 := if all.any (fun f => f.lost) then
      ((s1.flag (R.COR_ARR_FLAGS.exactness_lost u)).putBit (R.COR_ARR_SUBFLAGS.sub_exact u) i true).opSticky u k 4 else s1
    if ovf then ((s2.flag (R.COR_ARR_FLAGS.overflow u)).putBit (R.COR_ARR_SUBFLAGS.sub_overflow u) i true).opSticky u k 2 else s2

/-- The statistics a value row finishes with: m, l and R of its score row, from the stats area or the file. -/
def rowStats (t : CoreSt) (d : Desc) (i b r : Nat) : Word32 × Word32 × Word32 :=
  if spansBlocks d then
    let w := fun j => BitVec.ofNat 32 (leNat (tileBytes t (statOff d i (b * blockRows d + r) + 4 * j) 4))
    (w 0, w 1, w (statCount d.mode))
  else (Tbl.get 0 t.stats (statKey i r 0), Tbl.get 0 t.stats (statKey i r 1), Tbl.get 0 t.refs (refKey i r))

/-- R149: the finished rows of a value block, and the flags they raise. -/
def State.finishRows (s : State) (u i k : Nat) (d : Desc) (b : Nat) (rows : List Vec) : State × List Vec :=
  let t := s.core u
  let fs := (List.range rows.length).map (fun r => let z := rowStats t d i b r; finishRow z.1 z.2.1 z.2.2 (rows.getD r []))
  (s.rowFlags u k (fs.any (fun f => f.nan)) (fs.any (fun f => f.empty)), fs.map (fun f => f.lanes))

/-- R150, R151: where the record of a row goes: the records of a landing tile are contiguous. -/
def State.tripleDest (s : State) (o : OpSt) (i : Nat) (b : BlockId) (r : Nat) : Dest :=
  match s.outDest o i b 0 r with
  | .land c idx _ => .land c idx (r * tripleLen o.shape.n)
  | x => x

/-- R150: the triple records of a value block. -/
def State.drainTriples (s : State) (u i : Nat) (o : OpSt) (id : BlockId) (rows : List Vec) : OutSt :=
  let t := s.core u
  (List.range rows.length).foldl (fun x r =>
    let z := rowStats t o.desc i id.block r
    let rec_ := tripleRow z.1 z.2.1 z.2.2 ((rows.getD r []).take o.shape.n)
    let x1 := x.runs u (x.s.tripleDest o i id r) [(0, rec_.1)]
    { x1 with s := x1.s.rowFlags u id.op rec_.2.1 rec_.2.2 }) (OutSt.mk s false false)

/-- R93: rows through the fixed conversion of the output format, RNE and sat = 1 (the spec names neither).
(DEDUCED, log entry 25.) -/
def State.drainFixed (s : State) (u i : Nat) (o : OpSt) (id : BlockId) (rows : List Vec) : OutSt :=
  let d := o.desc
  (List.range rows.length).foldl (fun x r =>
    let row := rows.getD r []
    let lanes := (List.range (subN d)).map (fun n => if id.nt * subN d + n < o.shape.n then some (row.getD n 0) else none)
    let st := storeLanes d.fmtOut .rne true d.tscaleOut lanes
    let x1 := x.row u o i id d.fmtOut r st
    { x1 with s := x1.s.convFlags u id.op st.ovf st.inv }) (OutSt.mk s false false)

/-- The block leaves its half and its lists; while an epilogue consumes it, its half keeps what that has not taken (R93). -/
def freeBlock (b : SubSt) (id : BlockId) (epilogue : Bool) : SubSt :=
  let keep := if epilogue then some id else none
  let b1 := match halfOf b id with
    | some h => let c := setHalf b h none; if h = 0 then { c with drain0 := keep } else { c with drain1 := keep }
    | none => b
  { b1 with ready := b1.ready.filter (· != id), out := b1.out.filter (· != id) }

/-- R154: strict staging rounds what leaves the drain before a chain sees it; triples and the finish take FP32 (R150, R156). -/
def stageRows (d : Desc) (rows : List Vec) : List Vec := rows.map (fun r => r.map (stage d))

/-- Where the rows of a drained block go: the epilogue's queue, triples, or the fixed conversion. -/
def State.drainTo (s : State) (u i : Nat) (o : OpSt) (id : BlockId) (rows : List Vec) : State × Bool :=
  let d := o.desc
  if d.kind = 3 ∧ d.tripleOut = true then
    let x := s.drainTriples u i o id rows
    ((x.mark u o i id).s, x.held)
  else
    let f := if d.kind = 3 then s.finishRows u i id.op d id.block rows else (s, rows)
    if (chainPtr d.epiChain).isSome then
      (f.1.setCore u (fun t => { t with epi := t.epi ++ [⟨id, i, stageRows d f.2⟩] }), false)
    else
      let x := (f.1.drainFixed u i o id (stageRows d f.2)).padTile u o i id
      ((x.mark u o i id).s, x.held)

/-- R93: drain the oldest block whose last pass is complete. A split operation's holders send their sums; its owner waits for
them. With nothing to drain, an operation whose pads a cue or a pause held ends (R186). -/
def drainOp (s : State) (u i : Nat) : State :=
  let t := s.core u
  match (t.sub i).ready with
  | [] => s.settleOps u
  | id :: _ =>
    let o := t.op id.op
    let d := o.desc
    let own := match halfOf (t.sub i) id with
      | some h => (List.range (rowsOf o id.block)).map (fun r => accRow t d i h r)
      | none => (List.range (rowsOf o id.block)).map (fun _ => List.replicate (subN d) Num.Fixed.zero)
    if isSplit d && !s.ownsSum u d then
      let s1 := if d.orderedSplit then s else s.sendPart u o id d.holder own
      (s1.setSub u i (fun b => freeBlock b id false)).settleOps u
    else
      let tiles := if isSplit d then (partsNeeded d).map (partTile o id) else []
      if !tiles.all (fun x => s.arrived u x) then s
      else
        let sums := if isSplit d then s.sumParts u o id own else own
        let s1 := s.each tiles (fun s' x => s'.setArrived u x false)
        let s2 := s1.drainFlags u i id.op d sums
        let rows := sums.map (fun r => r.map (fun f => (drainEntry d f).1))
        let r := s2.drainTo u i o id rows
        if r.2 then s else (r.1.setSub u i (fun b => freeBlock b id (s.toEpilogue u d))).settleOps u

def execDrain (u sub : Nat) (s : State) : Host.Outcome State Fault Refusal := whenUp s (fun s => drainOp s u sub)

/-! ### Hold and duty (R100, R101) -/

def arrHoldOp (s : State) (u : Nat) (hold : Bool) : State := (s.setF (R.COR_ARR_CTRL.hold u) (if hold then 1 else 0)).showArr u

def execArrHold (u : Nat) (hold : Bool) (s : State) : Host.Outcome State Fault Refusal := whenUp s (fun s => arrHoldOp s u hold)

/-- Table 3-9: 0x41–0x7F are stored as 0x40. In steady timing without epochs the value takes effect at once (R314). -/
def arrDutyOp (s : State) (u v : Nat) : State :=
  let s1 := s.setF (R.COR_ARR_DUTY.duty u) (min (v % 128) 64)
  if s1.steady && !s1.runsEpochs then s1.dutyTakes u else s1

def execArrDuty (u v : Nat) (s : State) : Host.Outcome State Fault Refusal := whenUp s (fun s => arrDutyOp s u v)

/-- R101: a window ends: issue counts restart (slots of a triple-split row beyond the duty stand in the next window), and outside
steady timing a new duty comes into force. (DESIGN CHOICE, log entry 29.) -/
def dutyWindowOp (s : State) (u : Nat) : State :=
  let duty := s.getF (R.COR_ARR_DUTY.duty_active u)
  let s1 := s.setCore u (fun t => { t with
    issued := (List.range 16).foldl (fun m i => Tbl.set 0 m i (Tbl.get 0 t.issued i - duty)) [] })
  if s1.steady then s1.showArr u else s1.dutyTakes u

def execDutyWindow (u : Nat) (s : State) : Host.Outcome State Fault Refusal := whenUp s (fun s => dutyWindowOp s u)

/-- Table 3-10: ns that 64 ACLK take on core u, whose governor names the rung of the clock ladder (R488). -/
def State.aclk64 (s : State) (u : Nat) : Nat :=
  64000 / [720, 600, 550, 500, 450, 400].getD (s.gov (if s.columnFalls u then 4 + u else u / 9)).aclk 400

/-- Table 3-10: `issuing` falls once no non-empty slot has issued in the last 64 ACLK. -/
def State.coresTick (s : State) : State :=
  s.each ((List.range 36).filter (fun u => (s.core u).slotAt != 0 && decide ((s.core u).slotAt + s.aclk64 u ≤ s.now))) (fun s' u =>
    (s'.setCore u (fun t => { t with slotAt := 0 })).showArr u)

/-- R96, R99, R557. -/
def execLandingWrite (w : LandWrite) (s : State) : Host.Outcome State Fault Refusal := whenUp s (fun s => s.landRequest w)

end Sys2Proof.Machine
end

