-- ==== Sys2Proof/Machine/SecOps.lean ====
section
/-!
DEFINITION. The security engine's keys and signatures (R518-R520, R525) and what names this boot (R513).
-/

namespace Sys2Proof.Machine

open Sys2Proof

/-- "DSK-E4-ID". -/
def deviceLabel : List Byte := [0x44, 0x53, 0x4B, 0x2D, 0x45, 0x34, 0x2D, 0x49, 0x44].map (BitVec.ofNat 8)

/-- R519: the seed: the first 32 bytes of SHA-512 over the fused secret and the label. -/
def deviceSeed : BitVec 256 :=
  BitVec.ofNat 256 (Config.sha512 (leBytes 32 Config.deviceSecret.toNat ++ deviceLabel)).toNat

def devicePub : BitVec 256 := Config.ed25519Pub deviceSeed

/-- R518: the bytes a signature covers are the SHA-512 digest of the signed bytes. -/
def digestBytes (body : List Byte) : List Byte := leBytes 64 (Config.sha512 body).toNat

/-- R518: does a signature of a byte string verify under a key? -/
def edOk (key : BitVec 256) (body sig : List Byte) : Bool := Config.ed25519Ok key (digestBytes body) (BitVec.ofNat 512 (leNat sig))

/-- R518: the device key's signature of a byte string. -/
def deviceSign (body : List Byte) : List Byte := leBytes 64 (Config.ed25519Sign deviceSeed (digestBytes body)).toNat

/-- R513: BST_CHALLENGE of this boot. (DESIGN CHOICE, log entry 74.) -/
def State.challenge (s : State) : BitVec 256 := Config.challenge s.sec.challengeNo

/-- Table 20-11: state of owner slot 1-4: 0 empty, 1 registered, 2 revoked, 3 damaged. -/
def State.ownerState (s : State) (slot : Nat) : Nat := Tbl.get 0 s.fuse.ownerState slot

def State.ownerSlots (s : State) : Nat := [1, 2, 3, 4].foldl (fun m k => m + s.ownerState k % 4 * 4 ^ (k - 1)) 0

/-- The key a signer names: the vendor's, or that of a registered owner slot. -/
def State.signerKey (s : State) (signer : Nat) : Option (BitVec 256) :=
  if signer = 0 then some Config.vendorKey
  else if signer ≤ 4 ∧ s.ownerState signer = 1 then some (Tbl.get 0 s.fuse.ownerKey signer)
  else none

/-- R525: power is lost, or the engine resets, while fuses are burnt: the slot reads damaged. -/
def State.cutBurn (s : State) : State :=
  match s.sec.burn with
  | some b => { s with fuse := { s.fuse with ownerState := Tbl.set 0 s.fuse.ownerState b.2.1 3 } }
  | none => s

end Sys2Proof.Machine
end

