-- ==== Sys2Proof/Machine/CtlOps.lean ====
section
/-!
DEFINITION. Pigeonholes (R431-R436), the firmware image and its copy (R425, R426), control cores that hang, restart and
start (R428-R430).
-/

namespace Sys2Proof.Machine

open Sys2Proof

/-! ### Control cores -/

def State.cc (s : State) (i : Nat) : CcSt := Tbl.get CcSt.zero s.ctl i

def State.setCc (s : State) (i : Nat) (f : CcSt → CcSt) : State := { s with ctl := Tbl.modify CcSt.zero s.ctl i f }

/-- Table 15-9 codes of MBX_CC_STATUS.state. -/
def State.ccState (s : State) (i : Nat) : Nat := s.getF (R.MBX_CC_STATUS.state i)

def State.ccRuns (s : State) (i : Nat) : Bool := s.ccState i == 2

/-- R422: chest and cluster cores reach every register block except SEC and HQ. -/
def ccMayReach (i off : Nat) : Bool :=
  i == 0 || !((decide (0x100000 ≤ off) && decide (off < 0x200000)) || (decide (0x300000 ≤ off) && decide (off < 0x400000)))

/-! ### Pigeonholes -/

/-- R431: the control core of an endpoint id. -/
def ccOfEndpoint (e : Nat) : Option Nat :=
  if e = 2 then some 0
  else if 4 ≤ e ∧ e < 8 then some (1 + (e - 4))
  else if 8 ≤ e ∧ e < 20 then some (5 + (e - 8))
  else none

def endpointOfCc (i : Nat) : Nat := if i = 0 then 2 else if i < 5 then 4 + (i - 1) else 8 + (i - 5)

/-- R431: ids 0x03 and 0x14-0x1F are reserved. -/
def endpointReserved (e : Nat) : Bool := e == 3 || decide (0x14 ≤ e)

def State.holeSender (s : State) (i : Nat) : Nat := s.getF (R.MBX_BIND.sender i)
def State.holeReceiver (s : State) (i : Nat) : Nat := s.getF (R.MBX_BIND.receiver i)

/-- R432: an entry in use that is not one of those that act as invalid. -/
def State.holeValid (s : State) (i : Nat) : Bool :=
  decide (i < 64) && s.isSet (R.MBX_BIND.valid i) && s.holeSender i != s.holeReceiver i &&
    !endpointReserved (s.holeSender i) && !endpointReserved (s.holeReceiver i)

/-- Table 16-2: pigeonholes from and to the floor control core open after step 2, the others after step 5.
(DEDUCED, log entry 137.) -/
def State.holeOpen (s : State) (i : Nat) : Bool :=
  s.stepState (if s.holeSender i = 2 ∨ s.holeReceiver i = 2 then 2 else 5) == 2

/-- Table 16-2: entries that name a chest or cluster core can be made after step 4. (DEDUCED, log entry 137.) -/
def State.bindOpen (s : State) (v : Nat) : Bool :=
  s.stepState 4 == 2 || [bits v 12 8, bits v 4 0].all (fun e => match ccOfEndpoint e with | some c => c == 0 | none => true)

def State.holeFull (s : State) (i : Nat) : Bool := s.isSet (R.MBX_P_STATUS.full i)

/-- Full is shown in the window and in MBX_FULL. -/
def State.setHoleFull (s : State) (i : Nat) (b : Bool) : State :=
  (s.setF (R.MBX_P_STATUS.full i) (if b then 1 else 0)).putBit (R.MBX_FULL.bits (i / 32)) (i % 32) b

def State.setPayload (s : State) (i : Nat) (p : List Byte) : State := { s with holes := Tbl.set [] s.holes i p }

/-- A message to the BMC, where an MCTP route exists (R436). (PRESUMED, log entry 97.) -/
def State.toBmc (s : State) (bytes : List Byte) : State := if s.bmcRoute then s.emit (.mctp bytes) else s

/-- R436: tell an endpoint of a pigeonhole becoming full or of an aborted message. -/
def State.pokeEndpoint (s : State) (e : Nat) : State :=
  match ccOfEndpoint e with
  | some c => s.emit (.ccInterrupt c)
  | none => if e = 0 then s.raise 5 else s

/-- R435, Table 15-5: the aborted notice to the sender of pigeonhole i. -/
def State.abortNotice (s : State) (i : Nat) : State :=
  let s1 := s.putBit (R.MBX_ABORTED.bits (i / 32)) (i % 32) true
  if s1.holeSender i = 1 then s1.toBmc [3, BitVec.ofNat 8 i] else s1.pokeEndpoint (s1.holeSender i)

/-- R435: is the receiver of pigeonhole i in reset? (DEDUCED, log entry 96.) -/
def State.receiverInReset (s : State) (i : Nat) : Bool :=
  match ccOfEndpoint (s.holeReceiver i) with
  | some c => !s.ccRuns c
  | none => false

/-- RX word w of a payload. -/
def payloadWord (p : List Byte) (w : Nat) : Nat := fieldAt p (4 * w) 4

/-- R433: a take by the bound receiver: payload to RX, pending count to taken_coll, full and the pending count cleared. -/
def State.takeHole (s : State) (i : Nat) : State :=
  let p := Tbl.get [] s.holes i
  let s1 := s.each (List.range 16) (fun s' w => s'.setW (R.MBX_P_RX i w) (payloadWord p w))
  let s2 := s1.setF (R.MBX_P_STATUS.taken_coll i) (s.getF (R.MBX_P_STATUS.pending_coll i))
  (s2.setF (R.MBX_P_STATUS.pending_coll i) 0).setHoleFull i false

/-- R436: DELIVER to the BMC, and the take on its behalf, for a full pigeonhole that the BMC receives. -/
def State.deliverToBmc (s : State) (i : Nat) : State :=
  if s.bmcRoute && s.holeValid i && s.holeFull i && s.holeReceiver i == 1 then
    (s.emit (.mctp ([2, BitVec.ofNat 8 i, BitVec.ofNat 8 (s.getF (R.MBX_P_STATUS.pending_coll i))] ++ Tbl.get [] s.holes i))).takeHole i
  else s

/-- R433-R436: a payload from the bound sender reaches pigeonhole i. -/
def State.sendHole (s : State) (i : Nat) (payload : List Byte) : State :=
  if s.receiverInReset i then s.abortNotice i
  else if s.holeFull i then
    (((s.setPayload i payload).incSat (R.MBX_P_STATUS.pending_coll i) 1).putBit (R.MBX_COLLISION.bits (i / 32)) (i % 32) true)
  else (((s.setPayload i payload).setHoleFull i true).pokeEndpoint (s.holeReceiver i)).deliverToBmc i

/-- R433: a send or take by an endpoint that the entry does not name. -/
def State.holeRefused (s : State) (i e : Nat) : State := s.logE 0 6 0 0x1F 2 false 0 (i % 64 + e % 32 * 64) 1

/-- R435: a receiver resets: every pigeonhole it receives is emptied and its window's RX words and counts cleared
(R437). -/
def State.receiverReset (s : State) (e : Nat) : State :=
  s.each ((List.range 64).filter (fun i => s.holeValid i && s.holeReceiver i == e)) (fun s' i =>
    let s1 := if s'.holeFull i then s'.abortNotice i else s'
    ((s1.each (List.range 16) (fun s'' w => s''.setW (R.MBX_P_RX i w) 0)).setW (R.MBX_P_STATUS i) 0 |>.setHoleFull i false).setPayload i [])

/-! ### The firmware image (Table 15-3) -/

/-- "DSKFWIE4". -/
def fwMagic : Nat := leNat ([0x44, 0x53, 0x4B, 0x46, 0x57, 0x49, 0x45, 0x34].map (BitVec.ofNat 8))

/-- Role of a control core: 0 floor, 1 chest, 2 cluster. -/
def ccRole (i : Nat) : Nat := if i = 0 then 0 else if i < 5 then 1 else 2

def roleOff (b : List Byte) (r : Nat) : Nat := fieldAt b (0x20 + 16 * r) 4
def roleLen (b : List Byte) (r : Nat) : Nat := fieldAt b (0x24 + 16 * r) 4
def roleEntry (b : List Byte) (r : Nat) : Nat := fieldAt b (0x28 + 16 * r) 4
def roleWatchdog (b : List Byte) (r : Nat) : Nat := fieldAt b (0x2C + 16 * r) 2
def roleDigest (b : List Byte) (r : Nat) : Nat := fieldAt b (0x80 + 64 * r) 64

/-- R425, Table 15-3: the header of an image of the given bytes. -/
def fwHeaderOk (b : List Byte) : Bool :=
  fieldAt b 0 8 == fwMagic && fieldAt b 8 2 == 1 && fieldAt b 0xA 2 == 0 && fieldAt b 0xC 4 == b.length &&
  b.length % 64 == 0 && decide (b.length ≤ 0x800000) && decide (0x200 + 64 ≤ b.length) && fieldAt b 0x18 8 == 0 &&
  fieldAt b 0x50 48 == 0 && fieldAt b 0x140 192 == 0 &&
  (List.range 3).all (fun r => decide (roleLen b r ≤ 0x60000) && decide (roleOff b r + roleLen b r ≤ b.length) &&
    decide (1 ≤ roleWatchdog b r) && decide (roleWatchdog b r ≤ 100) && fieldAt b (0x2E + 16 * r) 2 == 0 &&
    decide (roleEntry b r < 0x80000))

/-- The signature over the SHA-512 digest of every byte before it (R425), under the vendor key (R518). -/
def fwSigOk (b : List Byte) : Bool :=
  edOk Config.vendorKey (b.take (b.length - 64)) (b.drop (b.length - 64))

/-- R426: device address of the copy in the sideboard slice of chest c. -/
def fwCopyAddr (c : Nat) : Nat := mkAddr c 8 0x17F800000

/-- R426: a control core hashes its role section, read from the copy of chest c, and compares it with the digest in the
header: the section and its entry address where they match; a read that fails is a mismatch. -/
def State.sectionRead (s : State) (c i : Nat) : State × Option (List Byte × Nat) :=
  let h := s.ownRead (fwCopyAddr c) 0x200
  match h.2 with
  | none => (h.1, none)
  | some hd =>
    let r := h.1.ownRead (fwCopyAddr c + roleOff hd (ccRole i)) (roleLen hd (ccRole i))
    match r.2 with
    | none => (r.1, none)
    | some b => (r.1, if (Config.sha512 b).toNat = roleDigest hd (ccRole i) then some (b, roleEntry hd (ccRole i)) else none)

def State.sectionOk (s : State) (c i : Nat) : State × Bool := let r := s.sectionRead c i; (r.1, r.2.isSome)

/-- R426: a section in the SRAM of core i, and where it starts. -/
def State.loadCc (s : State) (i : Nat) (x : List Byte × Nat) : State := s.setCc i (fun t => { t with sram := x.1, pc := x.2 })

/-- The watchdog period of core i in ns (R428). -/
def State.watchdogNs (s : State) (i : Nat) : Nat := roleWatchdog s.boot.fw (ccRole i) * 1000000

/-! ### Hung cores (R429, R430) -/

/-- The entry of R429 and R430 and cause 15. -/
def State.ccLog (s : State) (i : Nat) (failed mismatch : Bool) : State :=
  (s.logE (if i = 0 then 0 else if i < 5 then i - 1 else (i - 5) / 3) 6 i 0x17 1 false 0
    ((if failed then 1 else 0) + (if mismatch then 2 else 0)) 1).raise 15

/-- R430: held in reset, state failed, until a whole-device reset. -/
def State.failCc (s : State) (i : Nat) (mismatch : Bool) : State :=
  ((s.setF (R.MBX_CC_STATUS.state i) 4).ccLog i true mismatch).updateService

/-- R429: core i is reset alone; at its fourth restart within 10 s it is failed (R430). -/
def State.restartCc (s : State) (i : Nat) : State :=
  let times := ((s.cc i).restarts.filter (fun t => decide (s.now < t + 10000000000))) ++ [s.now]
  let s1 := (s.incSat (R.MBX_CC_STATUS.restarts i) 1).setCc i (fun t => { t with restarts := times, missed := 0, reqclass := 0 })
  let s2 := ((s1.setF (R.MBX_CC_STATUS.state i) 3).receiverReset (endpointOfCc i)).loseResponses [(Master.cc i).id]
  if 4 ≤ times.length then s2.failCc i false else (s2.ccLog i false false).updateService

/-- A core starts at its entry address, its class, watchdog and heartbeat count afresh (R423, R428). -/
def State.runCc (s : State) (i : Nat) : State :=
  ((s.setF (R.MBX_CC_STATUS.state i) 2).setCc i (fun t => { t with reqclass := 0, missed := 0, kicked := s.now })).updateService

/-- R426, R429: digest check of core i against the copy of chest c, then start or failure. -/
def State.startCc (s : State) (c i : Nat) : State :=
  let r := s.sectionRead c i
  match r.2 with
  | some x => (r.1.loadCc i x).runCc i
  | none => r.1.failCc i true

end Sys2Proof.Machine
end

