-- ==== Sys2Proof/Machine/KvOps.lean ====
section
/-!
DEFINITION. The key-value page manager (chapter 09): page, frame and place arithmetic (R256-R261), its tables in memory
(R262-R265), allocation, copy-on-write, counts, room and eviction, snapshots and pins (R275), and what a layout load
writes (R264, R289). A walker step that can fail is a function of the state that ends with a value or with a KV result.
-/

namespace Sys2Proof.Machine

open Sys2Proof

/-! ### Geometry (R255-R261) -/

/-- Positions of a frame. -/
def kvCap (g : KvGeo) : Nat := g.g * g.f * g.p

/-- Page index fields (R256). -/
def pgChest (p : Nat) : Nat := bits p 21 20
def pgSlice (p : Nat) : Nat := bits p 19 17
def pgSlot (p : Nat) : Nat := bits p 16 7
def pgPuppet (p : Nat) : Nat := bits p 6 0
def mkPage (c n slot j : Nat) : Nat := c * 2 ^ 20 + n * 2 ^ 17 + slot * 2 ^ 7 + j

/-- The stream slice key (chest * 8 + logical slice) a page lies in. -/
def pgKey (p : Nat) : Nat := bits p 21 17

/-- The physical slice of a page. -/
def State.pgSliceKey (s : State) (p : Nat) : Nat := s.sliceKey (pgChest p) (pgSlice p)

/-- R256: is puppet j of a slice dead? -/
def State.puppetDead (s : State) (u j : Nat) : Bool := bit (Tbl.get 0 s.fuse.deadPuppets u).toNat j

/-- R256: does a frame's puppet group hold a dead puppet? -/
def State.groupDead (s : State) (g : KvGeo) (lead : Nat) : Bool :=
  (List.range g.g).any (fun i => s.puppetDead (s.pgSliceKey lead) (pgPuppet lead + i))

/-- Device address of column `col` of the lower (0) or upper (1) bank of puppet j. -/
def State.colAddr (s : State) (lead j hi col : Nat) : Nat := s.bankAddr (s.pgSliceKey lead) (2 * j + hi) col

/-- R258: puppet and cell place of ordinal q of a frame. -/
def placePuppet (g : KvGeo) (lead q : Nat) : Nat := pgPuppet lead + q / 16 % g.g
def placeCell (g : KvGeo) (q : Nat) : Nat := q / 16 / g.g * 16 + q % 16

/-- R258: first key and value column of head e at cell place c, the id column. -/
def keyCol (g : KvGeo) (lead e c : Nat) : Nat := g.keyBase + ((e * g.s + pgSlot lead + c / g.p) * g.p + c % g.p) * g.ks
def valCol (g : KvGeo) (lead e c : Nat) : Nat := g.valBase + ((e * g.s + pgSlot lead + c / g.p) * g.p + c % g.p) * g.vs
def idCol (g : KvGeo) (lead c : Nat) : Nat := g.idBase + ((pgSlot lead + c / g.p) * g.p + c % g.p) / 16
def cntCol (g : KvGeo) (lead : Nat) : Nat := g.cntBase + pgSlot lead / g.f
/-- R261: columns of a side slot per cell, and its score sectors. -/
def sideLen (g : KvGeo) : Nat := (1 + g.h) * g.f * g.p / 16
def sideCol (g : KvGeo) (x : Nat) : Nat := g.sideBase + x * sideLen g

/-- Sector addresses of the key and value of ordinal q. -/
def State.placeSectors (s : State) (g : KvGeo) (lead q : Nat) : List Nat :=
  let j := placePuppet g lead q
  let c := placeCell g q
  (List.range g.h).flatMap (fun e =>
    (List.range g.ks).map (fun i => s.colAddr lead j 0 (keyCol g lead e c + i)) ++
    (List.range g.vs).map (fun i => s.colAddr lead j 1 (valCol g lead e c + i)))

/-- Address of the id word of ordinal q. -/
def State.placeId (s : State) (g : KvGeo) (lead q : Nat) : Nat :=
  let c := placeCell g q
  s.colAddr lead (placePuppet g lead q) 1 (idCol g lead c) + c % g.p % 16 * 4

/-- Address of the 16-bit score of ordinal q in a side slot, in half hf. -/
def State.placeScore (s : State) (g : KvGeo) (lead side q hf : Nat) : Nat :=
  let c := placeCell g q
  s.colAddr lead (placePuppet g lead q) 0 (sideCol g side + c / 16) + hf * 32 + c % 16 * 2

/-- Every sector of a frame: keys, values, ids and counts of its cells. -/
def State.frameSectors (s : State) (g : KvGeo) (lead : Nat) : List Nat :=
  (List.range g.g).flatMap (fun r =>
    let j := pgPuppet lead + r
    (List.range g.h).flatMap (fun e =>
      (List.range (g.f * g.p * g.ks)).map (fun i => s.colAddr lead j 0 (g.keyBase + (e * g.s + pgSlot lead) * g.p * g.ks + i)) ++
      (List.range (g.f * g.p * g.vs)).map (fun i => s.colAddr lead j 1 (g.valBase + (e * g.s + pgSlot lead) * g.p * g.vs + i))) ++
    (List.range (g.f * g.p / 16)).map (fun i => s.colAddr lead j 1 (g.idBase + pgSlot lead * g.p / 16 + i)) ++
    [s.colAddr lead j 0 (cntCol g lead)])

/-- Every sector of a side slot in the group of a frame. -/
def State.sideSectors (s : State) (g : KvGeo) (lead side : Nat) : List Nat :=
  (List.range g.g).flatMap (fun r => (List.range (sideLen g)).map (fun i => s.colAddr lead (pgPuppet lead + r) 0 (sideCol g side + i)))

/-- R259: committed positions in cell r of a frame that holds n. -/
def cellCount (g : KvGeo) (n r : Nat) : Nat :=
  let b := n / 16
  ((List.range b).filter (fun i => i % g.g == r)).length * 16 + (if b % g.g = r then n % 16 else 0)

/-! ### Records and entries (Tables 9-2, 9-5) -/

def recOp (r : List Byte) : Nat := fieldAt r 0 1
def recFlags (r : List Byte) : Nat := fieldAt r 1 1
def recHasTree (r : List Byte) : Bool := bit (recFlags r) 0
def recStep (r : List Byte) : Bool := bit (recFlags r) 1
def recLeaf (r : List Byte) : Nat := fieldAt r 2 1
def recNextN (r : List Byte) : Nat := fieldAt r 3 1
def recSeq (r : List Byte) : Nat := bits (fieldAt r 4 4) 19 0
def recArg (r : List Byte) : Nat := fieldAt r 8 4
/-- R278: the room the operation ends with at least. -/
def recRoom (r : List Byte) : Nat := max 32 (bits (fieldAt r 0x0C 4) 23 0)
def recTreeCore (r : List Byte) : Nat := bits (fieldAt r 0x0C 4) 28 24
def recLanding (r : List Byte) : Nat := bits (fieldAt r 0x10 2) 11 0
def recWindow (r : List Byte) : Nat := if fieldAt r 0x12 2 = 0xFFFF then 256 else fieldAt r 0x12 2
def recBudget (r : List Byte) : Nat := fieldAt r 0x14 2
def recSink (r : List Byte) : Nat := if fieldAt r 0x16 1 = 0xFF then 4 else fieldAt r 0x16 1
def recForkLen (r : List Byte) : Nat := fieldAt r 0x18 4
/-- Parent of node j of a tree of 24 bytes. -/
def treeParent (t : List Byte) (j : Nat) : Nat := bitField t (6 * j) 6
def recTree (r : List Byte) : List Byte := (r.drop 0x1C).take 24

/-- R266: the op is listed and every reserved byte and bit is zero, and `arg` where the op uses none. -/
def recOk (r : List Byte) : Bool :=
  decide (1 ≤ recOp r) && decide (recOp r ≤ 5) && bits (recFlags r) 7 2 == 0 && bits (fieldAt r 4 4) 31 20 == 0 &&
  bits (fieldAt r 0x0C 4) 31 29 == 0 && bits (fieldAt r 0x10 2) 15 12 == 0 && fieldAt r 0x17 1 == 0 &&
  fieldAt r 0x34 12 == 0 && (recOp r == 2 || recOp r == 3 || recArg r == 0) && (recOp r != 2 || decide (recArg r < 2 ^ 20))

/-- A sequence entry. -/
structure SeqEnt where
  state : Nat
  flags : Nat
  treeN : Nat
  sink : Nat
  window : Nat
  budget : Nat
  tail : Nat
  nextId : Nat
  frames : Nat
  step : Nat
  room : Nat
  map : Nat
  evicted : Nat
  tree : List Byte
  deriving DecidableEq, Repr

def SeqEnt.ofBytes (b : List Byte) : SeqEnt :=
  ⟨fieldAt b 0 1, fieldAt b 1 1, fieldAt b 2 1, fieldAt b 3 1, fieldAt b 4 2, fieldAt b 6 2, fieldAt b 8 4, fieldAt b 0xC 4,
   fieldAt b 0x10 2, fieldAt b 0x12 2, fieldAt b 0x14 4, fieldAt b 0x18 8, fieldAt b 0x20 4, (b.drop 0x28).take 24⟩

def SeqEnt.toBytes (e : SeqEnt) : List Byte :=
  leBytes 1 e.state ++ leBytes 1 e.flags ++ leBytes 1 e.treeN ++ leBytes 1 e.sink ++ leBytes 2 e.window ++
  leBytes 2 e.budget ++ leBytes 4 e.tail ++ leBytes 4 e.nextId ++ leBytes 2 e.frames ++ leBytes 2 e.step ++
  leBytes 4 e.room ++ leBytes 8 e.map ++ leBytes 4 e.evicted ++ leBytes 4 0 ++ leBytes 24 (leNat e.tree)

/-- A free entry. -/
def SeqEnt.zero : SeqEnt := ⟨0, 0, 0, 0, 0, 0, 0, 0, 0, 0, 0, 0, 0, []⟩

def seqChest (q : Nat) : Nat := q / 2 ^ 18
def seqAddr (g : KvGeo) (q : Nat) : Nat := mkAddr (seqChest q) 8 (g.seqBase + q % 2 ^ 18 * 64)
def seqMap (g : KvGeo) (q : Nat) : Nat := mkAddr (seqChest q) 8 (g.mapBase + q % 2 ^ 18 * g.mapStride)
def hdrAddr (g : KvGeo) (p : Nat) : Nat := mkAddr (pgChest p) 8 (g.hdrBase + p % 2 ^ 20 * 8)

/-- Table 9-3. -/
structure PageHdr where
  refs : Nat
  pins : Nat
  owner : Nat
  state : Nat
  lead : Bool
  link : Nat
  deriving DecidableEq, Repr

def PageHdr.ofNat (v : Nat) : PageHdr := ⟨bits v 15 0, bits v 31 16, bits v 36 32, bits v 39 37, bit v 40, bits v 62 41⟩

def PageHdr.toNat (h : PageHdr) : Nat :=
  h.refs % 2 ^ 16 + h.pins % 2 ^ 16 * 2 ^ 16 + h.owner % 32 * 2 ^ 32 + h.state % 8 * 2 ^ 37 + (if h.lead then 2 ^ 40 else 0) +
  h.link % 2 ^ 22 * 2 ^ 41

/-! ### Steps that can fail -/

/-- Why a step ends its operation: a KV result, or a storage fault at an address (R288), in the header or a count sector of a
frame where it names one (Table 9-4). -/
inductive KvErr where
  | code (r : Nat)
  | fault (addr : Nat) (frame : Option Nat)
  deriving DecidableEq, Repr

/-- A walker step over the state. -/
abbrev Kv (α : Type) : Type := ExceptT KvErr (StateM State) α

/-- A change of the state. -/
def kvDo (f : State → State) : Kv Unit := modify f

/-- Read bytes of a table. -/
def kvRead (a n : Nat) : Kv (List Byte) := do
  let s ← get
  let r := s.ownRead a n
  set r.1
  match r.2 with
  | some b => pure b
  | none => throw (.fault a none)

/-- Read a pool sector, which is a count sector of the frame named. -/
def kvSectorOf (frame : Option Nat) (a : Nat) : Kv (List Byte) := do
  let s ← get
  let r := s.readSector a
  set r.1
  match r.2 with
  | some b => pure b
  | none => throw (.fault a frame)

/-- Read a pool sector. -/
def kvSector (a : Nat) : Kv (List Byte) := kvSectorOf none a

/-- Write bytes inside pool sectors. -/
def kvPut (a : Nat) (bytes : List Byte) : Kv Unit := do
  let s ← get
  let r := s.writeRange a bytes []
  set r.1
  if r.2 then pure () else throw (.fault a none)

/-- Read a word of a pool sector. -/
def kvWord (a n : Nat) : Kv Nat := do
  let b ← kvSector a
  pure (fieldAt b (a % 64) n)

def kvHdr (g : KvGeo) (p : Nat) : Kv PageHdr := do
  let s ← get
  let r := s.ownRead (hdrAddr g p) 8
  set r.1
  match r.2 with
  | some b =>
    let h := PageHdr.ofNat (leNat b)
    if h.owner = pgKey p then pure h else throw (.fault (hdrAddr g p) (some p))
  | none => throw (.fault (hdrAddr g p) (some p))

def kvSetHdr (g : KvGeo) (p : Nat) (h : PageHdr) : Kv Unit := kvDo (fun s => s.ownWrite (hdrAddr g p) (leBytes 8 h.toNat))

/-- R263: a map entry: lead page and side slot. -/
def kvMap (g : KvGeo) (q f t : Nat) : Kv (Nat × Nat) := do
  let b ← kvRead (seqMap g q + (f * g.streams.length + t) * 8) 8
  pure (bits (leNat b) 21 0, bits (leNat b) 37 22)

def kvSetMap (g : KvGeo) (q f t lead side : Nat) : Kv Unit :=
  kvDo (fun s => s.ownWrite (seqMap g q + (f * g.streams.length + t) * 8) (leBytes 8 (lead + side * 2 ^ 22)))

def kvSeq (g : KvGeo) (q : Nat) : Kv SeqEnt := do
  let b ← kvRead (seqAddr g q) 64
  pure (SeqEnt.ofBytes b)

/-! ### Frames and side slots (R264, R265, R274) -/

def State.freeList (s : State) (k : Nat) : List Nat := Tbl.get [] s.kv.free k

/-- KVM_FREE of a slice. -/
def State.setFreeList (s : State) (g : KvGeo) (k : Nat) (l : List Nat) : State :=
  ({ s with kv := { s.kv with free := Tbl.set [] s.kv.free k l } }).setF (R.KVM_FREE.free_pages k) (l.length * g.g * g.f)

def sideKey (k x : Nat) : Nat := k * 2 ^ 17 + x

/-- Zero every key, value, id and count sector of a frame, or a side slot (fresh check bytes). -/
def State.zeroSectors (s : State) (l : List Nat) : State := s.each l (fun s' a => s'.writeSector a (List.replicate 64 0))

/-- Take the first free frame of a slice, in state st with refs = 1, and zero it. (DESIGN CHOICE, log entry 37.) -/
def kvAlloc (g : KvGeo) (k st : Nat) : Kv Nat := do
  let s ← get
  match s.freeList k with
  | [] => throw (.code 1)
  | p :: rest =>
    kvDo (fun s => (s.setFreeList g k rest).zeroSectors (s.frameSectors g p))
    kvSetHdr g p ⟨1, 0, k, st, true, p⟩
    pure p

/-- Take the lowest free side slot of a slice and zero it in the frame's group (R261). -/
def kvAllocSide (g : KvGeo) (lead : Nat) : Kv Nat := do
  let s ← get
  match (List.range g.x).find? (fun x => !Tbl.get false s.kv.sideUsed (sideKey (pgKey lead) x)) with
  | none => throw (.code 1)
  | some x =>
    kvDo (fun s => ({ s with kv := { s.kv with sideUsed := Tbl.set false s.kv.sideUsed (sideKey (pgKey lead) x) true } }).zeroSectors
      (s.sideSectors g lead x))
    pure x

/-- DESIGN CHOICE, log entry 37. -/
def kvFreeSide (k x : Nat) : Kv Unit :=
  kvDo (fun s => { s with kv := { s.kv with sideUsed := Tbl.set false s.kv.sideUsed (sideKey k x) false } })

/-- R265: a header whose refs and pins both reach 0 returns the frame to its slice's free list, at its head; one whose
refs reach 0 while pinned is retiring. A bad frame stays bad. -/
def kvSettle (g : KvGeo) (p : Nat) (h : PageHdr) : Kv Unit := do
  if h.state = 5 then kvSetHdr g p h
  else if h.refs = 0 ∧ h.pins = 0 then
    let s ← get
    let l := s.freeList (pgKey p)
    kvSetHdr g p { h with state := 0, link := l.headD Config.lastLink.toNat }
    kvDo (fun s => s.setFreeList g (pgKey p) (p :: l))
  else if h.refs = 0 then kvSetHdr g p { h with state := 3 }
  else kvSetHdr g p h

/-- Change a frame's refs. -/
def kvRefs (g : KvGeo) (p : Nat) (up : Bool) : Kv Unit := do
  let h ← kvHdr g p
  kvSettle g p { h with refs := if up then h.refs + 1 else h.refs - 1 }

/-- Change a frame's pins. -/
def kvPins (g : KvGeo) (p : Nat) (up : Bool) : Kv Unit := do
  let h ← kvHdr g p
  kvSettle g p { h with pins := if up then h.pins + 1 else h.pins - 1 }

/-- Copy sectors one to one. -/
def kvCopySectors (l : List (Nat × Nat)) : Kv Unit :=
  l.forM (fun p => do let b ← kvSector p.1; kvDo (fun s => s.writeSector p.2 b))

/-- Copy one position from one frame to a place of another: keys, values, id, both halves of its score. -/
def kvCopyPlace (g : KvGeo) (src srcSide q dst dstSide q' : Nat) : Kv Unit := do
  let s ← get
  kvCopySectors ((s.placeSectors g src q).zip (s.placeSectors g dst q'))
  let id ← kvWord (s.placeId g src q) 4
  kvPut (s.placeId g dst q') (leBytes 4 id)
  [0, 1].forM (fun hf => do
    let v ← kvWord (s.placeScore g src srcSide q hf) 2
    kvPut (s.placeScore g dst dstSide q' hf) (leBytes 2 v))

/-- R260: zero a place: keys, values and id. -/
def kvZeroPlace (g : KvGeo) (lead q : Nat) : Kv Unit := do
  let s ← get
  kvDo (fun s' => s'.zeroSectors (s.placeSectors g lead q))
  kvPut (s.placeId g lead q) (leBytes 4 0)

/-- R259: write the count sectors of a frame that holds n committed positions. -/
def kvCounts (g : KvGeo) (lead n : Nat) : Kv Unit := do
  let s ← get
  kvDo (fun s' => s'.each (List.range g.g) (fun s'' r =>
    s''.writeSector (s.colAddr lead (pgPuppet lead + r) 0 (cntCol g lead)) (leBytes 64 (cellCount g n r))))

/-- R274: the count sectors of a frame go to another. -/
def kvCopyCounts (g : KvGeo) (src dst : Nat) : Kv Unit :=
  (List.range g.g).forM (fun r => do
    let s ← get
    let b ← kvSectorOf (some src) (s.colAddr src (pgPuppet src + r) 0 (cntCol g src))
    kvDo (fun s => s.writeSector (s.colAddr dst (pgPuppet dst + r) 0 (cntCol g dst)) b))

/-- Committed positions in frame ordinal f of a sequence whose tail is `tail`. -/
def frameFill (g : KvGeo) (tail f : Nat) : Nat := min (kvCap g) (tail - f * (kvCap g))

/-- R274: before a write, a frame with refs above 1 is copied for this sequence. Answers the frame and side slot to
write. -/
def kvOwn (g : KvGeo) (q tail f t : Nat) : Kv (Nat × Nat) := do
  let m ← kvMap g q f t
  let h ← kvHdr g m.1
  if h.refs ≤ 1 then pure m
  else
    let p ← kvAlloc g (pgKey m.1) 4
    let x ← kvAllocSide g p
    (List.range (frameFill g tail f)).forM (fun i => kvCopyPlace g m.1 m.2 i p x i)
    kvCopyCounts g m.1 p
    kvSetMap g q f t p x
    kvSetHdr g p ⟨1, 0, pgKey p, 2, true, p⟩
    kvRefs g m.1 false
    kvFreeSide (pgKey m.1) m.2
    pure (p, x)

/-! ### Room, budget and eviction (R278-R281) -/

/-- Frame and place of an ordinal. -/
def ordFrame (g : KvGeo) (o : Nat) : Nat := o / (kvCap g)
def ordPlace (g : KvGeo) (o : Nat) : Nat := o % (kvCap g)

/-- Move or copy ordinal a to ordinal b of a sequence in every stream. -/
def kvMoveOrd (g : KvGeo) (q tail a b : Nat) : Kv Unit :=
  (List.range g.streams.length).forM (fun t => do
    let d ← kvOwn g q tail (ordFrame g b) t
    let m ← kvMap g q (ordFrame g a) t
    kvCopyPlace g m.1 m.2 (ordPlace g a) d.1 d.2 (ordPlace g b))

/-- Zero ordinal a in every stream. -/
def kvZeroOrd (g : KvGeo) (q tail a : Nat) : Kv Unit :=
  (List.range g.streams.length).forM (fun t => do
    let d ← kvOwn g q tail (ordFrame g a) t
    kvZeroPlace g d.1 (ordPlace g a))

/-- Write the count sectors of every frame whose committed positions changed between two tails. -/
def kvRecount (g : KvGeo) (q old new frames : Nat) : Kv Unit :=
  ((List.range frames).filter (fun f => frameFill g old f != frameFill g new f)).forM (fun f =>
    (List.range g.streams.length).forM (fun t => do
      let d ← kvOwn g q (min old new) f t
      kvCounts g d.1 (frameFill g new f)))

/-- Put a candidate into an ascending list by (score, id). -/
def evInsert (x : Nat × Nat × Nat) : List (Nat × Nat × Nat) → List (Nat × Nat × Nat)
  | [] => [x]
  | y :: l => if x.1 < y.1 ∨ (x.1 = y.1 ∧ x.2.1 < y.2.1) then x :: y :: l else y :: evInsert x l

/-- Eligible positions of a sequence as (score, id, ordinal), ascending by score, then id. -/
def kvEligible (g : KvGeo) (q : Nat) (e : SeqEnt) : Kv (List (Nat × Nat × Nat)) :=
  (List.range e.tail).foldlM (fun l o => do
    let s ← get
    let m ← kvMap g q (ordFrame g o) g.scoreStream
    let id ← kvWord (s.placeId g m.1 (ordPlace g o)) 4
    if e.sink ≤ id ∧ id + e.window < e.nextId then
      let sc ← kvWord (s.placeScore g m.1 m.2 (ordPlace g o) (e.step % 2)) 2
      pure (evInsert (sc, id, o) l)
    else pure l) []

/-- R280: evict the k lowest and compact. -/
def kvEvict (g : KvGeo) (q : Nat) (e : SeqEnt) (k : Nat) : Kv SeqEnt := do
  let el ← kvEligible g q e
  if el.length < k then throw (.code 2)
  else
    let gone := (el.take k).map (fun x => x.2.2)
    let cut := e.tail - k
    let holes := (List.range cut).filter gone.contains
    let movers := ((List.range k).map (cut + ·)).filter (fun o => !gone.contains o)
    (movers.zip holes).forM (fun p => kvMoveOrd g q e.tail p.1 p.2)
    ((List.range k).map (cut + ·)).forM (fun o => kvZeroOrd g q e.tail o)
    kvRecount g q e.tail cut e.frames
    kvDo (fun s => s.addPair R.KVM_EVICT_LO k)
    pure { e with tail := cut, evicted := satAdd 0xFFFFFFFF e.evicted k }

/-- Free pages of a slice. -/
def State.freePages (s : State) (g : KvGeo) (k : Nat) : Nat := (s.freeList k).length * g.g * g.f

/-- R279: a frame that a CREATE or FORK takes must leave its slice at the watermark. -/
def kvAdmit (g : KvGeo) (k : Nat) (adm : Bool) : Kv Unit := do
  let s ← get
  if adm && decide (s.freePages g k < g.watermark + g.g * g.f) then throw (.code 1)

/-- A new frame for stream t at frame ordinal f, refs = 1, state live, with its side slot; `adm`: for a CREATE or FORK. -/
def kvNewFrame (g : KvGeo) (q f t : Nat) (adm : Bool) : Kv (Nat × Nat) := do
  kvAdmit g (g.streams.getD t 0) adm
  let p ← kvAlloc g (g.streams.getD t 0) 2
  let x ← kvAllocSide g p
  kvSetMap g q f t p x
  pure (p, x)

/-- One frame per stream at frame ordinal f. -/
def kvFrameSet (g : KvGeo) (q f : Nat) (adm : Bool) : Kv Unit :=
  (List.range g.streams.length).forM (fun t => do let _ ← kvNewFrame g q f t adm)

/-- R278: meet the room: evict beyond the budget (level 4) or refuse (level 3), then allocate frame sets. -/
def kvRoom (g : KvGeo) (q : Nat) (e : SeqEnt) (want : Nat) (adm : Bool) : Kv SeqEnt := do
  let s ← get
  let room := max e.room want
  let capacity := e.budget * (kvCap g)
  let e1 ← if capacity < e.tail + room then
      (if s.level4 then kvEvict g q e (e.tail + room - capacity) else throw (.code 2))
    else pure e
  let need := cdiv (e1.tail + room) (kvCap g)
  ((List.range need).filter (fun f => decide (e1.frames ≤ f))).forM (fun f => kvFrameSet g q f adm)
  pure { e1 with room := room, frames := max e1.frames need }

/-! ### Trees (R282-R285) -/

/-- Depth of node j, `fuel` steps at most. -/
def treeDepth (t : List Byte) : Nat → Nat → Nat
  | 0, _ => 0
  | fuel + 1, j => if j = 0 then 0 else treeDepth t fuel (treeParent t j) + 1

/-- Is c an ancestor of a, or a itself? -/
def treeAnc (t : List Byte) (c : Nat) : Nat → Nat → Bool
  | 0, _ => false
  | fuel + 1, a => if a = c then true else if a = 0 then false else treeAnc t c fuel (treeParent t a)

/-- R285: a tree of n nodes. -/
def treeOk (t : List Byte) (n : Nat) : Bool :=
  decide (1 ≤ n) && decide (n ≤ 32) && treeParent t 0 == 0x3F &&
  (List.range n).all (fun j => j == 0 || (treeParent t j != 0x3F && decide (treeParent t j < j))) &&
  (List.range n).all (fun j => decide (treeDepth t 32 j ≤ 15))

/-- The nodes from the root to v. -/
def treePath (t : List Byte) : Nat → Nat → List Nat
  | 0, _ => []
  | fuel + 1, v => if v = 0 then [0] else treePath t fuel (treeParent t v) ++ [v]

/-- R283: the bias matrix and the ids. -/
def treeOutput (t : List Byte) (n nextId : Nat) : List Byte :=
  (List.range 32).flatMap (fun a => (List.range 32).flatMap (fun c =>
    leBytes 4 (if c ≤ a && decide (c < n) && treeAnc t c 33 a then 0 else 0xFF800000))) ++
  (List.range 32).flatMap (fun j => leBytes 4 (if j < n then (nextId + treeDepth t 32 j) % 2 ^ 32 else 0xFFFFFFFF))

/-- Table 13-3: the master id of the walker of chest c. -/
def walkerMid (c : Nat) : Nat := c * 64 + 0x16

/-- R282, R283, R285: install the record's next tree, or none; its output goes out at the completion point. -/
def kvTree (r : List Byte) (e : SeqEnt) : Kv SeqEnt :=
  if recHasTree r then
    if treeOk (recTree r) (recNextN r) && decide (recNextN r ≤ e.room) then
      pure { e with treeN := recNextN r, tree := recTree r }
    else throw (.code 4)
  else pure { e with treeN := 0, tree := [] }

/-- R283: the tree output reaches the tree target core's landing tile. -/
def State.sendTree (s : State) (r : List Byte) (nextId : Nat) : State :=
  if recHasTree r then
    s.landRequest ⟨s.coreKey (recTreeCore r), recLanding r, 0, treeOutput (recTree r) (recNextN r) nextId, true, true, true,
      .master (walkerMid (seqChest (recSeq r)))⟩
  else s

/-! ### The operations (R271-R273, R284) -/

/-- R271. -/
def kvCreateM (g : KvGeo) (r : List Byte) : Kv SeqEnt := do
  let q := recSeq r
  let e0 ← kvSeq g q
  if e0.state ≠ 0 then throw (.code 3)
  let budget := if recBudget r = 0 then g.budget else recBudget r
  if g.mapStride < budget * g.streams.length * 8 then throw (.code 4)
  if budget * (kvCap g) < recSink r + recWindow r + recRoom r then throw (.code 4)
  let e1 ← kvRoom g q { SeqEnt.zero with
    state := 1, sink := recSink r, window := recWindow r, budget := budget, map := seqMap g q } (recRoom r) true
  kvTree r e1

/-- R272 step 1: share frame ordinal f of the source. -/
def kvShare (g : KvGeo) (q src f : Nat) : Kv Unit :=
  (List.range g.streams.length).forM (fun t => do
    let m ← kvMap g src f t
    kvRefs g m.1 true
    let x ← kvAllocSide g m.1
    let s ← get
    kvCopySectors ((s.sideSectors g m.1 m.2).zip (s.sideSectors g m.1 x))
    kvSetMap g q f t m.1 x)

/-- R272 step 2: copy the first n ordinals of frame ordinal f of the source. -/
def kvCopyPart (g : KvGeo) (q src f n : Nat) : Kv Unit :=
  (List.range g.streams.length).forM (fun t => do
    let m ← kvMap g src f t
    let d ← kvNewFrame g q f t true
    (List.range n).forM (fun i => kvCopyPlace g m.1 m.2 i d.1 d.2 i)
    kvCounts g d.1 n)

/-- R272. -/
def kvForkM (g : KvGeo) (r : List Byte) : Kv SeqEnt := do
  let q := recSeq r
  let e0 ← kvSeq g q
  let src ← kvSeq g (recArg r)
  let l := recForkLen r
  if e0.state ≠ 0 then throw (.code 3)
  if src.state ≠ 1 then throw (.code 3)
  if src.tail < l then throw (.code 4)
  if l < src.tail ∧ src.evicted ≠ 0 then throw (.code 4)
  let budget := if recBudget r = 0 then src.budget else recBudget r
  if g.mapStride < budget * g.streams.length * 8 then throw (.code 4)
  if budget < cdiv l (kvCap g) then throw (.code 2)
  (List.range (l / (kvCap g))).forM (fun f => kvShare g q (recArg r) f)
  if l % (kvCap g) ≠ 0 then kvCopyPart g q (recArg r) (l / (kvCap g)) (l % (kvCap g))
  let e1 ← kvRoom g q { SeqEnt.zero with
    state := 1, sink := recSink r, window := recWindow r, budget := budget, map := seqMap g q, tail := l,
    nextId := if l = src.tail then src.nextId else l, step := src.step, evicted := src.evicted,
    frames := cdiv l (kvCap g) } (recRoom r) true
  kvTree r e1

/-- The step flag of a record (R261). -/
def kvStep (r : List Byte) (e : SeqEnt) : SeqEnt := if recStep r then { e with step := (e.step + 1) % 2 ^ 16 } else e

/-- Write ids of ordinals tail to tail + n - 1 in every stream. -/
def kvIds (g : KvGeo) (q : Nat) (e : SeqEnt) (n : Nat) : Kv Unit :=
  (List.range n).forM (fun i => (List.range g.streams.length).forM (fun t => do
    let d ← kvOwn g q e.tail (ordFrame g (e.tail + i)) t
    let s ← get
    kvPut (s.placeId g d.1 (ordPlace g (e.tail + i))) (leBytes 4 ((e.nextId + i) % 2 ^ 32))))

/-- Commit n positions: ids, counts, tail, next_id, room. -/
def kvCommit (g : KvGeo) (q : Nat) (e : SeqEnt) (n : Nat) : Kv SeqEnt := do
  kvIds g q e n
  kvRecount g q e.tail (e.tail + n) e.frames
  pure { e with tail := e.tail + n, nextId := (e.nextId + n) % 2 ^ 32, room := e.room - n }

/-- R273: APPEND. -/
def kvAppendM (g : KvGeo) (r : List Byte) : Kv SeqEnt := do
  let q := recSeq r
  let e ← kvSeq g q
  if e.state ≠ 1 then throw (.code 3)
  if e.treeN ≠ 0 then throw (.code 4)
  if e.room < recArg r then throw (.code 4)
  let e1 ← kvCommit g q e (recArg r)
  let e2 ← kvRoom g q e1 (recRoom r) false
  kvTree r (kvStep r e2)

/-- R284. -/
def kvVerifyM (g : KvGeo) (r : List Byte) : Kv SeqEnt := do
  let q := recSeq r
  let e ← kvSeq g q
  if e.state ≠ 1 then throw (.code 3)
  if recLeaf r ≠ 0xFF ∧ e.treeN ≤ recLeaf r then throw (.code 4)
  let path := if recLeaf r = 0xFF then [] else treePath e.tree 32 (recLeaf r)
  let a := path.length
  ((List.range a).filter (fun i => path.getD i 0 != i)).forM (fun i => kvMoveOrd g q e.tail (e.tail + path.getD i 0) (e.tail + i))
  let e1 ← kvCommit g q e a
  (List.range (e.treeN - a)).forM (fun i => kvZeroOrd g q e1.tail (e1.tail + i))
  let e2 ← kvRoom g q e1 (recRoom r) false
  kvTree r (kvStep r e2)

/-- The header a load writes for a page that leads no frame (R264). -/
def restHdr (p lead : Nat) : PageHdr := ⟨0, 0, pgKey p, 0, false, lead⟩

/-- Lead page of the frame of a page. -/
def leadOf (g : KvGeo) (p : Nat) : Nat :=
  mkPage (pgChest p) (pgSlice p) (pgSlot p / g.f * g.f) (pgPuppet p / g.g * g.g)

/-- The eight headers of a sector, from those of its pages. -/
def State.putHdrs (s : State) (g : KvGeo) (p : Nat) (hdr : Nat → PageHdr) : State :=
  s.ownWrite (hdrAddr g (p / 8 * 8)) ((List.range 8).flatMap (fun i => leBytes 8 (hdr (p / 8 * 8 + i)).toNat))

/-- Table 9-4, R288: a frame is set bad. A header sector that cannot be read is written whole: no other frame's header lies in
it. (DEDUCED, log entry 125.) -/
def State.kvSetBad (s : State) (g : KvGeo) (p : Nat) : State :=
  let r := s.ownRead (hdrAddr g p) 8
  match r.2 with
  | some b => r.1.ownWrite (hdrAddr g p) (leBytes 8 ({ PageHdr.ofNat (leNat b) with state := 5 }).toNat)
  | none => r.1.putHdrs g p (fun x => if x = p then ⟨0, 0, pgKey p, 5, true, p⟩ else restHdr x (leadOf g x))

/-- R288: what a storage fault of a frame's header or count sector leaves in its header. -/
def State.kvMarkBad (s : State) (g : KvGeo) (frame : Option Nat) : State := frame.elim s (fun p => s.kvSetBad g p)

/-- R288: a map entry of a faulted sequence that a FREE cannot read is logged. -/
def kvLogRest (g : KvGeo) (q : Nat) : KvErr → Kv Unit
  | .fault a fr => kvDo (fun s => (s.kvMarkBad g fr).logE (seqChest q) 8 0 0x20 1 true a q 1)
  | .code _ => pure ()

/-- R273: FREE. A faulted sequence decrements every readable entry and logs the rest (R288). A next tree of the record is
checked as any other (R285). (DEDUCED, log entry 124.) -/
def kvFreeM (g : KvGeo) (r : List Byte) : Kv SeqEnt := do
  let q := recSeq r
  let e ← kvSeq g q
  if e.state = 0 then throw (.code 3)
  let _ ← kvTree r e
  (List.range e.frames).forM (fun f => (List.range g.streams.length).forM (fun t => do
    let one : Kv Unit := do
      let m ← kvMap g q f t
      kvRefs g m.1 false
      kvFreeSide (pgKey m.1) m.2
    if e.state = 2 then tryCatch one (kvLogRest g q) else one))
  pure SeqEnt.zero

/-! ### How an operation ends (R269, R270, R288) -/

def kvSlices (g : KvGeo) : List Nat := g.streams.foldl (fun l k => if l.contains k then l else l ++ [k]) []

/-- Does some slice fall below the watermark? -/
def belowWater (g : KvGeo) (s t : State) : Bool :=
  (kvSlices g).any (fun k => decide (g.watermark ≤ s.freePages g k) && decide (t.freePages g k < g.watermark))

/-- The entry's operation is over: its tray entry finishes with the KV result and the tail. (DEDUCED, log entry 38.) -/
def State.kvEnd (s : State) (jid code tail : Nat) : State :=
  let s1 := s.addPair R.KVM_OPS_LO 1
  let s2 := if code = 1 then s1.flagC R.KVM_FLAGS.pool_exhausted 16 else s1
  ({ s2 with kv := { s2.kv with ops := s2.kv.ops.filter (fun o => o.jid != jid) } }).finishEntry jid
    (statusWord (if code = 0 then 0 else 9) false 0) 0 code tail

/-- R269: what a refused operation puts back: the tables, the pool, the lists and their counts. What its reads logged and
counted stays. -/
def State.kvRestore (before after : State) : State :=
  let s1 := { after with mem := before.mem, bad := before.bad, lines := before.lines, kv := before.kv }
  (s1.each (List.range 32) (fun s i => s.setW (R.KVM_FREE i) (before.getW (R.KVM_FREE i)))).setPair R.KVM_EVICT_LO
    (before.getPair R.KVM_EVICT_LO)

/-- The tail an entry holds, 0 where it cannot be read. -/
def State.kvTail (s : State) (g : KvGeo) (q : Nat) : State × Nat :=
  let r := s.ownRead (seqAddr g q) 64
  (r.1, match r.2 with | some b => (SeqEnt.ofBytes b).tail | none => 0)

/-- A refused operation: nothing changes but the result (R269). -/
def State.kvRefuse (s : State) (g : KvGeo) (o : KvOp) (code : Nat) : State :=
  let r := s.kvTail g (recSeq o.rec_)
  r.1.kvEnd o.jid code r.2

/-- R288, Table 9-6: an operation ends with 0x5: flagged, its sequence shown. -/
def State.kvFlagFault (s : State) (q : Nat) : State :=
  (s.flagC R.KVM_FLAGS.storage_fault 16).setF R.KVM_FAULT_SEQ.seq q

/-- R288: a storage fault at address a, of a frame where it names one: the sequence becomes faulted. An entry that cannot be
read is written whole, with nothing but its state. -/
def State.kvFault (s : State) (g : KvGeo) (o : KvOp) (a : Nat) (frame : Option Nat) : State :=
  let q := recSeq o.rec_
  let r := s.ownRead (seqAddr g q) 64
  let e := match r.2 with | some b => SeqEnt.ofBytes b | none => SeqEnt.zero
  let s1 := (r.1.kvMarkBad g frame).ownWrite (seqAddr g q) ({ e with state := 2 }).toBytes
  ((s1.kvFlagFault q).logE (seqChest q) 8 0 0x20 1 true a q 1).kvEnd o.jid 5 e.tail

/-- The walk of an operation by its op code. -/
def kvBody (g : KvGeo) (r : List Byte) : Kv SeqEnt :=
  match recOp r with
  | 1 => kvCreateM g r
  | 2 => kvForkM g r
  | 3 => kvAppendM g r
  | 4 => kvVerifyM g r
  | 5 => kvFreeM g r
  | _ => throw (.code 4)

/-- R269-R273, R284, R288: one operation, from its checks to its completion point. (DESIGN CHOICE, log entry 36.) -/
def State.kvRun (s : State) (g : KvGeo) (o : KvOp) : State :=
  let q := recSeq o.rec_
  if !recOk o.rec_ then s.kvRefuse g o 4
  else if !s.chestUsable (seqChest q) then (s.kvFlagFault q).kvEnd o.jid 5 0
  else
    let r := (kvBody g o.rec_).run s
    match r.1 with
    | .error (.code c) => (s.kvRestore r.2).kvRefuse g o c
    | .error (.fault a fr) => (s.kvRestore r.2).kvFault g o a fr
    | .ok e =>
      let s1 := r.2.ownWrite (seqAddr g q) e.toBytes
      let s2 := if belowWater g s s1 then s1.flag R.KVM_FLAGS.below_watermark else s1
      (s2.sendTree o.rec_ e.nextId).kvEnd o.jid 0 e.tail

/-! ### Order, holds (R267, R268, R287) -/

/-- The sequences an operation takes part in: its own, and the source of a FORK. -/
def recSeqs (r : List Byte) : List Nat := if recOp r = 2 then [recSeq r, bits (recArg r) 19 0] else [recSeq r]

/-- R268: does the operation meet a pass on its sequence, or an earlier operation on it? -/
def State.kvBlocked (s : State) (o : KvOp) : Bool :=
  let meets := fun (l : List Nat) => l.any (fun q => (recSeqs o.rec_).contains q)
  s.kv.passes.any (fun p => meets [p.seq]) || (s.kv.ops.takeWhile (fun x => x.jid != o.jid)).any (fun x => meets (recSeqs x.rec_))

/-- R287: does an operation touch chest c? -/
def State.kvTouches (s : State) (o : KvOp) (c : Nat) : Bool :=
  (recSeqs o.rec_).any (fun q => seqChest q == c) || (recHasTree o.rec_ && recTreeCore o.rec_ / 8 == c) ||
    (match s.kvGeo with | some g => g.streams.any (fun k => k / 8 == c) | none => false)

/-- Is an operation held by a partition reset? (DESIGN CHOICE, log entry 36.) -/
def State.kvHeld (s : State) (o : KvOp) : Bool := (List.range 4).any (fun c => s.chestInReset c && s.kvTouches o c)

def walkerOf (o : KvOp) : Nat := seqChest (recSeq o.rec_)

/-- KVM_STATUS.held: walkers that hold an operation, and every idle walker under KVM_CTRL.hold. -/
def State.showKvm (s : State) : State :=
  s.setF R.KVM_STATUS.held ((List.range 4).foldl (fun m c =>
    if s.isSet R.KVM_CTRL.hold || s.kv.ops.any (fun o => walkerOf o == c && s.kvHeld o) then m + 2 ^ c else m) 0)

/-- Table 8-8: pool accesses are served at cue gaps, and none during a pause. -/
def State.kvGap (s : State) (g : KvGeo) : Bool :=
  !s.paused && g.streams.all (fun k => (s.pup (s.sliceKey (k / 8) (k % 8))).cue.isNone)

/-! ### Passes (R275) -/

/-- Snapshot and pins: the map's entries, each frame pinned. -/
def kvPinM (g : KvGeo) (q : Nat) : Kv (List Nat) := do
  let e ← kvSeq g q
  let ft := (List.range e.frames).flatMap (fun f => (List.range g.streams.length).map (fun t => (f, t)))
  let m ← ft.mapM (fun p => do let x ← kvMap g q p.1 p.2; pure (x.1 + x.2 * 2 ^ 22))
  m.forM (fun x => kvPins g (x % 2 ^ 22) true)
  pure m

/-- The pass flag of a sequence entry. -/
def State.passFlag (s : State) (g : KvGeo) (q : Nat) (b : Bool) : State :=
  s.ownWrite (seqAddr g q + 1) (leBytes 1 (if b then 1 else 0))

/-- R275: the pass of a journal entry begins; false where its snapshot could not be read. -/
def State.pinPass (s : State) (jid q : Nat) : State × Bool :=
  match s.kvGeo with
  | none => (s, true)
  | some g =>
    let r := (kvPinM g q).run s
    match r.1 with
    | .ok m => ({ (r.2.passFlag g q true) with kv := { r.2.kv with passes := r.2.kv.passes ++ [⟨jid, q, m, m.map (· % 2 ^ 22), []⟩] } }, true)
    | .error (.fault a _) => ((s.kvRestore r.2).logE (seqChest q) 8 0 0x20 1 true a q 1, false)
    | .error (.code _) => (s.kvRestore r.2, false)

/-- R276: index in the snapshot of the frame and stream whose decode run a record is: it goes to the frame's slice, its
arguments are the columns of the cell, its cues cover the frame's group, and the landing tiles of a stream ascend with the
frame ordinal. (DEDUCED, log entry 126.) -/
def State.decodeRun (s : State) (g : KvGeo) (p : KvPass) (u : Nat) (cols : List Nat) (land : Nat) (masks : List Nat) : Option Nat :=
  (List.range p.map.length).find? (fun k =>
    let x := p.map.getD k 0
    let lead := x % 2 ^ 22
    let n := g.streams.length
    s.pgSliceKey lead == u && !p.runs.any (fun r => r.1 == k) &&
    cols == [keyCol g lead 0 0, valCol g lead 0 0, cntCol g lead, sideCol g (x / 2 ^ 22) + g.f * g.p / 16] &&
    masks.all (fun m => (List.range (2 * g.g)).all (fun i => bit m (2 * pgPuppet lead + i))) &&
    p.runs.all (fun r => r.1 % n != k % n || (decide (r.1 < k) == decide (r.2 < land))))

/-- A pass has submitted the decode run of index k of its snapshot. -/
def State.noteRun (s : State) (jid k land : Nat) : State :=
  { s with kv := { s.kv with passes := s.kv.passes.map (fun p => if p.jid = jid then { p with runs := p.runs ++ [(k, land)] } else p) } }

/-- R275, R287: a pass ends or is interrupted: its frames are unpinned. A header that cannot be read is left. -/
def State.unpinPass (s : State) (jid : Nat) : State :=
  match s.kvGeo, s.kv.passes.find? (fun p => p.jid == jid) with
  | some g, some p =>
    let s1 := p.pinned.foldl (fun s' f => ((kvPins g f false).run s').2) s
    { (s1.passFlag g p.seq false) with kv := { s1.kv with passes := s1.kv.passes.filter (fun x => x.jid != jid) } }
  | _, _ => { s with kv := { s.kv with passes := s.kv.passes.filter (fun x => x.jid != jid) } }

/-! ### What a layout load writes (R264, R289) -/

/-- The lead pages of a slice in ascending order, those of groups with a dead puppet left out. -/
def State.poolFrames (s : State) (g : KvGeo) (k : Nat) : List Nat :=
  ((List.range (g.s / g.f)).flatMap (fun i => (List.range (128 / g.g)).map (fun r => mkPage (k / 8) (k % 8) (i * g.f) (r * g.g)))).filter
    (fun p => !s.groupDead g p)

/-- The header a load writes for page p; `fr` is the slice's free list. -/
def State.loadHdr (s : State) (g : KvGeo) (fr : List Nat) (p : Nat) : PageHdr :=
  let l := leadOf g p
  if l ≠ p then restHdr p l
  else if s.groupDead g p then ⟨0, 0, pgKey p, 5, true, p⟩
  else ⟨0, 0, pgKey p, 0, true, (fr.drop ((fr.findIdx? (· == p)).getD 0 + 1)).headD Config.lastLink.toNat⟩

/-- Every header of a slice's pool. -/
def State.loadPool (s : State) (g : KvGeo) (k : Nat) : State :=
  let fr := s.poolFrames g k
  let pages := (List.range g.s).flatMap (fun sl => (List.range 16).map (fun j => mkPage (k / 8) (k % 8) sl (8 * j)))
  (s.each pages (fun s' p => s'.putHdrs g p (s.loadHdr g fr))).setFreeList g k fr

/-- R289, R290: the tables, lists and counters as a commit leaves them. -/
def State.kvLoad (s : State) : State :=
  let s1 := { s with kv := KvSt.zero }
  let s2 := (s1.each (List.range 32) (fun s' i => s'.setW (R.KVM_FREE i) 0)).each [R.KVM_OPS_LO, R.KVM_EVICT_LO] (fun s' r => s'.setPair r 0)
  let s3 := s2.setW R.KVM_RACE 0
  match s3.kvGeo with
  | none => s3
  | some g =>
    let s4 := s3.each (List.range 4) (fun s' c => s'.zeroRange (mkAddr c 8 g.seqBase) (2 ^ 24))
    s4.each (kvSlices g) (fun s' k => s'.loadPool g k)

end Sys2Proof.Machine
end

