-- ==== Sys2Proof/Machine/PupExec.lean ====
section
/-!
DEFINITION. What the puppets execute (chapter 08): instruction words, column accesses, every instruction's effect on one
puppet, the steps of a cue and the position of a run among its cues.
-/

namespace Sys2Proof.Machine

open Sys2Proof

/-! ### Instructions and cues as stored (R227, R233, R234) -/

/-- Issue cost in CCLK (Table 8-4). -/
def pupCost (op : Nat) : Nat :=
  if op = 0x15 then 0 else if op = 0x07 ∨ op = 0x0E ∨ op = 0x0F then 2
  else if op = 0x08 ∨ op = 0x10 ∨ op = 0x11 ∨ op = 0x14 then 4 else 1

def pupOpOf (w : Nat) : Nat := bits w 31 26
def pupIsColumn (op : Nat) : Bool := decide (1 ≤ op) && decide (op ≤ 7)

/-- Tables 8-2 and 8-3: the fields of a puppet instruction word. -/
def pupFOf (w : Nat) : PupF :=
  if pupIsColumn (pupOpOf w) then
    ⟨bits w 25 22, bits w 21 18, bits w 17 15, bit w 14, bits w 13 13, bits w 12 11, bits w 10 5, 0, false, 0, 0⟩
  else ⟨bits w 25 22, bits w 21 18, 0, false, 0, 0, 0, bits w 17 14, bit w 13, bits w 12 5, bits w 4 0⟩

/-- R234: issue cost of the segment from the first word of a list, up to its END; none without one. -/
def segCost : List Word32 → Option Nat
  | [] => none
  | w :: t => if pupOpOf w.toNat = 0x15 then some 0 else (segCost t).map (fun n => n + pupCost (pupOpOf w.toNat))

def cueStart (c : List Byte) : Nat := bits (fieldAt c 0 2) 8 0
def cueIter (c : List Byte) : Nat := fieldAt c 2 1
def cueArg (c : List Byte) (k : Nat) : Nat := fieldAt c (0x10 + 4 * k) 4

def cueLen (prog : List Word32) (c : List Byte) : Option Nat := (segCost (prog.drop (cueStart c))).map (fun n => n * cueIter c)

/-! ### A run among its cues (R237, R240) -/

/-- The list of cues of a part: first and count. -/
def runList (r : List Byte) (part : Nat) : Nat := if part = 0 then runHead r else if part = 1 then runBody r else runTail r

/-- The cue a run executes next, as an index of the cue store. -/
def RunSt.cueIdx (r : RunSt) : Nat := listFirst (runList r.bytes r.part) + r.idx

/-- Move past lists that have ended: head, the body's repeats, tail; part 3 when every cue has ended. -/
def settlePart : Nat → RunSt → RunSt
  | 0, r => r
  | fuel + 1, r =>
    if r.part = 3 ∨ r.idx < listCount (runList r.bytes r.part) then r
    else if r.part = 1 ∧ 0 < listCount (runBody r.bytes) ∧ r.rep + 1 < runRepeats r.bytes then { r with idx := 0, rep := r.rep + 1 }
    else settlePart fuel { r with part := r.part + 1, idx := 0, rep := 0 }

/-- Every cue index a record names. -/
def runCues (r : List Byte) : List Nat :=
  [0, 1, 2].flatMap (fun p => (List.range (listCount (runList r p))).map (fun i => listFirst (runList r p) + i))

/-- R224, R235: does puppet j take part in a cue? -/
def State.takesPart (s : State) (u : Nat) (cue : List Byte) (j : Nat) : Bool :=
  !s.getBit (R.PUP_DEAD.dead u (j / 32)) (j % 32) && (bit (cueMask cue) (2 * j) || bit (cueMask cue) (2 * j + 1))

/-- R240: the n puppets of a run. -/
def State.runPuppets (s : State) (u : Nat) (r : List Byte) : List Nat :=
  let cues := (runCues r).map (fun i => Tbl.get [] (s.pup u).cues i)
  (List.range 128).filter (fun j => cues.any (fun c => s.takesPart u c j))

/-- R233: argument k of the cue that runs. -/
def runArg (r : RunSt) (cue : List Byte) (k : Nat) : Word32 :=
  BitVec.ofNat 32 (cueArg cue k + runArgBase r.bytes k + (if r.part = 1 then r.rep else 0) * runArgStep r.bytes k)

/-! ### Puppet registers (R222) -/

def pvKey (j k l : Nat) : Nat := j * 1024 + k * 64 + l

def State.pv (s : State) (u j k : Nat) : List Word32 := Tbl.getList 0 (s.pup u).pv (pvKey j k 0) 64

def State.ps (s : State) (u j k : Nat) : Word32 := Tbl.get 0 (s.pup u).ps (j * 8 + k % 8)

def State.setPv (s : State) (u j k : Nat) (l : List Word32) : State :=
  s.setPup u (fun t => { t with pv := Tbl.setList 0 t.pv (pvKey j k 0) (l.take 64) })

def State.setPs (s : State) (u j k : Nat) (v : Word32) : State :=
  s.setPup u (fun t => { t with ps := Tbl.set 0 t.ps (j * 8 + k % 8) v })

/-! ### Column accesses (R221, R223, R230-R232) -/

/-- The slice bank an instruction names. -/
def colBank (j : Nat) (f : PupF) : Nat := 2 * j + f.bk

/-- R231: an access outside its range or outside every claim, of puppet j at a column. The first of a cue is kept. -/
def State.noteStray (s : State) (u b col : Nat) : State :=
  let a := if col < 524288 then some (s.bankAddr u b col) else none
  (s.flag (R.PUP_FLAGS.stray u)).setPup u (fun t => { t with
    strays := t.strays + 1, firstStray := if t.strays = 0 then a else t.firstStray })

/-- R231: does the run hold a claim that covers the column? -/
def State.inClaims (s : State) (u b col : Nat) : Bool := (heldClaims (s.pup u)).any (fun c => claimCovers c b (col / 128))

/-- R231: one access of puppet j: nothing where the mask bit is clear, a stray where the column or the claims forbid it;
the scalar register advances in every case. -/
def State.column (s : State) (u j : Nat) (f : PupF) (cue : List Byte) (writes : Bool) (miss : State → State)
    (hit : State → Nat → State) : State :=
  let b := colBank j f
  let col := (s.ps u j f.r).toNat
  let s1 :=
    if !bit (cueMask cue) b then miss s
    else if decide (524288 ≤ col) || (writes && !s.inClaims u b col) then miss (s.noteStray u b col)
    else hit s col
  if f.inc then s1.setPs u j f.r (s1.ps u j f.r + 1) else s1

/-- Does the bank lie in a channel that is cut off? No rule says what its puppets then meet. (DEDUCED, log entry 35.) -/
def State.bankCut (s : State) (u b : Nat) : Bool := bit (s.slice u).cut (b / 32)

/-- R232: the sector at a column: its bytes, or none where it is uncorrectable, which the puppeteer logs.
(DEDUCED, log entry 34; DEDUCED, log entry 35.) -/
def State.columnRead (s : State) (u b col : Nat) : State × Option (List Byte) :=
  let ca := caOf (b % 32) col
  let a := s.addrAt u (b / 32) ca
  if s.bankCut u b then (s.tick, some ((List.range 64).map (fun i => Config.lostByte (s.fresh + 1) (b * 2 ^ 32 + col * 64 + i))))
  else if s.sectorErr a = 2 then
    let s1 := (s.flag (R.PUP_FLAGS.col_ue u)).flag (R.SLC_FLAGS.ue u)
    let s2 := s1.logE (u / 9) 2 (u % 9) 2 1 true a (physChan (s.slice u) (b / 32) * 64) 1
    ((s2.countErr u (b / 32) (bankOf ca)).declareBad u (b * 4096 + rowOf ca), none)
  else s.readSector a

def State.columnWrite (s : State) (u b col : Nat) (bytes : List Byte) : State :=
  if s.bankCut u b then s else s.writeSector (s.bankAddr u b col) bytes

/-- The package format code of fm, and the bytes of an element. -/
def fmFmt (fm : Nat) : Nat := [3, 4, 1, 0].getD fm 0
def fmBytes (fm : Nat) : Nat := [1, 1, 2, 4].getD fm 4

/-- R230: the first lane a sector fills. -/
def fillBase (f : PupF) : Nat := if f.fm = 2 then f.lane % 2 * 32 else if f.fm = 3 then f.lane % 4 * 16 else 0

/-- R230: is lane l filled? -/
def fills (f : PupF) (l : Nat) : Bool := inRange l (fillBase f) (64 / fmBytes f.fm)

/-- R230, R232: the value of lane l from a sector: exact, or NaN of an uncorrectable one. (DEDUCED, log entry 26.) -/
def laneOf (f : PupF) (d : Option (List Byte)) (l : Nat) : Word32 :=
  match d with
  | some bytes => Num.rne (Num.decodeElem (fmFmt f.fm) (fieldAt bytes ((l - fillBase f) * fmBytes f.fm) (fmBytes f.fm)))
  | none => Num.nanW

/-- A column instruction that writes pvd: `g` of the sector's lane, and the lanes the sector does not fill.
(DEDUCED, log entry 26.) -/
def State.columnVec (s : State) (u j : Nat) (f : PupF) (cue : List Byte) (zero : Bool) (g : Nat → Word32 → Word32) : State :=
  let old := s.pv u j f.d
  let rest := fun (l : Nat) => if zero then 0 else old.getD l 0
  s.column u j f cue false (fun s => if zero then s.setPv u j f.d (List.replicate 64 0) else s) (fun s col =>
    let r := s.columnRead u (colBank j f) col
    r.1.setPv u j f.d ((List.range 64).map (fun l => if fills f l then g l (laneOf f r.2 l) else rest l)))

/-! ### The instructions (Table 8-4), for one puppet -/

/-- LDC. -/
def State.pupLdc (s : State) (u j : Nat) (f : PupF) (cue : List Byte) : State := s.columnVec u j f cue true (fun _ x => x)

/-- STC (R230): the lanes converted with RNE and sat = 1 fill the whole sector. -/
def State.pupStc (s : State) (u j : Nat) (f : PupF) (cue : List Byte) : State :=
  let src := s.pv u j f.d
  let bytes := (List.range (64 / fmBytes f.fm)).flatMap (fun n =>
    leBytes (fmBytes f.fm) (Num.conv (fmFmt f.fm) .rne true (Num.val (src.getD (fillBase f + n) 0))).bits)
  s.column u j f cue true (fun s => s) (fun s col => s.columnWrite u (colBank j f) col bytes)

/-- CMUL. -/
def State.pupCmul (s : State) (u j : Nat) (f : PupF) (cue : List Byte) : State :=
  let a := s.pv u j f.a
  s.columnVec u j f cue true (fun l x => Num.mulW x (a.getD l 0))

/-- CFMA. -/
def State.pupCfma (s : State) (u j : Nat) (f : PupF) (cue : List Byte) : State :=
  let a := s.pv u j f.a
  let d := s.pv u j f.d
  s.columnVec u j f cue false (fun l x => Num.fmaW x (a.getD l 0) (d.getD l 0))

/-- CFMB: one lane of pva, which moves with the iteration, for every lane. -/
def State.pupCfmb (s : State) (u j : Nat) (f : PupF) (iter : Nat) (cue : List Byte) : State :=
  let a := (s.pv u j f.a).getD ((f.lane + iter) % 64) 0
  let d := s.pv u j f.d
  s.columnVec u j f cue false (fun l x => Num.fmaW x a (d.getD l 0))

/-- LDS. -/
def State.pupLds (s : State) (u j : Nat) (f : PupF) (cue : List Byte) : State :=
  s.column u j f cue false (fun s => s) (fun s col =>
    let r := s.columnRead u (colBank j f) col
    r.1.setPs u j f.d (match r.2 with
      | some b => BitVec.ofNat 32 (fieldAt b (4 * (f.lane % 16)) 4)
      | none => Num.nanW))

/-- R236: the increment of a score. -/
def scoreInc (w : Word32) : Nat :=
  match Num.val w with
  | .fin false m e => min 4096 (Num.roundAt .rne false m (e + 12) 0)
  | .inf false => 4096
  | _ => 0

/-- R236: a score after one step. -/
def scoreNew (sc : Nat) (w : Word32) : Nat := min 65535 (sc - sc / 16 + scoreInc w)

/-- SACC (R236): one half of the sector gives the scores, the other half takes them. -/
def State.pupSacc (s : State) (u j : Nat) (f : PupF) (cue : List Byte) : State :=
  let w := s.pv u j f.a
  s.column u j f cue true (fun s => s) (fun s col =>
    let r := s.columnRead u (colBank j f) col
    match r.2 with
    | none => r.1
    | some b =>
      let h := f.lane % 2
      let src := (b.drop (32 * h)).take 32
      let new := (List.range 16).flatMap (fun i => leBytes 2 (scoreNew (fieldAt src (2 * i) 2) (w.getD i 0)))
      r.1.columnWrite u (colBank j f) col (if h = 0 then src ++ new else new ++ src))

/-- BCV: a broadcast slot. -/
def State.pupBcv (s : State) (u j : Nat) (f : PupF) : State :=
  let base := bits f.imm 3 0 * 256
  s.setPv u j f.d ((List.range 64).map (fun l => BitVec.ofNat 32 (leNat (Tbl.getList 0 (s.pup u).bcast (base + 4 * l) 4))))

/-- The second source of a vector instruction: pvb, or a scalar in every lane. -/
def State.pupB (s : State) (u j : Nat) (f : PupF) : List Word32 :=
  if f.bs then List.replicate 64 (s.ps u j f.b) else s.pv u j f.b

def State.pupMap2 (s : State) (u j : Nat) (f : PupF) (g : Word32 → Word32 → Word32) : State :=
  s.setPv u j f.d (List.zipWith g (s.pv u j f.a) (s.pupB u j f))

def State.pupAdd (s : State) (u j : Nat) (f : PupF) : State := s.pupMap2 u j f Num.addW
def State.pupMul (s : State) (u j : Nat) (f : PupF) : State := s.pupMap2 u j f Num.mulW
def State.pupMax (s : State) (u j : Nat) (f : PupF) : State := s.pupMap2 u j f Num.maxW

def State.pupFma (s : State) (u j : Nat) (f : PupF) : State :=
  s.setPv u j f.d (List.zipWith (fun a bc => Num.fmaW a bc.1 bc.2) (s.pv u j f.a) ((s.pupB u j f).zip (s.pv u j f.d)))

/-- LIM. -/
def State.pupLim (s : State) (u j : Nat) (f : PupF) : State :=
  let n := min (f.imm : Int) (s.ps u j f.b).toInt
  let a := s.pv u j f.a
  s.setPv u j f.d ((List.range 64).map (fun (l : Nat) => if n ≤ (l : Int) then Num.nInf else a.getD l 0))

/-- RSUM (R229: the pairwise tree of R124 over all 64 lanes). -/
def State.pupRsum (s : State) (u j : Nat) (f : PupF) (iter : Nat) : State :=
  let v := Num.treeSum 6 (s.pv u j f.a)
  if f.fn = 0 then s.setPs u j f.d v else s.setPv u j f.d ((s.pv u j f.d).set ((f.imm + iter) % 64) v)

/-- RMAX. -/
def State.pupRmax (s : State) (u j : Nat) (f : PupF) : State := s.setPs u j f.d (Num.maxList (s.pv u j f.a))

/-- EXP2. -/
def State.pupExp2 (s : State) (u j : Nat) (f : PupF) : State := s.setPv u j f.d ((s.pv u j f.a).map Num.exp2W)

/-- R229: EXP2R of x against the reference r: EXP2 of the fraction times 2^(floor x − r), one rounding.
(DEDUCED, log entry 24.) -/
def exp2rW (x r : Word32) : Word32 :=
  match Num.val x, Num.val r with
  | .nan, _ => Num.nanW
  | _, .nan => Num.nanW
  | _, .inf true => 0#32
  | .inf true, _ => 0#32
  | .inf false, .inf false => Num.nanW
  | .inf false, .fin _ _ _ => Num.pInf
  | .fin _ _ _, .inf false => 0#32
  | .fin n m e, .fin rn rm re =>
    let fl := (Num.floorFrac n m e).1
    let f := Num.fracOf n m e
    match Num.val (Num.exp2V false f.1 f.2), Num.add (.fin (decide (fl < 0)) fl.natAbs 0) (.fin (!rn) rm re) with
    | .fin _ wm we, .fin yn ym ye =>
      let p := Num.exp2Exact yn ym ye
      Num.rne (.fin false (wm * p.1) (we + p.2))
    | _, _ => Num.pInf

/-- EXP2R. -/
def State.pupExp2r (s : State) (u j : Nat) (f : PupF) : State :=
  let r := s.ps u j f.b
  s.setPv u j f.d ((s.pv u j f.a).map (fun x => exp2rW x r))

/-- Table 8-5, fn 5: 2^(a − b), exactly rounded; the limit where only b is infinite or a is +∞. (DEDUCED, log entry 24.) -/
def expdW (a b : Word32) : Word32 :=
  match Num.val a, Num.val b with
  | .nan, _ => Num.nanW
  | _, .nan => Num.nanW
  | .inf s, .inf t => if s = t then Num.oneW else if s then 0#32 else Num.pInf
  | .inf s, _ => if s then 0#32 else Num.pInf
  | _, .inf t => if t then Num.pInf else 0#32
  | va, vb =>
    match Num.add va (Num.neg vb) with
    | .fin n m e => Num.exp2Rounded n m e
    | _ => Num.nanW

/-- Table 8-5: the value psd takes. -/
def State.sopValue (s : State) (u j : Nat) (f : PupF) (arg : Nat → Word32) : Word32 :=
  let a := s.ps u j f.a
  let b := s.ps u j f.b
  let imm := BitVec.ofInt 32 (signed 8 f.imm)
  match f.fn with
  | 0 => imm
  | 1 => a + imm
  | 2 => arg (bits f.imm 1 0)
  | 3 => Num.maxW a b
  | 4 => if Num.isNanW a then a else Num.ceilW a
  | 5 => expdW a b
  | 6 => Num.mulW a b
  | 7 => Num.addW a b
  | 8 => a
  | 9 => Num.nInf
  | _ => a - b

/-- SOP. -/
def State.pupSop (s : State) (u j : Nat) (f : PupF) (arg : Nat → Word32) : State := s.setPs u j f.d (s.sopValue u j f arg)

/-- R240: words of puppet j's record of a row; none at or beyond the record's end, none without records. -/
def putWords (r : RunSt) (j row w0 : Nat) (vals : List Word32) : RunSt :=
  let n := min vals.length (16 * runRecUnits r.bytes - w0)
  if runNoRecords r.bytes || n == 0 then r
  else { r with words := Tbl.setList 0 r.words ((row * 128 + j) * 1024 + w0) (vals.take n), rows := max r.rows (row + 1) }

def State.modRun (s : State) (u : Nat) (g : RunSt → RunSt) : State := s.setPup u (fun t => { t with run := t.run.map g })

/-- PUTS. -/
def State.pupPuts (s : State) (u j : Nat) (f : PupF) : State :=
  s.modRun u (fun r => putWords r j (s.ps u j f.b).toNat f.imm [s.ps u j f.a])

/-- PUTV. -/
def State.pupPutv (s : State) (u j : Nat) (f : PupF) : State :=
  s.modRun u (fun r => putWords r j (s.ps u j f.b).toNat f.imm (s.pv u j f.a))

/-! ### One step of a cue -/

/-- The instruction that comes next: the run, the cue's entry, opcode and fields. -/
structure PNext where
  run : RunSt
  cue : List Byte
  op : Nat
  f : PupF
  deriving DecidableEq, Repr

def State.pupNext (s : State) (u : Nat) : Option PNext :=
  match (s.pup u).run, (s.pup u).cue with
  | some r, some i =>
    if r.done then none
    else
      let w := (Tbl.get 0 (s.pup u).prog r.pc).toNat
      some ⟨r, Tbl.get [] (s.pup u).cues i, pupOpOf w, pupFOf w⟩
  | _, _ => none

/-- R235: every puppet that takes part executes an instruction; the next one follows. -/
def State.pupAll (s : State) (u : Nat) (n : PNext) (eff : State → Nat → State) : State :=
  (s.each ((List.range 128).filter (s.takesPart u n.cue)) eff).modRun u (fun r => { r with pc := r.pc + 1 })

/-- END: the next iteration starts at the cue's start, or the last one has ended. -/
def State.pupEnd (s : State) (u : Nat) (n : PNext) : State :=
  s.modRun u (fun r =>
    if r.iter + 1 < cueIter n.cue then { r with pc := cueStart n.cue, iter := r.iter + 1 } else { r with done := true })

/-- The effect of the instruction that comes next, by its opcode. (DEDUCED, log entry 31.) -/
def State.pupStep (s : State) (u : Nat) (n : PNext) : State :=
  let i := n.run.iter
  let arg := runArg n.run n.cue
  match n.op with
  | 0x00 => s.pupAll u n (fun s _ => s)
  | 0x01 => s.pupAll u n (fun s j => s.pupLdc u j n.f n.cue)
  | 0x02 => s.pupAll u n (fun s j => s.pupStc u j n.f n.cue)
  | 0x03 => s.pupAll u n (fun s j => s.pupCmul u j n.f n.cue)
  | 0x04 => s.pupAll u n (fun s j => s.pupCfma u j n.f n.cue)
  | 0x05 => s.pupAll u n (fun s j => s.pupCfmb u j n.f i n.cue)
  | 0x06 => s.pupAll u n (fun s j => s.pupLds u j n.f n.cue)
  | 0x07 => s.pupAll u n (fun s j => s.pupSacc u j n.f n.cue)
  | 0x08 => s.pupAll u n (fun s j => s.pupBcv u j n.f)
  | 0x09 => s.pupAll u n (fun s j => s.pupAdd u j n.f)
  | 0x0A => s.pupAll u n (fun s j => s.pupMul u j n.f)
  | 0x0B => s.pupAll u n (fun s j => s.pupFma u j n.f)
  | 0x0C => s.pupAll u n (fun s j => s.pupMax u j n.f)
  | 0x0D => s.pupAll u n (fun s j => s.pupLim u j n.f)
  | 0x0E => s.pupAll u n (fun s j => s.pupRsum u j n.f i)
  | 0x0F => s.pupAll u n (fun s j => s.pupRmax u j n.f)
  | 0x10 => s.pupAll u n (fun s j => s.pupExp2 u j n.f)
  | 0x11 => s.pupAll u n (fun s j => s.pupExp2r u j n.f)
  | 0x12 => s.pupAll u n (fun s j => s.pupSop u j n.f arg)
  | 0x13 => s.pupAll u n (fun s j => s.pupPuts u j n.f)
  | 0x14 => s.pupAll u n (fun s j => s.pupPutv u j n.f)
  | _ => s.pupEnd u n

/-- R249: the cue in progress runs to its end, in at most `fuel` instructions (64 CCLK and 64 ENDs, R234). -/
def State.finishCue : Nat → State → Nat → State
  | 0, s, _ => s
  | fuel + 1, s, u =>
    match s.pupNext u with
    | none => s
    | some n => State.finishCue fuel (s.pupStep u n) u

/-- R231: the cue's entry for its stray accesses. -/
def State.logStrays (s : State) (u : Nat) : State :=
  let t := s.pup u
  if t.strays = 0 then s
  else (s.logE (u / 9) 2 (u % 9) 9 2 t.firstStray.isSome (t.firstStray.getD 0) 0 t.strays).setPup u
    (fun t => { t with strays := 0, firstStray := none })

end Sys2Proof.Machine
end

