-- ==== Sys2Proof/Machine/ResetOps.lean ====
section
/-!
DEFINITION. What a reset of part of the part does (R448-R454), how a core is declared failed and its understudy takes over
(R455-R458), and what a partition reset and the loading of an act put back (R225, R226, R317, R447, R451).
-/

namespace Sys2Proof.Machine

open Sys2Proof

/-! ### Interrupted entries (R414-R416) -/

/-- R414, R287: the work of an entry is interrupted: its pass loses its pins, and it waits until its target can run. -/
def State.interrupt (s : State) (jid : Nat) : State :=
  match s.jFind jid with
  | some e => if e.st = 1 then (s.jSet jid (fun e => { e with st := 3 })).unpinPass jid else s
  | none => s

/-- Can the target of an interrupted entry run again? -/
def State.targetUp (s : State) (e : JEntry) : Bool :=
  if entKind e.bytes = 1 then !s.coreInReset (s.coreKey (entCore e.bytes)) && s.present (entCore e.bytes / 8) (entCore e.bytes % 8)
  else true

/-- R414: entries whose targets can run again return to the journal. -/
def State.replayReady (s : State) : State :=
  s.each (s.journal.filter (fun e => e.st == 3 && s.targetUp e)) (fun s' e => s'.replayEntry e.jid)

/-- A core's operations and its work item are lost; the entry is interrupted. -/
def State.loseWork (s : State) (u : Nat) : State :=
  let s1 := match (s.core u).work with
    | some w => s.interrupt w.jid
    | none => s
  s1.dropWork u

/-- R250: the submitter of a run that a reset loses. -/
def State.loseRun (s : State) : Submitter → State
  | .core u => s.loseWork u
  | .walker _ jid => (s.each (List.range 36) (fun s' u =>
      match (s'.core u).work with
      | some w => if w.jid = jid then s'.loseWork u else s'
      | none => s')).interrupt jid
  | _ => s

/-! ### What an act loads (R225, R226, R217, R317) -/

/-- The stores of the puppeteer of physical slice u, from the act in force. -/
def State.loadPup (s : State) (u : Nat) : State :=
  let sec := s.fromLayout none (fun i => puppetOf i s.act (u / 9) (s.logicalSlice u))
  let s1 := s.setPup u (fun t => { t with
    prog := match sec with | some p => Tbl.setList 0 [] 0 p.prog | none => []
    cues := match sec with | some p => p.cues.foldl (fun t c => Tbl.set [] t c.1 c.2) [] | none => []
    claims := match sec with | some p => p.claims.foldl (fun t c => Tbl.set none t c.1 (some c.2)) [] | none => [] })
  ((s1.setF (R.PUP_STATUS.prog_valid u) (if sec.isSome then 1 else 0)).setF (R.PUP_CLAIMS.defined u)
    (match sec with | some p => p.claims.foldl (fun m c => setBit m c.1 true) 0 | none => 0)).showPup u

/-- The configuration words of a chest's exact reduction slots, as the act sets them; the other slots are off. Values stay. -/
def State.loadSlots (s : State) (c : Nat) : State :=
  let s1 := { s with slots := (s.slots.map (fun (e : Nat × Slot) =>
    if e.1 / 4096 = c then (e.1, { e.2 with c := 0, fixed := false, enabled := false }) else e)).filter (fun e => e.2 != Slot.zero) }
  s1.each ((s1.fromLayout [] (fun i => slotCfgsOf i s1.act)).filter (fun x => x.chest == c)) (fun s' x =>
    let k := slotKey c x.index
    s'.setSlot k { s'.slot k with c := x.c, fixed := x.fixed, enabled := x.enabled })

/-- R317: the flags of the landing tiles that the act marks resident on logical core id, once they are restored.
(DEDUCED, log entry 102.) -/
def State.setResident (s : State) (u id : Nat) : State :=
  match s.coreCfg id with
  | some c => s.each (c.landings.filter (fun l => l.resident)) (fun s' l => s'.setArrived u l.idx true)
  | none => s

/-- R450 step 5, R451: chain store and tile store of a core; its arrival flags stay clear (R102). -/
def State.reload (s : State) (u : Nat) : State :=
  match s.logicalOf (u / 9) (u % 9) with
  | some _ => (s.reloadCore u).showArr u
  | none => s.showArr u

/-! ### Stops (R312, R416, R458) -/

/-- Every accepted entry completes as aborted, retryable; what runs for them ends. -/
def State.abortAll (s : State) : State :=
  let s1 := s.each s.journal (fun s' e => (s'.abortEntry e.jid).unpinPass e.jid)
  let s2 := s1.each (List.range 36) (fun s' u => if (s'.core u).work.isSome then s'.dropWork u else s')
  { s2 with kv := { s2.kv with ops := [] } }

/-- R416: the entries of cores that are not present. -/
def State.abortMissing (s : State) : State :=
  s.each (s.journal.filter (fun e => entKind e.bytes == 1 && !s.present (entCore e.bytes / 8) (entCore e.bytes % 8))) (fun s' e =>
    (s'.abortEntry e.jid).unpinPass e.jid)

/-- R458, R416: the layout stops for want of an understudy; with no epochs running every entry ends (R406).
(DEDUCED, log entry 90.) -/
def State.stopLayout (s : State) : State :=
  let s1 := { s with lay := { s.lay with stopDue := false } }
  if s1.runState = 4 ∨ s1.runState = 5 then
    (if s1.runsEpochs then s1.abortMissing else s1.abortAll).setRunState 6
  else s1

/-! ### Takeover (R456) -/

def State.takeoverOf (s : State) (c : Nat) : Nat := Tbl.get 0 s.rst.takeover c

def State.setTakeover (s : State) (c v : Nat) : State :=
  ({ s with rst := { s.rst with takeover := Tbl.set 0 s.rst.takeover c v } }).putBit R.GLB_TAKEOVER.pending c (v != 0)

/-- The pending takeover of chest c takes effect. -/
def State.takeOver (s : State) (c : Nat) : State :=
  let n := s.takeoverOf c - 1
  let u := c * 9 + s.understudy c
  let s1 := (s.clearCore u).setTakeover c 0
  let s2 := ((s1.setF (R.GLB_CHEST_MAP.takeover_logical c) n).setF (R.GLB_CHEST_MAP.understudy_ready c) 0).putBit
    (R.GLB_CHEST_MAP.logical_present c) n true
  let s3 := (s2.reload u).giveDuty u
  ((s3.logE c 0 (u % 9) 0x16 1 false 0 (n + 16) 1).raise 9).replayReady.updateService

/-- R427, R456: may the chest's takeover take effect now (its control core runs, and the understudy's island can leave reset)?
(DEDUCED, log entry 52.) -/
def State.takeoverCan (s : State) (c : Nat) : Bool :=
  s.takeoverOf c != 0 && s.ccRuns (1 + c) && !s.rst.running.any (fun r => r.hasCore (c * 9 + s.understudy c))

def State.takeovers (s : State) : State := s.each (List.range 4) (fun s' c => if s'.takeoverCan c then s'.takeOver c else s')

/-- R314: with no epochs running, and not stopped, takeovers take effect at once. -/
def State.takeoversNow (s : State) : State := if s.runsEpochs || s.runState == 6 then s else s.takeovers

/-! ### A core is declared failed (R455, R458, R21) -/

/-- No understudy is available: the layout stops at the next boundary, or at once when no epochs run. -/
def State.noUnderstudy (s : State) : State :=
  let s1 := s.updateService
  if s1.runsEpochs then { s1 with lay := { s1.lay with stopDue := true } } else s1.stopLayout

/-- DEDUCED, log entry 52. -/
def State.declareFailed (s : State) (u : Nat) : State :=
  let c := u / 9
  let p := u % 9
  if s.getBit (R.GLB_CHEST_MAP.phys_dead c) p then s
  else
    let under := s.understudy c
    let n := s.logicalOf c p
    let s1 := ((s.loseWork u).clearCore u).recordDefect (defCore c p)
    let s2 := s1.putBit (R.GLB_CHEST_MAP.phys_dead c) p true
    let s3 := if p = under then s2.setF (R.GLB_CHEST_MAP.understudy_ready c) 0 else s2
    let s4 := s3.logE c 0 p 0x16 1 false 0 (n.getD 0xF) 1
    let pend := s4.takeoverOf c
    match n with
    | some k =>
      let s5 := s4.putBit (R.GLB_CHEST_MAP.logical_present c) k false
      if s5.isSet (R.GLB_CHEST_MAP.understudy_ready c) && pend == 0 then ((s5.setTakeover c (k + 1)).raise 9).updateService.takeoversNow
      else s5.noUnderstudy
    | none => if p = under ∧ pend ≠ 0 then (s4.setTakeover c 0).noUnderstudy else s4.updateService

/-! ### Slices after a reset that includes the compute die (R204, R208, R212, R220, R224, R447) -/

/-- Logical channels that the boot's defect list takes out of a slice. -/
def State.listedChannels (s : State) (u : Nat) : List Nat :=
  (s.park.bootDefects.filter (fun d => bits d 63 62 == 1 && bits d 61 60 == u / 9 && bits d 59 56 == u % 9)).map (fun d => bits d 55 53)

/-- Rows that the defect list takes out of a slice: slice bank and row. -/
def State.listedRows (s : State) (u : Nat) : List (Nat × Nat) :=
  (s.park.bootDefects.filter (fun d => bits d 63 62 == 0 && bits d 61 60 == u / 9 && bits d 59 56 == u % 9)).map (fun d =>
    (bits d 55 53 * 32 + bits d 52 48, bits d 47 36))

/-- R208, R442: a logical channel whose path is out of service at a start: it moves to the spare path, or is cut off. The
mask is that of working physical channels. -/
def dropPath (t : SliceSt × Nat) (ch : Nat) : SliceSt × Nat :=
  let old := t.1.map.getD ch 8
  let m := setBit t.2 old false
  if t.1.map.contains t.1.spare || !bit m t.1.spare then ({ t.1 with cut := setBit t.1.cut ch true }, m)
  else ({ t.1 with map := t.1.map.set ch t.1.spare }, m)

/-- The fuse map and the defect list applied to slice u. (DEDUCED, log entry 19.) -/
def State.fuseSlice (s : State) (u : Nat) : SliceSt × Nat :=
  let map0 := match Tbl.get [] s.fuse.chanMap u with | [] => List.range 8 | l => l
  let sp := ((List.range 9).find? (fun p => !map0.contains p)).getD 8
  let mask := (List.range 9).foldl (fun m p => if bit (Tbl.get 0 s.fuse.chanOff u) p then m else m + 2 ^ p) 0
  let bad := (List.range 8).filter (fun ch => !bit mask (map0.getD ch 8) || (s.listedChannels u).contains ch)
  let rows := (Tbl.get [] s.fuse.rowsOut u ++ (s.listedRows u).map (fun (r : Nat × Nat) => r.1 * 4096 + r.2)).eraseDups
  bad.foldl dropPath ({ SliceSt.zero with
    map := map0, spare := sp
    remapped := rows, colsOut := Tbl.get [] s.fuse.colsOut u
    spareUsed := rows.foldl (fun t k => Tbl.modify 0 t (k / 4096) (· + 1)) [] }, mask)

/-- Show a slice's channels, spare rows and dead puppets. -/
def State.showSlice (s : State) (u mask : Nat) : State :=
  let t := s.slice u
  let st := if t.eccFail then 3 else sliceStateOf (working t).length
  let moved := ((List.range 8).find? (fun ch => t.map.getD ch 8 == t.spare)).getD 0xF
  let s1 := ((s.setF (R.SLC_STATUS.ch_working u) mask).setF (R.SLC_STATUS.spare_for u) moved).setF (R.SLC_STATUS.state u) st
  let s2 := (s1.setF (R.SLC_STATUS.logical_slice u) (s1.logicalSlice u)).showSpares u
  s2.each (List.range 4) (fun s' i => s'.setW (R.PUP_DEAD u i) (bits (Tbl.get 0 s.fuse.deadPuppets u).toNat (32 * i + 31) (32 * i)))

/-- R201: the bands of slice u after a reset: a region whose sensor is broken reads as 105 C, band 2. -/
def State.startBands (s : State) (u : Nat) : State :=
  s.setF (R.SLC_BANDS.band u) ((List.range 8).foldl (fun w d => if s.sensorBroken (u / 9) (d * 9 + u % 9) then w + 2 * 4 ^ d else w) 0)

/-- Slice u and its puppeteer start afresh. The 7 GiB map that a layout load gave a degraded slice stays while it is degraded
(R211), and bytes keep their device addresses where it goes. (DEDUCED, log entry 19; DESIGN CHOICE, log entry 123.) -/
def State.startSlice (s : State) (u : Nat) : State :=
  let f := s.fuseSlice u
  let map7 := (s.slice u).degraded && (working f.1).length == 7
  let s1 := (s.setSlice u (fun _ => { f.1 with degraded := map7 })).setPup u (fun _ => PupSt.zero)
  ((s1.resetRange (R.slcBase u) (R.slcBase u + 0x10000)).startBands u).showSlice u f.2

/-! ### Partial resets (R448-R454) -/

def RunReset.cores (r : RunReset) : List Nat := (List.range 36).filter (fun u => r.hasCore u)

def RunReset.ccs (r : RunReset) : List Nat := (List.range 17).filter (fun i => r.hasCc i)

/-- R453: is a scope inside another? -/
def RunReset.inside (a b : RunReset) : Bool :=
  a.chest == b.chest && (b.level == 2 || (b.level == 1 && (a.level == 0 && a.target / 3 == b.target || a.level == 1 && a.target == b.target)) ||
    (a.level == 0 && b.level == 0 && a.target == b.target))

/-- R391: master ports inside a reset's scope. -/
def RunReset.masters (r : RunReset) : List Nat :=
  if r.level = 2 then (List.range 0x16).map (fun i => r.chest * 64 + i)
  else (r.cores.map (fun u => u / 9 * 64 + u % 9)) ++ (if r.level = 1 then [r.chest * 64 + 9 + r.target] else [])

/-- R249: the cue in progress ends; the runs of the puppeteer are lost, with what it held. (DEDUCED, log entry 39.) -/
def State.losePup (s0 : State) (u : Nat) : State :=
  let s := (s0.finishCue 192 u).logStrays u
  let t := s.pup u
  let runs := (match t.run with | some r => [r.by_] | none => []) ++ t.queue.map (fun q => q.2)
  let s1 := s.each runs (fun s' b => s'.loseRun b)
  s1.each (t.held.map (fun (h : Nat × MemReq) => h.2)) (fun s' q => (s'.absorb (fun r => r.chest == u / 9 && r.level == 2) false).answer q 4 [])

/-- R214: the cache writes its dirty lines back and starts empty; the slots read as zeroed. -/
def State.flushCache (s : State) (c : Nat) : State :=
  let s1 := s.each (s.lines.filter (fun e => e.1 / 8192 == c)) (fun s' e => s'.each e.2 (fun s'' l => s''.writeBackLine e.1 l))
  { s1 with
    lines := s1.lines.filter (fun e => e.1 / 8192 != c)
    slots := (s1.slots.map (fun (e : Nat × Slot) => if e.1 / 4096 = c then (e.1, slotCleared e.2) else e)).filter (fun e => e.2 != Slot.zero) }

/-- The control cores of a scope are held in reset (R435). -/
def State.holdCcs (s : State) (l : List Nat) : State :=
  s.each (l.filter (fun i => s.ccState i == 2 || s.ccState i == 3)) (fun s' i =>
    ((s'.setF (R.MBX_CC_STATUS.state i) 3).setCc i (fun t => { t with reqclass := 0, missed := 0 })).receiverReset (endpointOfCc i))

/-- R27, R449, R370: packets of a mesh that empties, those half out of it or half in it too, are absorbed: a request is answered status 4, anything else is dropped. -/
def State.absorbMesh (s : State) (c : Nat) (l : List MeshPkt) : State :=
  s.each l (fun s' p =>
    let s1 := s'.absorb (fun r => r.chest == c && r.level == 2) (!p.request)
    if p.request then s1.respond (.master p.master) 4 [] else s1)

/-- The die of a chest goes into reset; its drawers refresh themselves (Table 16-6). -/
def State.dieDown (s0 : State) (c : Nat) : State :=
  let s := if addrChest (s0.getW R.ERR_INJECT_ADDR_LO + s0.getW R.ERR_INJECT_ADDR_HI % 128 * 2 ^ 32) = c then s0.setF R.ERR_INJECT.armed 0 else s0
  let us := (List.range 9).map (fun p => c * 9 + p)
  let s1 := (s.flushCache c).each us (fun s' u => s'.losePup u)
  let s2 := s1.each us (fun s' u => s'.startSlice u)
  let here := fun (z : MeshEnt) => decide (z.got < meshBeats z.pkt) || decide (0 < z.gone)
  let gone := (s2.mesh.filter (fun e => e.1 / 16 == c)).flatMap (fun e =>
    ((if e.1 % 16 = 9 then e.2.filter here else e.2).filter (fun (z : MeshEnt) => z.got == meshBeats z.pkt)).map (fun (z : MeshEnt) => z.pkt))
  let s3 : State := { s2.absorbMesh c gone with
    mesh := s2.mesh.map (fun e => if e.1 / 16 = c then (e.1, if e.1 % 16 = 9 then e.2.filter (fun z => !here z) else []) else e)
    thm := { s2.thm with held := s2.thm.held.filter (fun (h : Nat × MemReq) => addrChest h.2.addr != c) } }
  ({ s3 with mesh := s3.mesh.filter (fun e => !e.2.isEmpty) } : State).each (s2.thm.held.filter (fun (h : Nat × MemReq) => addrChest h.2.addr == c)) (fun s' (h : Nat × MemReq) =>
    (s'.absorb (fun r => r.chest == c && r.level == 2) false).answer h.2 4 [])

/-- R27, R449: SEND vectors on their way to a core that goes into reset are posted writes, dropped and counted. -/
def State.absorbSends (s : State) (u : Nat) : State :=
  s.each (s.core u).sends (fun s' _ => s'.absorb (fun r => r.hasCore u) true)

/-- A partial reset begins: merged into one that holds it, or taking in those it holds (Table 16-7). -/
def State.resetBegin (s : State) (level chest target : Nat) : State :=
  let r : RunReset := ⟨level, chest, if level = 2 then 0 else target, level == 2 && s.isSet R.GLB_RESET_CTRL.secure_erase, 0⟩
  if s.rst.running.any (fun q => r.inside q) then s
  else
    let carried : Nat := (s.rst.running.filter (fun q => q.inside r)).foldl (fun (n : Nat) (q : RunReset) => n + q.absorbed) 0
    let s1 := { s with rst := { s.rst with running := (s.rst.running.filter (fun (q : RunReset) => !q.inside r)) ++ [{ r with absorbed := carried }] } }
    let s2 := (s1.setF R.GLB_RESET_STATUS.busy 1).each r.cores (fun s' u => ((s'.loseWork u).absorbSends u).clearCore u)
    let s3 := ((s2.holdCcs r.ccs).loseResponses r.masters).qosRefill r.masters
    (if level = 2 then s3.dieDown chest else s3).updateService.showKvm

/-- Source of the entry of R449: core island, cluster control core, chest control core. -/
def RunReset.logSource (r : RunReset) : Nat × Nat :=
  if r.level = 0 then (0, r.target) else if r.level = 1 then (6, 5 + 3 * r.chest + r.target) else (6, 1 + r.chest)

/-- R455: end times of a core's resets within 10 s. -/
def State.coreResetTimes (s : State) (u : Nat) : List Nat :=
  (Tbl.get [] s.rst.coreTimes u).filter (fun t => decide (s.now < t + 10000000000))

def State.noteReset (s : State) (u : Nat) : State :=
  { s with rst := { s.rst with coreTimes := Tbl.set [] s.rst.coreTimes u (s.coreResetTimes u ++ [s.now]) } }

/-- R452: what the last phases of a partition reset put back. -/
def State.dieUp (s : State) (r : RunReset) : State :=
  let us := (List.range 9).map (fun p => r.chest * 9 + p)
  let s1 := if r.secureErase then s.each (List.range 9) (fun s' n => s'.zeroRange (mkAddr r.chest n 0) (2 ^ 33)) else s
  let s2 := match s1.boot.fwHome with
    | some h => if s1.chestInReset h then s1 else s1.each (r.ccs.filter (fun i => s1.ccState i == 3)) (fun s' i => s'.startCc h i)
    | none => s1
  let s3 := (s2.each us (fun s' u => s'.loadPup u)).loadSlots r.chest
  s3.updateOffline

/-- Table 16-5, Table 16-6: a partial reset ends. Bit p of `bad` says physical core p of the chest fails its reset-exit
check. -/
def State.resetEnd (s : State) (r : RunReset) (bad : Nat) : State :=
  let s1 := { s with rst := { s.rst with running := s.rst.running.filter (fun q => q != r) } }
  let s2 := if r.level = 2 then s1.dieUp r else s1
  let alive := r.cores.filter (fun u => !s2.getBit (R.GLB_CHEST_MAP.phys_dead (u / 9)) (u % 9))
  let s3 : State := alive.foldl (fun (s' : State) u => ((if r.level = 2 then s' else s'.noteReset u).reload u).giveDuty u) s2
  let fails := alive.filter (fun u => bit bad (u % 9) || (r.level != 2 && decide (3 ≤ (s3.coreResetTimes u).length)))
  let s4 := s3.each fails (fun s' u => s'.declareFailed u)
  let s5 := (((s4.setF R.GLB_RESET_STATUS.busy (if s4.rst.running.isEmpty then 0 else 1)).setF R.GLB_RESET_STATUS.last_level r.level).setF
    R.GLB_RESET_STATUS.last_chest r.chest).setF R.GLB_RESET_STATUS.last_target r.target
  let s6 := (s5.incSat R.GLB_RESET_STATUS.resets 1).logE r.chest r.logSource.1 r.logSource.2 0x0F 2 false 0 (r.level + r.target * 4) r.absorbed
  (s6.raise 10).replayReady.updateService.takeoversNow.showKvm

end Sys2Proof.Machine
end

