-- ==== Sys2Proof/Machine/BootOps.lean ====
section
/-!
DEFINITION. A whole-device reset (R448), what bring-up derives and checks (R17, R442, R511-R516, R530, R531).
-/

namespace Sys2Proof.Machine

open Sys2Proof

/-! ### The whole-device reset -/

/-- R435, R436: notices to the BMC for pigeonholes that hold its messages when their receivers reset.
(DEDUCED, log entry 41.) -/
def State.bmcNotices (s : State) : State :=
  s.each ((List.range 64).filter (fun i => s.holeValid i && s.holeFull i && s.holeSender i == 1)) (fun s' i =>
    s'.toBmc [3, BitVec.ofNat 8 i])

/-- R301, R549, Table 9-8: the level of the strap as sampled at the release of PERST_N. -/
def State.strapLevel (s : State) : State :=
  let v := if s.pins.behavSel then 4 else 3
  ((s.setF R.GLB_BEHAVIOUR.strap v).setF R.GLB_BEHAVIOUR.level v).setF R.KVM_STATUS.level (v - 3)

/-- The state of a part that a whole-device reset has taken down: what outlives it are the fuses, the pins with the
THERMTRIP_N latch (R551), the time since PERST_N was released, the JTAG port, and the model's own queue, messages and
free-value number. A new challenge is drawn (R513, R527). (DESIGN CHOICE, log entry 13; DEDUCED, log entry 41.) -/
def State.wholeReset (s0 : State) : State :=
  let s := s0.bmcNotices.cutBurn
  ({ State.reset with
    pending := s.pending, out := s.out, fresh := s.fresh, now := s.now, fuse := s.fuse
    pins := { s.pins with brownOut := false }
    sec := { SecSt.zero with challengeNo := s.sec.challengeNo + 1 }
    jtag := s.jtag } : State).strapLevel.pinLevels

/-- A chest's dies lose power (R545) or its plinth floor fails (R32): what its die held is gone, its control cores are
off, no reset of it runs. (DEDUCED, log entry 50.) -/
def State.chestLost (s0 : State) (c : Nat) : State :=
  let s := s0.each (List.range 9) (fun s' p => s'.loseWork (c * 9 + p))
  let s1 := { s with
    boot := { s.boot with upChests := setBit s.boot.upChests c false }
    cores := Tbl.keep s.cores (fun u => u / 9 != c), slices := Tbl.keep s.slices (fun u => u / 9 != c)
    pups := Tbl.keep s.pups (fun u => u / 9 != c), lines := Tbl.keep s.lines (fun k => k / 8192 != c)
    slots := Tbl.keep s.slots (fun k => k / 4096 != c), mesh := Tbl.keep s.mesh (fun k => k / 16 != c)
    rst := { s.rst with running := s.rst.running.filter (fun (r : RunReset) => r.chest != c) } }
  let s2 := s1.setF R.GLB_RESET_STATUS.busy (if s1.rst.running.isEmpty then 0 else 1)
  s2.each ((List.range 17).filter (fun i => i == 1 + c || (decide (5 ≤ i) && (i - 5) / 3 == c))) (fun s' i =>
    ((s'.setF (R.MBX_CC_STATUS.state i) 0).setCc i (fun _ => CcSt.zero)).receiverReset (endpointOfCc i))

/-! ### Logical numbering (R17) -/

/-- The defect list of the park record in force names these cores of chest c. -/
def State.listedCores (s : State) (c : Nat) : Nat :=
  (List.range 9).foldl (fun m p => if s.park.bootDefects.contains (defCore c p) then m + 2 ^ p else m) 0

/-- R17. -/
def State.numberChest (s : State) (c : Nat) : State :=
  let dead := Tbl.get 0 s.fuse.dead c ||| s.listedCores c
  let fu := Tbl.get 8 s.fuse.understudy c
  let u := if dead = 0 ∨ bit dead fu = true then fu else ((List.range 9).find? (bit dead)).getD fu
  let present := (List.range 8).foldl (fun m n => if bit dead (ownPhys u n) then m else m + 2 ^ n) 0
  ((((s.setF (R.GLB_CHEST_MAP.understudy_pos c) u).setF (R.GLB_CHEST_MAP.phys_dead c) dead).setF
    (R.GLB_CHEST_MAP.logical_present c) present).setF (R.GLB_CHEST_MAP.understudy_ready c) (if bit dead u then 0 else 1)).setF
    (R.GLB_CHEST_MAP.takeover_logical c) 0xF

/-! ### The park record (R511-R514) -/

/-- "DSKPARK4". -/
def parkMagic : Nat := leNat ([0x44, 0x53, 0x4B, 0x50, 0x41, 0x52, 0x4B, 0x34].map (BitVec.ofNat 8))

/-- A section's offset and length lie between the header and the signature, on a 64-byte boundary. -/
def parkSecOk (len off n : Nat) : Bool := off % 64 == 0 && decide (256 ≤ off) && decide (off + n + 64 ≤ len)

/-- R514, code 0x2. -/
def parkFormatOk (b : List Byte) : Bool :=
  fieldAt b 0 8 == parkMagic && fieldAt b 8 2 == 1 && bits (fieldAt b 0xA 2) 15 4 == 0 && fieldAt b 0xC 4 == b.length &&
  b.length % 64 == 0 && decide (320 ≤ b.length) && fieldAt b 0xA0 96 == 0 &&
  parkSecOk b.length (fieldAt b 0x88 4) (8 * fieldAt b 0x8C 4) &&
  fieldAt b 0x94 4 == 663552 && parkSecOk b.length (fieldAt b 0x90 4) 663552 &&
  fieldAt b 0x9C 4 == 4096 && parkSecOk b.length (fieldAt b 0x98 4) 4096

/-- R512: an entry with the bits its kind does not use at zero. -/
def defNormal (d : Nat) : Nat :=
  let k := bits d 63 62
  if k = 0 then d / 2 ^ 36 * 2 ^ 36 else if k = 1 then d / 2 ^ 53 * 2 ^ 53 else d / 2 ^ 56 * 2 ^ 56

def parkDefects (b : List Byte) : List Nat := (List.range (fieldAt b 0x8C 4)).map (fun i => fieldAt b (fieldAt b 0x88 4 + 8 * i) 8)

/-- R514: the check of a supplied record: its code. -/
def State.parkCheck (s : State) (b : List Byte) : Nat :=
  if !parkFormatOk b then 2
  else if !edOk devicePub (b.take (b.length - 64)) (b.drop (b.length - 64)) then 3
  else if fieldAt b 0x10 8 ≠ s.fuse.serial then 4
  else if fieldAt b 0x18 4 ≠ s.fuse.version then 5
  else if 4096 < fieldAt b 0x8C 4 ∨ (parkDefects b).any (fun d => bits d 63 62 == 3 || decide (8 < bits d 59 56)) then 6
  else 0

/-- A valid record: its defect list, trained values, kinds and digest are in force for this boot. -/
def State.acceptPark (s : State) (b : List Byte) : State :=
  ({ s with park := { s.park with
      accepted := some (Config.sha512 b), acceptedCount := fieldAt b 0x1C 4, acceptedKinds := fieldAt b 0xA 2
      acceptedTrained := (b.drop (fieldAt b 0x90 4)).take 663552, bootDefects := (parkDefects b).map defNormal } }).setF
    R.GLB_BOOT_STATUS.park_valid 1

def State.checkPark (s : State) (b : List Byte) : State :=
  let code := s.parkCheck b
  let s1 := s.setF R.BST_PARK_CHECK.code code
  if code = 0 then s1.acceptPark b else s1

/-! ### Self-tests and training (R442, R505, R515, R516) -/

def upChestList (s : State) : List Nat := (List.range 4).filter s.chestUp

/-- R515: kinds of the start-time self-test. -/
def State.startKinds (s : State) : List Nat :=
  if s.park.accepted.isNone || s.isSet R.GLB_BOOT_CTRL.force_train then [1, 2]
  else [1, 2].filter (fun k => !(bit s.park.acceptedKinds (k - 1) && bit s.park.acceptedKinds (k + 1)))

/-- BST_RESULT: the outcome of a kind of a chest (0 not run, 1 passed, 2 failed, 3 inconclusive). -/
def State.setOutcome (s : State) (c k o : Nat) : State :=
  let w := s.getF R.BST_RESULT.outcome
  (s.setF R.BST_RESULT.outcome (putBits w (4 * c + 2 * (k - 1) + 1) (4 * c + 2 * (k - 1)) o))

/-- R505: a failing physical channel puts the logical channel it serves into the defect list. -/
def State.listChannel (s : State) (u k : Nat) : State :=
  match (List.range 8).find? (fun ch => physChan (s.slice u) ch == k) with
  | some ch => s.recordDefect (defChan (u / 9) (u % 9) ch)
  | none => s

/-- What the start-time self-test of the chests that came up leaves. -/
def State.startSelfTest (s : State) (r : SelfTestRes) : State :=
  let kinds := s.startKinds
  let s1 := s.each (upChestList s) (fun s' c => s'.each kinds (fun s'' k =>
    let n := (r.items.find? (fun x => x.1 == c && x.2.1 == k)).map (fun x => x.2.2)
    let s3 := s''.setOutcome c k (if n.getD 0 = 0 then 1 else 2)
    if n.getD 0 = 0 then s3 else s3.flag R.BST_FLAGS.item_fail))
  if kinds.isEmpty then s1
  else
    let s2 := s1.each (r.itemChans.filter (fun x => decide (x.1 < 36) && s.chestUp (x.1 / 9))) (fun s' x => s'.listChannel x.1 x.2)
    s2.each (r.itemCores.filter (fun u => decide (u < 36) && s.chestUp (u / 9))) (fun s' u => s'.recordDefect (defCore (u / 9) (u % 9)))

/-- R516: a failing checker: a core is dead for this start, a slice failed, a chest not usable. -/
def State.eccSelfTest (s : State) (r : SelfTestRes) : State :=
  let here := fun (u : Nat) => decide (u < 36) && s.chestUp (u / 9)
  let fail := fun (s : State) (c : Nat) => (s.flag R.BST_FLAGS.ecc_fail).putBit R.BST_ECC.chest_fail c true
  let s1 := s.each (r.eccCores.filter here) (fun s' u => (fail s' (u / 9)).declareFailed u)
  let s2 := s1.each (r.eccSlices.filter here) (fun s' u =>
    let s3 := ((fail s' (u / 9)).setSlice u (fun t => { t with eccFail := true })).setF (R.SLC_STATUS.state u) 3
    s3.logE (u / 9) 1 (u % 9) 6 1 false 0 (3 * 256) 1)
  s2.each (r.eccMesh.filter s.chestUp) (fun s' c =>
    ({ fail s' c with boot := { s'.boot with meshBad := setBit s'.boot.meshBad c true } }).logE 0 0xC 0 0x19 1 false 0 (2 ^ c) 1)

/-- R442: a physical channel that fails full training is out of service. -/
def State.trainingFails (s : State) (u k : Nat) : State :=
  let t := s.slice u
  let mask := s.getF (R.SLC_STATUS.ch_working u)
  match (List.range 8).find? (fun ch => physChan t ch == k) with
  | some ch =>
    let f := dropPath (t, mask) ch
    (((s.setSlice u (fun _ => { f.1 with degraded := (working f.1).length == 7 })).showSlice u f.2).recordDefect (defChan (u / 9) (u % 9) ch))
  | none => s.showSlice u (setBit mask k false)

/-- The working physical channels of a chest: slice key and channel. -/
def State.chestChans (s : State) (c : Nat) : List (Nat × Nat) :=
  (List.range 9).flatMap (fun p => ((List.range 9).filter (fun k => s.getBit (R.SLC_STATUS.ch_working (c * 9 + p)) k)).map (fun k => (c * 9 + p, k)))

/-- R442: channel training of one chest, and GLB_TRAIN. -/
def State.trainChest (s : State) (r : SelfTestRes) (c : Nat) : State :=
  let chans := s.chestChans c
  let usePark := s.park.accepted.isSome && !s.isSet R.GLB_BOOT_CTRL.force_train
  let onPark := if usePark then chans.filter (fun x => !r.eyeFail.contains x) else []
  let full := chans.filter (fun x => !onPark.contains x)
  let s1 := s.each (full.filter (fun x => r.trainFail.contains x)) (fun s' x => s'.trainingFails x.1 x.2)
  let s2 := { s1 with park := { s1.park with parkTrained := s1.park.parkTrained ++ onPark.map (fun (x : Nat × Nat) => x.1 * 9 + x.2) } }
  let s3 := if onPark.isEmpty then s2 else s2.setF R.GLB_BOOT_STATUS.park_used 1
  ((s3.setF (R.GLB_TRAIN.park c) onPark.length).setF (R.GLB_TRAIN.full c) full.length).setF (R.GLB_TRAIN.failed c)
    (81 - (s3.chestChans c).length)

/-! ### Licences (R530, R531) -/

/-- "DSKLICE4". -/
def licMagic : Nat := leNat ([0x44, 0x53, 0x4B, 0x4C, 0x49, 0x43, 0x45, 0x34].map (BitVec.ofNat 8))

def licFeatures (b : List Byte) : Nat := bits (fieldAt b 0xA 2) 4 0

/-- R531: is a licence accepted? -/
def State.licenceOk (s : State) (b : List Byte) : Bool :=
  b.length == 128 && fieldAt b 0 8 == licMagic && fieldAt b 8 2 == 1 && bits (fieldAt b 0xA 2) 15 5 == 0 && fieldAt b 0xC 4 == 0 &&
  fieldAt b 0x20 32 == 0 && fieldAt b 0x10 8 == s.fuse.serial && edOk Config.vendorKey (b.take 64) (b.drop 64)

/-- R530: the licences of a set; those beyond sixteen are ignored. -/
def licenceSet (b : List Byte) : List (List Byte) := (List.range (min 16 (b.length / 128))).map (fun i => (b.drop (128 * i)).take 128)

/-- R444, R531: the licences of the set, the features in force, and the ports they open (R323). -/
def State.applyLicences (s : State) (b : List Byte) : State :=
  let l := licenceSet b
  let ok := l.filter s.licenceOk
  let bad := l.length - ok.length
  let feat := ok.foldl (fun m x => m ||| licFeatures x) 0
  let s1 := { s with boot := { s.boot with licences := ok } }
  let s2 := ((s1.setF R.SEC_LICENCE.features feat).setF R.SEC_LICENCE.accepted ok.length).setF R.SEC_LICENCE.ignored bad
  let s3 := (s2.setF R.PZL_ID.ports (if bit feat 1 then 8 else 4)).each (List.range (if bit feat 1 then 8 else 4)) (fun s' p => s'.licensePort p)
  s3.each (List.range bad) (fun s' _ => s'.logP 0xC 0 0x1A 0 (6 + 0xFF * 256))

/-! ### Steps (R439) -/

/-- The step a write of GLB_BOOT_CTRL names may start: the step before it is done, none runs, and it has not started.
(DEDUCED, log entry 44.) -/
def State.stepMayStart (s : State) (k : Nat) : Bool :=
  s.stepState (k - 1) == 2 && (List.range 7).all (fun j => s.stepState j != 1) && s.stepState k == 0

def State.setStep (s : State) (k v : Nat) : State := s.setW R.GLB_BOOT_STATUS (putBits (s.getW R.GLB_BOOT_STATUS) (2 * k + 1) (2 * k) v)

/-- R439: a write out of order. (DEDUCED, log entry 45.) -/
def State.stepRefused (s : State) (k : Nat) : State :=
  (((s.setF R.GLB_BOOT_ERR.step k).setF R.GLB_BOOT_ERR.code 1).setF R.GLB_BOOT_ERR.detail 0).logP 0xC 0 0x1A 0 (k % 16 + 256)

/-- A write of GLB_BOOT_CTRL that names step k: its fields, then the step's work, or the refusal. From step 3 on the
floor control core does the work (R430). (DEDUCED, log entry 45.) -/
def State.startStep (s : State) (k v : Nat) (work : State → State) : State :=
  let s1 := (s.setF R.GLB_BOOT_CTRL.force_train (bits v 8 8)).setF R.GLB_BOOT_CTRL.chests (bits v 7 4)
  if bits v 2 0 ≠ k then s1
  else if !s1.stepMayStart k then s1.stepRefused k
  else if 3 ≤ k ∧ s1.ccRuns 0 = false then s1
  else work { s1.setStep k 1 with boot := { s1.boot with code := 0, detail := 0 } }

/-- The running step will end with an error. -/
def State.stepFails (s : State) (code detail : Nat) : State := { s with boot := { s.boot with code := code, detail := detail } }

end Sys2Proof.Machine
end

