-- ==== Sys2Proof/Machine/Boot.lean ====
section
/-!
DEFINITION. The start steps 2-6 (R439-R444).
-/

namespace Sys2Proof.Machine

open Sys2Proof

/-- What a step fetched from the host: LEN units of 64 bytes from an aligned address (Table 16-12), or none. -/
def State.stepFetch (s : State) (srcLo len : Nat) (r : HostRead) : Option (List Byte) :=
  if s.getW srcLo % 64 ≠ 0 then none
  else r.bind (fun b => if b.length = 64 * bits (s.getW len) 17 0 then some b else none)

/-! ### Step 2 (R440) -/

/-- The park record, if one is given. -/
def State.stepPark (s : State) (park : HostRead) : State :=
  if bits (s.getW R.GLB_BOOT_PARK_LEN) 17 0 = 0 then s
  else match s.stepFetch R.GLB_BOOT_PARK_SRC_LO R.GLB_BOOT_PARK_LEN park with
    | none => s.stepFails 2 0
    | some b => s.checkPark b

def bootStep2Op (s : State) (v : Nat) (fw park : HostRead) : State :=
  s.startStep 2 v (fun s =>
    match s.stepFetch R.GLB_BOOT_FW_SRC_LO R.GLB_BOOT_FW_LEN fw with
    | none => s.stepFails 2 0
    | some b =>
      if !fwHeaderOk b then s.stepFails 3 0
      else if !fwSigOk b then s.stepFails 4 0
      else
        let s1 := { s with
          boot := { s.boot with fw := b }, sec := { s.sec with fwDigest := Config.sha512 (b.take (b.length - 64)) } }
        (((s1.loadCc 0 ((b.drop (roleOff b 0)).take (roleLen b 0), roleEntry b 0)).runCc 0).stepPark park))

def execBootStep2 (v : Nat) (fw park : HostRead) (s : State) : Host.Outcome State Fault Refusal :=
  whenUp s (fun s => bootStep2Op s v fw park)

/-! ### Step 3 (R441) -/

/-- A chest comes up: its sensors begin to convert (R499), its numbering, its slices from the fuse map and the defect list. -/
def State.chestComesUp (s : State) (c : Nat) : State :=
  let s1 := ({ s with
    boot := { s.boot with upChests := setBit s.boot.upChests c true }
    thm := { s.thm with convAt := (List.range 108).foldl (fun t i => Tbl.set 0 t (c * 116 + i) s.now) s.thm.convAt } }).numberChest c
  s1.each (List.range 9) (fun s' p => s'.startSlice (c * 9 + p))

/-- Bit c of `faulted`: the regulators or clocks of chest c fault. -/
def bootStep3Op (s : State) (v faulted : Nat) : State :=
  s.startStep 3 v (fun s =>
    let named := (List.range 4).filter (fun c => s.getBit R.GLB_BOOT_CTRL.chests c)
    let left := named.filter (bit faulted)
    let mask := left.foldl (fun m c => m + 2 ^ c) 0
    let s1 := s.each (named.filter (fun c => !bit faulted c)) (fun s' c => s'.chestComesUp c)
    let s2 := (s1.updateOffline).updateRoutes
    let s3 := if mask = 0 then s2 else s2.logE 0 0xC 0 0x19 1 false 0 mask 1
    if s3.boot.upChests = 0 then s3.stepFails 6 mask else s3)

def execBootStep3 (v faulted : Nat) (s : State) : Host.Outcome State Fault Refusal := whenUp s (fun s => bootStep3Op s v faulted)

/-! ### Step 4 (R442) -/

/-- Every sector of every slice written zero with fresh check bytes. -/
def State.zeroMemory (s : State) : State := { s with mem := [], bad := [], memLost := 0, lines := [], slots := [] }

def bootStep4Op (s : State) (v : Nat) (r : SelfTestRes) : State :=
  s.startStep 4 v (fun s =>
    let s1 := (s.eccSelfTest r).startSelfTest r
    let s2 := s1.each (upChestList s1) (fun s' c => s'.trainChest r c)
    let s3 := { s2 with park := { s2.park with trainedEpoch := s2.fresh + 1 } }.tick.zeroMemory
    if (upChestList s3).all (fun c => (List.range 9).all (fun p => s3.sliceState (c * 9 + p) == 3)) then s3.stepFails 7 0 else s3)

def execBootStep4 (v : Nat) (res : SelfTestRes) (s : State) : Host.Outcome State Fault Refusal :=
  whenUp s (fun s => bootStep4Op s v res)

/-! ### Step 5 (R426, R443) -/

/-- The chest whose sideboard slice takes the copy. -/
def State.fwHomeChest (s : State) : Option Nat :=
  (upChestList s).find? (fun c => s.sliceState (c * 9 + s.understudy c) != 3)

/-- Chest of a control core; the floor core counts to plinth 0. -/
def ccChest (i : Nat) : Nat := if i = 0 then 0 else if i < 5 then i - 1 else (i - 5) / 3

/-- A core's section arrives, is hashed, and the core starts or fails; bit i of `bad`: it arrives corrupted. -/
def State.broadcastTo (s : State) (home bad i : Nat) : State :=
  if bit bad i then s.failCc i true
  else
    let r := s.sectionRead home i
    match r.2 with
    | none => r.1.failCc i true
    | some x => if i = 0 then r.1.loadCc i x else (r.1.loadCc i x).runCc i

def bootStep5Op (s : State) (v bad : Nat) : State :=
  s.startStep 5 v (fun s =>
    let ccs := (List.range 17).filter (fun i => i == 0 || s.chestUp (ccChest i))
    let s2 := match s.fwHomeChest with
      | none => s.each ccs (fun s' i => if i = 0 then s' else s'.failCc i true)
      | some h =>
        let s1 := ({ s with boot := { s.boot with fwHome := some h } }).ownWrite (fwCopyAddr h) s.boot.fw
        s1.each ccs (fun s' i => s'.broadcastTo h bad i)
    let failed := ccs.filter (fun i => s2.ccState i == 4)
    let s3 := s2.takeoversNow
    if s2.ccState 0 == 4 || (ccs.filter (fun (i : Nat) => decide (1 ≤ i) && decide (i < 5))).all (fun (i : Nat) => failed.contains i) then
      s3.stepFails 5 (failed.head?.getD 0)
    else s3)

def execBootStep5 (v badCores : Nat) (s : State) : Host.Outcome State Fault Refusal := whenUp s (fun s => bootStep5Op s v badCores)

/-! ### Step 6 (R444) -/

def bootStep6Op (s : State) (v : Nat) (lic : HostRead) : State :=
  s.startStep 6 v (fun s =>
    if bits (s.getW R.GLB_BOOT_LIC_LEN) 17 0 = 0 then s.applyLicences []
    else match s.stepFetch R.GLB_BOOT_LIC_SRC_LO R.GLB_BOOT_LIC_LEN lic with
      | none => s.stepFails 2 0
      | some b => s.applyLicences b)

def execBootStep6 (v : Nat) (lic : HostRead) (s : State) : Host.Outcome State Fault Refusal :=
  whenUp s (fun s => bootStep6Op s v lic)

/-! ### Order and end (R439) -/

/-- A write that names step 2-6 out of order; the other values of the field are ignored (Table 16-9).
(DEDUCED, log entry 44.) -/
def bootOutOfOrderOp (s : State) (v : Nat) : State :=
  let k := bits v 2 0
  s.guard (decide (2 ≤ k) && decide (k ≤ 6) && !s.stepMayStart k) (fun s => s.startStep k v (fun s => s))

def execBootStepOutOfOrder (v : Nat) (s : State) : Host.Outcome State Fault Refusal := whenUp s (fun s => bootOutOfOrderOp s v)

/-- The running step ends after `timeUs`. -/
def bootStepEndOp (s : State) (timeUs : Nat) : State :=
  match (List.range 7).find? (fun k => s.stepState k == 1) with
  | none => s
  | some k =>
    let s1 := (s.setStep k (if s.boot.code = 0 then 2 else 3)).setW R.GLB_BOOT_TIME (timeUs % 2 ^ 32)
    let s2 := if s.boot.code = 0 then s1
      else ((s1.setF R.GLB_BOOT_ERR.step k).setF R.GLB_BOOT_ERR.code s.boot.code).setF R.GLB_BOOT_ERR.detail s.boot.detail
    s2.updateService.raise 1

def execBootStepEnd (timeUs : Nat) (s : State) : Host.Outcome State Fault Refusal := whenUp s (fun s => bootStepEndOp s timeUs)

end Sys2Proof.Machine
end

