-- ==== Sys2Proof/Machine/Control.lean ====
section
/-!
DEFINITION. Control cores and pigeonholes (chapter 15).
-/

namespace Sys2Proof.Machine

open Sys2Proof

/-- R423: bits [1:0] of a write to CSR reqclass. -/
def reqclassWrite (s : State) (i v : Nat) : State :=
  s.guard (decide (i < 17) && s.ccRuns i) (fun s => s.setCc i (fun t => { t with reqclass := v % 4 }))

def execReqclass (i v : Nat) (s : State) : Host.Outcome State Fault Refusal := whenUp s (fun s => reqclassWrite s i v)

/-- R428: a write to CSR wdkick restarts the watchdog's count. -/
def wdkickWrite (s : State) (i : Nat) : State :=
  s.guard (decide (i < 17) && s.ccRuns i) (fun s => s.setCc i (fun t => { t with kicked := s.now }))

def execWdkick (i : Nat) (s : State) : Host.Outcome State Fault Refusal := whenUp s (fun s => wdkickWrite s i)

/-- R428: the count of a running core reaches its period; the core is hung (R429). (DESIGN CHOICE, log entry 4.) -/
def watchdogExpires (s : State) (i : Nat) : State :=
  s.guard (decide (i < 17) && s.ccRuns i && decide ((s.cc i).kicked + s.watchdogNs i ≤ s.now)) (fun s => s.restartCc i)

def execWatchdogExpiry (i : Nat) (s : State) : Host.Outcome State Fault Refusal := whenUp s (fun s => watchdogExpires s i)

/-- R428: the floor core's heartbeat to every other control core that runs; bit i of `answered` says core i answers
within 1 ms. -/
def heartbeatRound (s : State) (answered : Nat) : State :=
  s.guard (s.ccRuns 0) (fun s =>
    s.each (((List.range 17).drop 1).filter s.ccRuns) (fun s' i =>
      let s1 := s'.emit (.heartbeat i)
      if bit answered i then s1.setCc i (fun t => { t with missed := 0 })
      else
        let s2 := s1.setCc i (fun t => { t with missed := t.missed + 1 })
        if 3 ≤ (s2.cc i).missed then s2.restartCc i else s2))

def execHeartbeat (answered : Nat) (s : State) : Host.Outcome State Fault Refusal := whenUp s (fun s => heartbeatRound s answered)

/-- R429: the reload and digest check of a restarting core. A reset of the chest that holds the copy is waited for
(R453). -/
def controlCoreStart (s : State) (i : Nat) : State :=
  match s.boot.fwHome with
  | none => s
  | some c => s.guard (decide (i < 17) && s.ccState i == 3 && !s.chestInReset c && !s.rst.running.any (fun r => r.hasCc i)) (fun s => s.startCc c i)

def execControlCoreStart (i : Nat) (s : State) : Host.Outcome State Fault Refusal := whenUp s (fun s => controlCoreStart s i)

/-- The 64 bytes of the TX staging registers. -/
def txPayload (s : State) (i : Nat) : List Byte := (List.range 16).flatMap (fun w => leBytes 4 (s.getW (R.MBX_P_TX i w)))

/-- R433, R434: MBX_Pn_CTRL.send = 1. -/
def pigeonholeSendOp (s : State) (m : Master) (i : Nat) : State :=
  match m.endpoint with
  | none => s
  | some e =>
    if 64 ≤ i ∨ s.holeOpen i = false then s
    else if s.holeValid i && s.holeSender i == e then s.sendHole i (txPayload s i)
    else s.holeRefused i e

def execPigeonholeSend (m : Master) (i : Nat) (s : State) : Host.Outcome State Fault Refusal :=
  whenUp s (fun s => pigeonholeSendOp s m i)

/-- R433: MBX_Pn_CTRL.take = 1. -/
def pigeonholeTakeOp (s : State) (m : Master) (i : Nat) : State :=
  match m.endpoint with
  | none => s
  | some e =>
    if 64 ≤ i ∨ s.holeOpen i = false then s
    else if s.holeValid i && s.holeReceiver i == e then s.takeHole i
    else s.holeRefused i e

def execPigeonholeTake (m : Master) (i : Nat) (s : State) : Host.Outcome State Fault Refusal :=
  whenUp s (fun s => pigeonholeTakeOp s m i)

/-- R432: the floor control core writes a binding entry before the lock; that pigeonhole is emptied with no notice. -/
def bindWrite (s : State) (m : Master) (i v : Nat) : State :=
  s.guard (m == .cc 0 && decide (i < 64) && !s.isSet R.MBX_LOCK.locked && s.bindOpen v) (fun s =>
    let s1 := ((s.setF (R.MBX_BIND.valid i) (bits v 31 31)).setF (R.MBX_BIND.receiver i) (bits v 12 8)).setF (R.MBX_BIND.sender i) (bits v 4 0)
    ((s1.setF (R.MBX_P_STATUS.pending_coll i) 0).setHoleFull i false).setPayload i [])

def execMbxBindWrite (m : Master) (i v : Nat) (s : State) : Host.Outcome State Fault Refusal :=
  whenUp s (fun s => bindWrite s m i v)

/-- R432: MBX_LOCK is write-one-to-set for the floor control core; host writes are ignored. -/
def lockWrite (s : State) (m : Master) (v : Nat) : State :=
  s.guard (m == .cc 0 && bit v 0) (fun s => s.setF R.MBX_LOCK.locked 1)

def execMbxLock (m : Master) (v : Nat) (s : State) : Host.Outcome State Fault Refusal := whenUp s (fun s => lockWrite s m v)

/-- Bytes of a list from an offset, zero beyond its end. -/
def bytesFrom (l : List Byte) (off n : Nat) : List Byte := (List.range n).map (fun i => l.getD (off + i) 0)

/-- Table 15-5: SEND from the BMC; one not bound to the BMC as sender is refused. (PRESUMED, log entry 97.) -/
def mctpSendOp (s : State) (b : List Byte) : State :=
  if b.headD 0 ≠ 1 then s
  else
    let i := (b.getD 1 0).toNat
    if i < 64 ∧ s.holeOpen i = false then s
    else if s.holeValid i && s.holeSender i == 1 then s.sendHole i (bytesFrom b 2 64)
    else (s.holeRefused i 1).toBmc [4, b.getD 1 0]

def execMctpSend (bytes : List Byte) (s : State) : Host.Outcome State Fault Refusal := whenUp s (fun s => mctpSendOp s bytes)

/-- Table 15-5: another value of byte 0 is ignored and logged. -/
def mctpOtherOp (s : State) (b : List Byte) : State :=
  if b.headD 0 = 1 then s else s.holeRefused (b.getD 1 0).toNat 1

def execMctpOther (bytes : List Byte) (s : State) : Host.Outcome State Fault Refusal := whenUp s (fun s => mctpOtherOp s bytes)

/-- R436: a route to the BMC becomes available. -/
def routeToBmc (s : State) : State := { s with bmcRoute := true }.each (List.range 64) (fun s' i => s'.deliverToBmc i)

def execMctpRouteToBmc (s : State) : Host.Outcome State Fault Refusal := whenUp s routeToBmc

end Sys2Proof.Machine
end

