-- ==== Sys2Proof/Machine/Descriptor.lean ====
section
/-!
DEFINITION. Operations (chapter 06): the start of a descriptor or of an attention pair, shape records, the fetch engine.
-/

namespace Sys2Proof.Machine

open Sys2Proof

/-! ### Descriptors (R168-R170) -/

/-- The home address of descriptor n of the logical core that core u serves. -/
def State.descHome (s : State) (u n : Nat) : Option Nat :=
  (s.logicalOf (u / 9) (u % 9)).bind (fun m => s.descAddr (u / 9 * 8 + m) n)

/-- A descriptor's bytes without the accounting of a read. -/
def State.descPeek (s : State) (u n : Nat) : Option Desc := (s.descHome u n).map (fun a => (List.range 256).map (fun k => s.rdByte (a + k)))

/-- The descriptors that start together: one, or the pair's score and value (R139). -/
def State.opGroup (s : State) (u n : Nat) : List Nat :=
  match s.descPeek u n with
  | some d => if d.kind = 2 then [n, d.partner] else if d.kind = 3 then [d.partner, n] else [n]
  | none => []

/-! ### Shapes (R174-R178) -/

/-- R174: where a descriptor's run-time shape comes from: nothing yet (the record has not been read), or a shape, or a
failed read. -/
def State.shapeNow (s : State) (u n : Nat) (d : Desc) : Option (Option Shape) :=
  let t := s.core u
  if d.shapeSrc = 1 then
    some (some ((t.work.bind (fun w => s.jFind w.jid)).elim d.planShape (fun e => shapeOfBytes (e.bytes.drop 0x20))))
  else if d.shapeSrc = 2 then (t.recs.find? (fun r => r.1 == n)).map (fun r => r.2)
  else some (some d.planShape)

/-- The descriptor that runs next on a core that is free to start it. -/
def startable (t : CoreSt) : Option Nat :=
  if t.ops.isEmpty && t.finish.isNone && t.ctx.isNone && t.pctx.isNone then
    t.work.bind (fun w => if w.result = 0 then w.next else none)
  else none

/-- R174: the next shape record that the operation about to start waits for is read, once, after its landing tile's
flag; `bad`: its bytes hold an uncorrectable error (R176). -/
def shapeRecordOp (s : State) (u : Nat) (bad : Bool) : State :=
  match startable (s.core u) with
  | none => s
  | some n =>
    match (s.opGroup u n).find? (fun k => ((s.descPeek u k).elim false (fun d => d.shapeSrc == 2)) &&
        !(s.core u).recs.any (fun r => r.1 == k)) with
    | none => s
    | some k =>
      match s.descPeek u k with
      | none => s
      | some d =>
        if s.arrived u d.shapeLanding then
          let off := (s.landTile u d.shapeLanding).elim 0 (fun c => c.off)
          let v := if bad then none else some (shapeOfBytes (s.getTile u off 16))
          s.setCore u (fun t => { t with recs := t.recs ++ [(k, v)] })
        else s

def execShapeRecordRead (u : Nat) (bad : Bool) (s : State) : Host.Outcome State Fault Refusal :=
  whenUp s (fun s => shapeRecordOp s u bad)

/-! ### Start (R170, R175-R178) -/

/-- R175, R176, Table 17-4: a refused shape: logged with the descriptor's address; bit 5 a shape source fault. -/
def State.logShape (s : State) (u n mask : Nat) : State :=
  s.logE (u / 9) 0 (u % 9) 0x0C 2 true ((s.descHome u n).getD 0) mask 1

/-- R178: the blocks of an operation whose run-time K is zero are ready at once. -/
def readyBlocks (t : CoreSt) (i : Nat) : List BlockId :=
  (List.range t.ops.length).flatMap (fun k =>
    let o := t.op k
    if o.shape.k = 0 ∧ shapeEmpty o.shape = false then (dealt o.desc o.shape i).flatMap (fun hn =>
      (List.range (blocks o.desc o.shape)).map (fun b => ⟨k, hn.1, hn.2, b⟩))
    else [])

/-- R178, R142: a pair without keys finishes every row with m = −∞: the statistics start there. -/
def emptyStats (t : CoreSt) (o : OpSt) : CoreSt :=
  (List.range (subCount o.desc.mode)).foldl (fun t i => (List.range (blocks o.desc o.shape)).foldl (fun t b =>
    let t1 := initStats t i (rowsOf o b) 1
    if spansBlocks o.desc then saveStats t1 o.desc i b (rowsOf o b) else t1) t) t

/-- The operations take the array. -/
def State.beginOps (s : State) (u : Nat) (ops : List OpSt) : State :=
  let s1 := s.setCore u (fun t =>
    let t1 := { t with ops := ops, subs := [] }
    let last := t1.op (ops.length - 1)
    let t2 := if 1 < ops.length ∧ last.shape.k = 0 then emptyStats t1 last else t1
    let subs := List.range (subCount t2.mode)
    { t2 with subs := subs.foldl (fun m i => Tbl.set SubSt.zero m i { SubSt.zero with ready := readyBlocks t2 i }) []
              order := subs.flatMap (fun i => ((readyBlocks t2 i).filter (fun b => s.toEpilogue u (t2.op b.op).desc)).map (fun b => (i, b))) })
  s1.settleOps u

/-- R170: the descriptors of a group are read whole, as requests of the core: what was read, and 0 good, 1 one failed, 2 one is held
by a cue or a pause (R243, R493). -/
def State.readGroup (s : State) (u : Nat) (l : List Nat) : State × List (Nat × Desc) × Nat :=
  l.foldl (fun (st : State × List (Nat × Desc) × Nat) n =>
    if st.2.2 ≠ 0 then st
    else match st.1.descHome u n with
      | none => (st.1, st.2.1, 1)
      | some a =>
        let r := st.1.unitRead (coreMid u) a 256
        (r.1, st.2.1 ++ [(n, r.2.2)], if r.2.1 = 0 then 0 else if r.2.1 = 0xF then 2 else 1)) (s, [], 0)

/-- R177: the operations of a group end at once; what follows in the work item runs. -/
def endEmpty (t : CoreSt) (ops : List OpSt) (last : OpSt) : CoreSt := endOps { t with ops := ops } last 0

/-- What the checks of a group find (R175-R177): a shape source that failed, a shape over its plan, nothing to write at all, or
operations to run. -/
inductive Start where
  | fault (l : List (Nat × Nat))
  | over (l : List (Nat × Nat))
  | empty (ops : List OpSt) (last : OpSt)
  | run (ops : List OpSt)
  deriving DecidableEq, Repr

/-- R175-R177: the checks of the descriptors read. Failed ones are listed with their syndromes. -/
def State.startKind (s : State) (u : Nat) (ds : List (Nat × Desc)) : Start :=
  let sh := ds.map (fun p => (p.1, p.2, (s.shapeNow u p.1 p.2).getD none))
  let failed := sh.filter (fun p => p.2.2.isNone)
  let above := sh.filter (fun p => p.2.2.elim false (fun z => shapeOver z p.2.1.planShape != 0))
  let ops := sh.map (fun p => (⟨p.2.1, (s.descHome u p.1).getD 0, p.1, p.2.2.getD p.2.1.planShape, 0⟩ : OpSt))
  if !failed.isEmpty then .fault (failed.map (fun p => (p.1, 0x20)))
  else if !above.isEmpty then .over (above.map (fun p => (p.1, p.2.2.elim 0 (fun z => shapeOver z p.2.1.planShape))))
  else match ops.getLast? with
    | some last => if ops.all (fun o => shapeEmpty o.shape) then .empty ops last else .run ops
    | none => .run ops

/-- R175-R178: every descriptor of the group is read and its shape checked before anything else happens. -/
def operationOp (s : State) (u : Nat) : State :=
  match startable (s.core u) with
  | none => s
  | some n =>
    let g := s.opGroup u n
    if g.any (fun k => (s.descPeek u k).elim false (fun d => (s.shapeNow u k d).isNone)) then s
    else
      let r := s.readGroup u g
      if r.2.2 = 2 then s
      else if g.isEmpty || r.2.2 ≠ 0 then r.1.failWork u 7
      else match s.startKind u r.2.1 with
        | .fault l => (r.1.each l (fun s' p => s'.logShape u p.1 p.2)).failWork u 2
        | .over l => (r.1.each l (fun s' p => s'.logShape u p.1 p.2)).failWork u 1
        | .empty ops last => (r.1.setCore u (fun t => endEmpty t ops last)).showCore u
        | .run ops => r.1.beginOps u ops

def execOperationStart (u : Nat) (s : State) : Host.Outcome State Fault Refusal := whenUp s (fun s => operationOp s u)

/-! ### The fetch engine (R172, R173, R185) -/

/-- Runs of a unit: device address, offset within the landing tile, bytes. -/
def wRuns (o : OpSt) (p : TilePos) : List (Nat × Nat × Nat) :=
  let d := o.desc
  let eb := Num.elemBits d.fmtW
  let ks := min (subK d.mode) (o.shape.k - p.kt * subK d.mode)
  let ns := min (subN d) (o.shape.n - p.nt * subN d)
  let base := d.w.addr + p.head * d.w.headStride
  if d.w.trans then (List.range ns).map (fun n =>
    (base + (p.nt * subN d + n) * d.w.rowStride + p.kt * subK d.mode * eb / 8, n * subK d.mode * eb / 8, (ks * eb + 7) / 8))
  else (List.range ks).map (fun k =>
    (base + (p.kt * subK d.mode + k) * d.w.rowStride + p.nt * subN d * eb / 8, k * subN d * eb / 8, (ns * eb + 7) / 8))

def xRuns (o : OpSt) (p : TilePos) (b : Nat) : List (Nat × Nat × Nat) :=
  let d := o.desc
  let eb := Num.elemBits d.fmtX
  let ks := min (subK d.mode) (o.shape.k - p.kt * subK d.mode)
  (List.range (rowsOf o b)).map (fun r =>
    (d.x.rowAddr (rowAt o p.head (b * blockRows d + r)) + p.kt * subK d.mode * eb / 8, r * packedBytes d.fmtX (subK d.mode), (ks * eb + 7) / 8))

/-- A fetch under way: 0 good so far, 1 failed, 2 held. -/
def State.fetchRun (s : State) (u off : Nat) (st : Nat) (r : Nat × Nat × Nat) : State × Nat :=
  if st ≠ 0 then (s, st)
  else
    let x := s.unitRead (coreMid u) r.1 r.2.2
    if x.2.1 = 0 then (x.1.putTile u (off + r.2.1) x.2.2, 0) else (x.1, if x.2.1 = 0xF then 2 else 1)

/-- The next unit of a space-0 operand of operation k goes to its landing tile once that tile's flag is clear. -/
def fetchOp (s : State) (u k : Nat) (isW : Bool) : State :=
  let t := s.core u
  if t.ops.length ≤ k then s
  else
    let o := t.op k
    let d := o.desc
    let x := if isW then d.w else d.x
    let key := k * 2 + (if isW then 1 else 0)
    let n := Tbl.get 0 t.fetched key
    match unitAt (if isW then wCounts d o.shape else xCounts d o.shape) n, s.landTile u (x.tile n) with
    | some (pos, i), some cfg =>
      if x.space ≠ 0 ∨ s.arrived u (x.tile n) = true then s
      else
        let nb := if isW then 1 else blocks d o.shape
        match (if isW then tileSeq d o.shape i else xTiles d o.shape i)[pos / (if nb = 0 then 1 else nb)]? with
        | none => s
        | some p =>
          let runs := if isW then wRuns o p else xRuns o p (pos % (if nb = 0 then 1 else nb))
          let r : State × Nat := runs.foldl (fun (st : State × Nat) r => st.1.fetchRun u cfg.off st.2 r) (s, 0)
          if r.2 = 2 then s
          else if r.2 = 1 then r.1.failWork u 7
          else (r.1.setCore u (fun t => { t with fetched := Tbl.set 0 t.fetched key (n + 1) })).setArrived u (x.tile n) true
    | _, _ => s

def execFetchUnit (u op : Nat) (isW : Bool) (s : State) : Host.Outcome State Fault Refusal := whenUp s (fun s => fetchOp s u op isW)

end Sys2Proof.Machine
end

