-- ==== Sys2Proof/Machine/Flags.lean ====
section
/-!
DEFINITION. What a register access does to each kind of field (Table 0-3): plain fields, write-one-to-set,
write-one-to-clear with its race rule and counter (R12, R473), counters that clear on read, the 64-bit latches (R10),
and the MSI-X table and pending bits (R395, R398).
-/

namespace Sys2Proof.Machine

open Sys2Proof

/-! ### Write-one-to-clear flags (R12) -/

/-- R12: a flag bit after a software clear, with hardware setting it in the same cycle or not. -/
def w1cBit (level4 old clear set : Bool) : Bool := if set && clear then level4 else if set then true else old && !clear

/-- Where the race counter of flag bit b of the register at an offset lies: word offset and byte. -/
def raceAt (off b : Nat) : Option (Nat × Nat) :=
  if off = R.GLB_INT_STATUS then some (R.GLB_INT_RACE (b / 4), b % 4)
  else if off = R.MBX_COLLISION 0 then some (R.MBX_CRACE (b / 4), b % 4)
  else if off = R.MBX_COLLISION 1 then some (R.MBX_CRACE (8 + b / 4), b % 4)
  else if off = R.MBX_ABORTED 0 then some (R.MBX_ARACE (b / 4), b % 4)
  else if off = R.MBX_ABORTED 1 then some (R.MBX_ARACE (8 + b / 4), b % 4)
  else if off = R.LAY_FLAGS && b == 4 then none
  else some (off + 4 + b / 4 * 4, b % 4)

/-- The race counter counts up and stays at 255. -/
def State.countRace (s : State) (off b : Nat) : State :=
  match raceAt off b with
  | none => s
  | some (w, j) => s.incSat ⟨w, 8 * j + 7, 8 * j⟩ 1

/-- Table 17-7: the interrupt cause a flag bit is a source of. -/
def flagCause (off b : Nat) : Option Nat :=
  if off = R.HQ_FLAGS then some 11
  else if off = R.LAY_FLAGS then some 8
  else if off = R.KVM_FLAGS then (if b = 0 then none else some 16)
  else if off = R.ERR_FLAGS then (if b = 1 then none else some 17)
  else if 0x610000 ≤ off ∧ off < 0x618000 then (if b = 1 ∨ b = 2 then some 13 else none)
  else if 0x1000000 ≤ off ∧ off < 0x2000000 then
    let o := (off - 0x1000000) % 0x400000
    if 0x200000 ≤ o ∧ o < 0x290000 ∧ o % 0x10000 = 4 then (if b = 3 then some 12 else none)
    else if o = 0x30100C ∨ o = 0x30200C then (if b = 2 ∨ b = 3 then some 14 else none)
    else none
  else none

/-- R12, R473: software clears one flag bit, hardware setting it in the same cycle or not. A status bit of an enabled
cause that is set in that cycle sends its message at either level. -/
def State.clearFlag (s : State) (off b : Nat) (hw : Bool) : State :=
  let old := bit (s.getW off) b
  let s1 := s.setW off (setBit (s.getW off) b (w1cBit s.level4 old true hw))
  if hw then
    let s2 := s1.countRace off b
    if off = R.GLB_INT_STATUS then (if s2.getBit R.GLB_INT_ENABLE.enable b then s2.sendMsix 0 b else s2)
    else match flagCause off b with
      | some c => s2.raise c
      | none => s2
  else s1

/-! ### Fields (R11) -/

/-- A field whose write is a command of its own; REGISTER_WRITE leaves it unchanged. -/
def hasOwnRow (off : Nat) (f : FieldSpec) : Bool :=
  let o := (off - 0x1000000) % 0x400000
  off == R.GLB_INT_ENABLE || off == R.PWR_MODE || off == R.PWR_CAP || off == R.THM_COOLANT || off == R.MBX_LOCK ||
  off == R.KVM_CTRL ||
  (decide (0x110000 ≤ off) && decide (off < 0x154000) &&
    ((off % 0x100 == 0 && f.hi == 0) || off % 0x100 == 0x20 || off % 0x100 == 0x2C)) ||
  (decide (0x610000 ≤ off) && decide (off < 0x618000) && off % 0x1000 == 4) ||
  (decide (0x1000000 ≤ off) && decide (off < 0x2000000) &&
    ((decide (o < 0x120000) && (o % 0x20000 == 0x1000 || o % 0x20000 == 0x1004)) ||
     (decide (0x200000 ≤ o) && decide (o < 0x290000) && o % 0x10000 == 0x8004)))

/-- R11: one field of a written word. WO fields trigger nothing here: their triggers are commands of their own. -/
def State.writeField (s : State) (off v hwSet : Nat) (f : FieldSpec) : State :=
  if hasOwnRow off f then s
  else match f.acc with
    | .rw => s.setF ⟨off, f.hi, f.lo⟩ (bits v f.hi f.lo)
    | .rws => s.setF ⟨off, f.hi, f.lo⟩ (bits v f.hi f.lo)
    | .w1s => s.setW off ((s.getW off) ||| (bits v f.hi f.lo * 2 ^ f.lo))
    | .w1c => s.each (((List.range (f.hi + 1 - f.lo)).map (· + f.lo)).filter (bit v)) (fun s' b => s'.clearFlag off b (bit hwSet b))
    | _ => s

/-- R104: a write that clears overflow or exactness_lost in COR_ARR_FLAGS clears the sub-array bits beside it. Bits [47:32]
of `hwSet` name the sub-arrays whose drain sets the bit in the same ACLK; at level 4 theirs remain set. -/
def State.clearSubFlags (s : State) (off v hwSet : Nat) : State :=
  let o := (off - 0x1000000) % 0x400000
  if 0x1000000 ≤ off ∧ off < 0x2000000 ∧ o < 0x120000 ∧ o % 0x20000 = 0x100C then
    s.each ([0, 1].filter (bit v)) (fun s' b =>
      s'.setF ⟨off + 8, 16 * b + 15, 16 * b⟩ (if s'.level4 && bit hwSet b then hwSet / 2 ^ 32 else 0))
  else s

/-- R503, R487: a budget written to CHS_BUDGET is in force until the package check lowers it. -/
def State.budgetTakes (s : State) (off : Nat) : State :=
  match (List.range 4).find? (fun c => off == R.CHS_BUDGET c) with
  | some c => s.setF (R.CHS_BUDGET.active c) (s.getF (R.CHS_BUDGET.budget c))
  | none => s

/-- Every field of a register (R11). -/
def State.writeFields (s : State) (off v hwSet : Nat) : State :=
  (s.each (R.fieldsAt off) (fun s' f => s'.writeField off v hwSet f)).clearSubFlags off v hwSet |>.budgetTakes off

/-- Does a register of a pair take its value only through a HI write (R10)? -/
def writablePair (lo : Nat) : Bool := R.isLo lo && (R.fieldsAt lo).any (fun f => f.acc == .rw)

/-! ### 64-bit latches (R10) -/

def latchKey (m : Master) (lo : Nat) : Nat := m.key * 2 ^ 26 + lo

/-- A master writes LO: only its write latch takes the value. -/
def State.latchLo (s : State) (m : Master) (lo v : Nat) : State :=
  { s with latch := { s.latch with wr := Tbl.set 0 s.latch.wr (latchKey m lo) (BitVec.ofNat 32 v) } }

/-- A master writes HI: the quantity takes its latch and the written upper half. -/
def State.writeHi (s : State) (m : Master) (hi v : Nat) : State :=
  let s1 := s.writeFields (hi - 4) (Tbl.get 0 s.latch.wr (latchKey m (hi - 4))).toNat 0
  s1.writeFields hi v 0

/-! ### What a read sees -/

/-- Table 12-11: the masks of the module that LNK_Sn_MODSEL names. -/
def State.maskWord (s : State) (k o : Nat) : Nat :=
  let md := Tbl.get ModSt.zero (Tbl.get SideSt.zero s.sides k).mods (s.getF (R.LNK_S_MODSEL.value k))
  (if o < 8 then md.lmask else md.rmask).toNat / (if o % 8 = 4 then 2 ^ 32 else 1) % 2 ^ 32

/-- The side whose mask registers lie at an offset. -/
def maskSide (off : Nat) : Option Nat :=
  (List.range 8).find? (fun k => decide (R.LNK_S_LMASK_LO k ≤ off) && decide (off ≤ R.LNK_S_RMASK_HI k))

/-- The tray whose registers lie at an offset of the HQ block (R420). -/
def trayAt (off : Nat) : Option Nat :=
  if 0x110000 ≤ off ∧ off < 0x154000 then some ((off - 0x110000) / 0x4000 * 64 + (off - 0x110000) % 0x4000 / 0x100) else none

/-- R404, R413: is fetching paused? -/
def State.fetchPaused (s : State) : Bool := s.loading || decide (journalSize ≤ s.journal.length)

/-- Table 14-10: outstanding is A - D; a running tray shows state 0x2 while fetching is paused. -/
def State.trayWord (s : State) (t : Nat) : Nat :=
  let out := (s.getW (R.HQ_T_ACCEPT t) + 2 ^ 32 - s.getW (R.HQ_T_DONE t)) % 2 ^ 32
  let st := s.getF (R.HQ_T_STATUS.state t)
  out % 2 ^ 17 * 2 ^ 15 + s.getF (R.HQ_T_STATUS.error t) * 2 ^ 8 + (if st = 1 ∧ s.fetchPaused = true then 2 else st)

/-- The word at an offset: fabric time is live (R303), serial, owner slots, identity and challenge are the security
engine's (R513, R519, R536), a tray's status follows its counts (Table 14-10), lane masks are their module's (R371),
everything else is held. -/
def State.liveW (s : State) (off : Nat) : Nat :=
  if off = R.LAY_FTIME_LO then s.ftime % 2 ^ 32
  else if off = R.LAY_FTIME_HI then s.ftime / 2 ^ 32 % 2 ^ 32
  else if off = R.SEC_SERIAL_LO then s.fuse.serial % 2 ^ 32
  else if off = R.SEC_SERIAL_HI then s.fuse.serial / 2 ^ 32 % 2 ^ 32
  else if off = R.SEC_OWNER then s.ownerSlots
  else if off = R.SEC_IDCODE then s.fuse.idcode
  else if R.SEC_DEVKEY 0 ≤ off ∧ off < R.SEC_DEVKEY 8 then devicePub.toNat / 2 ^ (8 * (off - R.SEC_DEVKEY 0)) % 2 ^ 32
  else if R.BST_CHALLENGE 0 ≤ off ∧ off < R.BST_CHALLENGE 8 then s.challenge.toNat / 2 ^ (8 * (off - R.BST_CHALLENGE 0)) % 2 ^ 32
  else if (match trayAt off with | some t => off == R.HQ_T_STATUS t | none => false) then s.trayWord ((trayAt off).getD 0)
  else match maskSide off with
    | some k => s.maskWord k (off - R.LNK_S_LMASK_LO k)
    | none => readMask (R.fieldsAt off) (s.getW off)

/-- R10: reading LO latches the upper half for the master. -/
def State.readLo (s : State) (m : Master) (lo : Nat) : State × Nat :=
  ({ s with latch := { s.latch with rd := Tbl.set 0 s.latch.rd (latchKey m lo) (BitVec.ofNat 32 (s.liveW (lo + 4))) } },
   s.liveW lo)

/-! ### The MSI-X table and its pending bits (R395, R398) -/

/-- Where a BAR0 offset falls for a master: its own part of the PF's map, or `none` outside every block. A VF's BAR0
holds its trays. -/
def mapOff (m : Master) (off : Nat) : Option Nat :=
  match m with
  | .host 0 => if off < 0x4000000 then some off else none
  | .host f => if off < 0x4000 then some (0x110000 + f * 0x4000 + off) else none
  | .cc _ => if off < 0x4000000 then some off else none

/-- The MSI-X table entry word at an offset: function, vector, word. -/
def msixAt (m : Master) (off : Nat) : Option (Nat × Nat × Nat) :=
  match m with
  | .host 0 | .cc _ =>
    if 0x180000 ≤ off ∧ off < 0x184000 then some (0, (off - 0x180000) / 16, (off - 0x180000) / 4 % 4) else none
  | .host f => if 0x8000 ≤ off ∧ off < 0x8400 then some (f, (off - 0x8000) / 16, (off - 0x8000) / 4 % 4) else none

/-- The pending-bit word at an offset: function, word. -/
def pbaAt (m : Master) (off : Nat) : Option (Nat × Nat) :=
  match m with
  | .host 0 | .cc _ => if 0x184000 ≤ off ∧ off < 0x184080 then some (0, (off - 0x184000) / 4) else none
  | .host f => if 0x9000 ≤ off ∧ off < 0x9008 then some (f, (off - 0x9000) / 4) else none

/-- Write a word of an MSI-X entry; unmasking a vector whose pending bit is set sends its message (R473). -/
def State.writeMsix (s : State) (f v w x : Nat) : State :=
  let k := msixKey f v w
  let s1 := { s with msix := Tbl.set (msixReset k) s.msix k (BitVec.ofNat 32 (if w = 3 then x % 2 else x)) }
  if w = 3 && !bit x 0 && Tbl.get false s1.pba (msixKey f v 0) then
    { s1 with pba := Tbl.set false s1.pba (msixKey f v 0) false }.emit (.msix f v)
  else s1

/-- The pending bits of vectors 32i to 32i + 31 of a function. -/
def State.pbaWord (s : State) (f i : Nat) : Nat :=
  (List.range 32).foldl (fun a j => if Tbl.get false s.pba (msixKey f (32 * i + j) 0) then a + 2 ^ j else a) 0

/-! ### The error log's latch (R467) -/

/-- Log slot and word at an offset. -/
def logSlotAt (off : Nat) : Option (Nat × Nat) :=
  if 0x510000 ≤ off ∧ off < 0x514000 then some ((off - 0x510000) / 32, (off - 0x510000) / 4 % 8) else none

/-- A read of word 0 latches the entry for the master. -/
def State.latchLog (s : State) (m : Master) (slot : Nat) : State :=
  { s with latch := { s.latch with
      log := Tbl.set LogEntry.zero s.latch.log m.key (Tbl.get LogEntry.zero s.log.ring (slot % 512)) } }

end Sys2Proof.Machine
end

