-- ==== Sys2Proof/Machine/ErrorLog.lean ====
section
/-!
DEFINITION. The error log's own commands, error injection and interrupt enables (chapter 17).
-/

namespace Sys2Proof.Machine

open Sys2Proof

/-- R466: with a path to plinth 0 again, chest c delivers what it held, in order, and its dropped count.
(DEDUCED, log entry 98.) -/
def logPathReturnOp (s : State) (c : Nat) : State :=
  s.guard (decide (c < 4) && s.pathTo0 c) (fun s =>
    let held := Tbl.get [] s.log.held c
    let n := Tbl.get 0 s.log.dropped c
    let s1 := { s with log := { s.log with held := Tbl.set [] s.log.held c [], dropped := Tbl.set 0 s.log.dropped c 0 } }
    let s2 := s1.each held (fun s' e => s'.logArrive e)
    if n = 0 then s2 else (s2.incSat R.ERR_LOST.count n).flagC R.ERR_FLAGS.queue_drop 17)

def execLogPathReturn (c : Nat) (s : State) : Host.Outcome State Fault Refusal := whenUp s (fun s => logPathReturnOp s c)

/-- R467: a read of word 0 of a slot: the entry is latched for the master, and the word returned. -/
def logWord0ReadOp (s : State) (m : Master) (slot : Nat) : State :=
  s.guard (decide (slot < 512) && (match m with | .host f => f == 0 | .cc _ => true)) (fun s =>
    (s.latchLog m slot).emit (.readData m (0x510000 + 32 * slot) ((Tbl.get LogEntry.zero s.log.ring slot).word 0)))

def execLogWord0Read (m : Master) (slot : Nat) (s : State) : Host.Outcome State Fault Refusal :=
  whenUp s (fun s => logWord0ReadOp s m slot)

/-- Table 17-12: a write of ERR_INJECT by a master: its fields, and arming for the next write to the sector; an address
in a reserved slice is logged. -/
def errInjectArmOp (s : State) (m : Master) (v : Nat) : State :=
  let s1 := (s.setF R.ERR_INJECT.symbol (bits v 9 4)).setF R.ERR_INJECT.kind (bits v 3 2)
  let a := s1.getW R.ERR_INJECT_ADDR_LO + s1.getW R.ERR_INJECT_ADDR_HI % 128 * 2 ^ 32
  if !bit v 0 || decide (35 < bits v 9 4) || decide (1 < bits v 3 2) then s1
  else if 8 < addrSlice a then s1.logE 0 9 0x3FF 7 2 true a m.id 1
  else s1.setF R.ERR_INJECT.armed 1

def execErrInjectArm (m : Master) (v : Nat) (s : State) : Host.Outcome State Fault Refusal := whenUp s (fun s => errInjectArmOp s m v)

/-- R473: a write of GLB_INT_ENABLE: a newly enabled cause whose bit reads 1 sends its message. -/
def intEnableOp (s : State) (v : Nat) : State :=
  let old := s.getF R.GLB_INT_ENABLE.enable
  let s1 := s.setF R.GLB_INT_ENABLE.enable v
  s1.each ((List.range 18).filter (fun i => bit v i && !bit old i && s.getBit R.GLB_INT_STATUS.cause i)) (fun s' i => s'.sendMsix 0 i)

def execIntEnableWrite (v : Nat) (s : State) : Host.Outcome State Fault Refusal := whenUp s (fun s => intEnableOp s v)

end Sys2Proof.Machine
end

