-- ==== Sys2Proof/Machine/VecOps.lean ====
section
/-!
DEFINITION. The vector engine as every chain instruction uses it (chapter 04): chain headers, windows, input vectors and
shape masks, the issue of the next instruction, active lanes, tile-store ports, the end of an invocation.
-/

namespace Sys2Proof.Machine

open Sys2Proof

/-! ### Chains -/

/-- R115: a chain header, from its index in the chain store. -/
structure ChainHdr where
  w0 : Nat
  w1 : Nat
  deriving DecidableEq, Repr

def hdrAt (t : CoreSt) (i : Nat) : ChainHdr := ⟨(Tbl.get 0 t.chain i).toNat, (Tbl.get 0 t.chain (i + 1)).toNat⟩

def ChainHdr.statInit (h : ChainHdr) : Nat := bits h.w0 42 35
def ChainHdr.stats (h : ChainHdr) : Nat := bits h.w0 34 33
def ChainHdr.unrollCode (h : ChainHdr) : Nat := bits h.w0 32 31
def ChainHdr.unroll (h : ChainHdr) : Nat := 2 ^ bits h.w0 32 31
def ChainHdr.prologue (h : ChainHdr) : Bool := bit h.w0 30
def ChainHdr.postLen (h : ChainHdr) : Nat := bits h.w0 29 20
def ChainHdr.bodyLen (h : ChainHdr) : Nat := bits h.w0 19 10
def ChainHdr.preLen (h : ChainHdr) : Nat := bits h.w0 9 0
def ChainHdr.scount (h : ChainHdr) : Nat := bits h.w1 29 25
def ChainHdr.sbase (h : ChainHdr) : Nat := bits h.w1 24 20
def ChainHdr.pcount (h : ChainHdr) : Nat := bits h.w1 19 16
def ChainHdr.pbase (h : ChainHdr) : Nat := bits h.w1 15 12
def ChainHdr.vcount (h : ChainHdr) : Nat := bits h.w1 11 6
def ChainHdr.vbase (h : ChainHdr) : Nat := bits h.w1 5 0

/-- R118: the word of an instruction. -/
def vecWord (op : Nat) (f : VecF) : Nat :=
  op * 2 ^ 58 + f.vd * 2 ^ 52 + f.va * 2 ^ 46 + f.vb * 2 ^ 40 + f.vc * 2 ^ 34 + (if f.all then 2 ^ 33 else 0) + f.pg * 2 ^ 29 +
  (if f.mz then 2 ^ 28 else 0) + (if f.bs then 2 ^ 27 else 0) + f.rm * 2 ^ 24 + (if f.sat then 2 ^ 23 else 0) + f.fmt * 2 ^ 19 +
  f.fn * 2 ^ 15 + f.imm

/-- Number of instructions of a segment. -/
def segLen (h : ChainHdr) (seg : Nat) : Nat := if seg = 0 then h.preLen else if seg = 1 then h.bodyLen else h.postLen

/-- Chain-store index of the instruction an invocation issues next. -/
def nextIdx (h : ChainHdr) (c : Ctx) : Nat :=
  c.chain + 2 + (if c.seg = 0 then 0 else if c.seg = 1 then h.preLen else h.preLen + h.bodyLen) + c.pc

/-- R109: the segment width. -/
def segW (d : Desc) (kind : Nat) : Nat := if kind = 1 then subK d.mode else subN d

/-- Rows in a vector. -/
def perVec (d : Desc) (kind : Nat) : Nat := 512 / segW d kind

/-- Input vectors of an invocation (R110). -/
def vecCount (d : Desc) (c : Ctx) : Nat := cdiv c.rows (perVec d c.kind)

/-- Iterations of the body. -/
def iterCount (d : Desc) (h : ChainHdr) (c : Ctx) : Nat := cdiv (vecCount d c) h.unroll

/-- 512 lanes of a register. -/
def lanes (v : Vec) : List Word32 := v.take 512 ++ List.replicate (512 - v.length) 0

/-- A register's value from its lanes. -/
def packVec (l : List Word32) : Vec := (l.reverse.dropWhile (· == 0)).reverse

def maskOf (l : List Bool) : BitVec 512 := BitVec.ofNat 512 (l.foldr (fun b n => (if b then 1 else 0) + 2 * n) 0)

/-- R109, R110: input vector j: its rows side by side. -/
def inputVec (d : Desc) (c : Ctx) (j : Nat) : List Word32 :=
  let w := segW d c.kind
  (List.range (perVec d c.kind)).flatMap (fun q =>
    let r := c.inputs.getD (j * perVec d c.kind + q) []
    r.take w ++ List.replicate (w - r.length) 0)

/-- The row within the block, and the column within the tile, of a lane of input vector j. -/
def laneRow (d : Desc) (c : Ctx) (j l : Nat) : Nat := j * perVec d c.kind + l / segW d c.kind
def laneCol (d : Desc) (c : Ctx) (l : Nat) : Nat := l % segW d c.kind

/-- The absolute column of a lane: N index, or K index for a prologue (R127). -/
def absCol (d : Desc) (c : Ctx) (l : Nat) : Nat :=
  if c.kind = 1 then c.kt * subK d.mode + laneCol d c l else c.id.nt * subN d + laneCol d c l

/-- R110: is a lane's row below the run-time M? -/
def rowIn (d : Desc) (c : Ctx) (j l : Nat) : Bool := decide (laneRow d c j l < c.rows)

/-- R110, R160: a lane of a shape mask. -/
def shapeLane (o : OpSt) (c : Ctx) (j l : Nat) : Bool :=
  rowIn o.desc c j l && (c.kind == 2 || decide (absCol o.desc c l < (if c.kind = 1 then o.shape.k else o.shape.n)))

/-- R110: the inputs and shape masks of iteration `c.iter` reach their registers. -/
def loadIter (t : CoreSt) (o : OpSt) (h : ChainHdr) (c : Ctx) : CoreSt :=
  (List.range h.unroll).foldl (fun t i =>
    let j := c.iter * h.unroll + i
    { t with v := Tbl.set [] t.v (h.vbase + i) (packVec (inputVec o.desc c j))
             p := Tbl.set 0 t.p (h.pbase + i) (maskOf ((List.range 512).map (shapeLane o c j))) }) t

/-- R117: the scalar window from the constant block. -/
def loadScalars (t : CoreSt) (d : Desc) (h : ChainHdr) : CoreSt :=
  { t with s := (List.range (h.scount + 1)).foldl (fun m j =>
      Tbl.set 0 m (h.sbase + j) (BitVec.ofNat 32 (leNat (tileBytes t (d.constBlock + 4 * j) 4)))) t.s }

/-- The first and the last N tile that a sub-array runs of a block's head (R126, R160). -/
def tilesOfHead (o : OpSt) (i head : Nat) : List Nat := ((dealt o.desc o.shape i).filter (fun x => x.1 == head)).map (fun x => x.2)
def firstTile (o : OpSt) (i : Nat) (b : BlockId) : Bool := (tilesOfHead o i b.head).head? == some b.nt
def lastTile (o : OpSt) (i : Nat) (b : BlockId) : Bool := (tilesOfHead o i b.head).getLast? == some b.nt

/-- R126: the statistics at the start of an epilogue or deferred-chain invocation. -/
def startStats (t : CoreSt) (o : OpSt) (h : ChainHdr) (c : Ctx) : CoreSt :=
  if h.stats = 1 then initStats t c.sub c.rows h.statInit
  else if h.stats = 2 then
    if c.kind = 0 && firstTile o c.sub c.id then initStats t c.sub c.rows h.statInit
    else if spansBlocks o.desc then restoreStats t o.desc c.sub c.id.block c.rows
    else t
  else t

/-! ### Where the core keeps an invocation -/

/-- The invocation with priority whose next instruction is `w`: the epilogue's, then the prologue's (R113). -/
def nextCtx (t : CoreSt) (w : Nat) : Option Ctx :=
  let has := fun (c : Ctx) => (Tbl.get 0 t.chain (nextIdx (hdrAt t c.chain) c)).toNat == w
  match t.ctx, t.pctx with
  | some c, some p => if has c then some c else if has p then some p else none
  | some c, none => if has c then some c else none
  | none, some p => if has p then some p else none
  | none, none => none

def putCtx (t : CoreSt) (kind : Nat) (c : Option Ctx) : CoreSt := if kind = 1 then { t with pctx := c } else { t with ctx := c }

/-! ### The end of an invocation -/

/-- R161: the landing tile of a block's scale-and-shift vector: the first one the descriptor names for block 0 of head 0, then by
block and by head. (DESIGN CHOICE, log entry 113.) -/
def vecTile (o : OpSt) (b : BlockId) : Nat := o.desc.defvecLanding + b.head * blocks o.desc o.shape + b.block

/-- The core whose landing tile takes it. -/
def State.vecTarget (s : State) (u : Nat) (d : Desc) : Nat := if bit d.defvecTarget 15 then s.coreKey (bits d.defvecTarget 4 0) else u

/-- R160, R161: the scale-and-shift vector of a block goes to its landing tile. -/
def State.sendVector (s : State) (u : Nat) (o : OpSt) (c : Ctx) : State :=
  let d := o.desc
  let t := s.core u
  let bytes := (List.range c.rows).flatMap (fun r =>
    leBytes 4 (Tbl.get 0 t.stats (statKey c.sub r d.sa)).toNat ++ leBytes 4 (Tbl.get 0 t.stats (statKey c.sub r d.sb)).toNat)
  s.landRequest ⟨s.vecTarget u d, vecTile o c.id, 0, bytes, true, true, true, .master (coreMid u)⟩

/-- R107: the key of the block of copy rows that a prologue makes. -/
def proKey (c : Ctx) : Nat := copyKey c.id.op c.id.head c.kt c.id.block

/-- After the post segment: the marker of a remote tile (R134), the statistics of a block (R126), the deferred chain of a
block's last tile (R160); a prologue's copy rows are complete (R107); a deferred chain's vector is written (R160). -/
def State.endInvocation (s : State) (u : Nat) (o : OpSt) (h : ChainHdr) (c : Ctx) : State :=
  let d := o.desc
  if c.kind = 1 then
    (s.setCore u (fun t => { t with pctx := none, proDone := Tbl.set false t.proDone (proKey c) true })).showVec u
  else if c.kind = 2 then (((s.sendVector u o c).setCore u (fun t => { t with ctx := none })).showVec u).settleOps u
  else
    let s1 := if d.deferred && !s.hasConsumer u d then s
      else (((OutSt.mk s c.begun false).padTile u o c.sub c.id).mark u o c.sub c.id).s
    let s2 := s1.setCore u (fun t =>
      let t1 := if h.stats = 2 ∧ spansBlocks d = true then saveStats t d c.sub c.id.block c.rows else t
      { t1 with ctx := none
                defer := if d.deferred && lastTile o c.sub c.id then t1.defer ++ [⟨c.id, c.sub, []⟩] else t1.defer })
    (s2.showVec u).settleOps u

/-- Move past empty segments and finished iterations, loading each iteration's inputs; at most `fuel` moves. -/
def State.settleCtx : Nat → State → Nat → OpSt → ChainHdr → Ctx → State
  | 0, s, u, _, _, c => s.setCore u (fun t => putCtx t c.kind (some c))
  | fuel + 1, s, u, o, h, c =>
    if c.pc < segLen h c.seg then s.setCore u (fun t => putCtx t c.kind (some c))
    else if c.seg = 0 then
      if 0 < iterCount o.desc h c then
        let c1 := { c with seg := 1, pc := 0, iter := 0 }
        State.settleCtx fuel (s.setCore u (fun t => loadIter t o h c1)) u o h c1
      else State.settleCtx fuel s u o h { c with seg := 2, pc := 0 }
    else if c.seg = 1 then
      if c.iter + 1 < iterCount o.desc h c then
        let c1 := { c with pc := 0, iter := c.iter + 1 }
        State.settleCtx fuel (s.setCore u (fun t => loadIter t o h c1)) u o h c1
      else State.settleCtx fuel s u o h { c with seg := 2, pc := 0 }
    else s.endInvocation u o h c

/-- An invocation starts: scalars, statistics, and the first segment that holds an instruction. -/
def State.startInvocation (s : State) (u : Nat) (c : Ctx) : State :=
  let o := (s.core u).op c.id.op
  let h := hdrAt (s.core u) c.chain
  let s1 := s.setCore u (fun t =>
    let t1 := loadScalars (putCtx t c.kind (some c)) o.desc h
    if c.kind = 1 then t1 else startStats t1 o h c)
  (s1.settleCtx 3 u o h c).showVec u

/-! ### One instruction -/

/-- An instruction under way: the state, the core, the invocation and its operation and header, and whether a write is
held by a cue or a pause. -/
structure VX where
  s : State
  u : Nat
  c : Ctx
  o : OpSt
  h : ChainHdr
  f : VecF
  held : Bool

def VX.t (x : VX) : CoreSt := x.s.core x.u
def VX.d (x : VX) : Desc := x.o.desc
def VX.setT (x : VX) (f : CoreSt → CoreSt) : VX := { x with s := x.s.setCore x.u f }

/-- R116: relative registers. -/
def VX.v (x : VX) (j : Nat) : List Word32 := lanes (Tbl.get [] x.t.v (x.h.vbase + j))
def VX.p (x : VX) (j : Nat) : BitVec 512 := Tbl.get 0 x.t.p (x.h.pbase + j)
def VX.sc (x : VX) (j : Nat) : Word32 := Tbl.get 0 x.t.s (x.h.sbase + j)

/-- The second source: a vector, or a scalar broadcast. -/
def VX.vb (x : VX) : List Word32 := if x.f.bs then List.replicate 512 (x.sc (x.f.vb % 32)) else x.v x.f.vb

/-- The input that imm[14:13] names, and its vector index; the pre and post segments hold no input (R128). -/
def VX.inp (x : VX) : Nat := bits x.f.imm 14 13
def VX.vecIdx (x : VX) : Nat := if x.c.seg = 1 then x.c.iter * x.h.unroll + x.inp else 0

/-- R120: lane l is active. -/
def VX.on (x : VX) (l : Nat) : Bool := x.f.all || (x.p x.f.pg).getLsbD l

/-- R120: a row-aware instruction also ignores lanes whose row is at or beyond the run-time M; the pre and post segments
hold no row. -/
def VX.onRow (x : VX) (l : Nat) : Bool := x.on l && x.c.seg == 1 && rowIn x.d x.c x.vecIdx l

/-- R120: write the active lanes of the destination. -/
def VX.put (x : VX) (on : Nat → Bool) (res : List Word32) : VX :=
  let old := x.v x.f.vd
  let new := (List.range 512).map (fun l => if on l then res.getD l 0 else if x.f.mz then 0 else old.getD l 0)
  x.setT (fun t => { t with v := Tbl.set [] t.v (x.h.vbase + x.f.vd) (packVec new) })

/-- The same for a predicate. -/
def VX.putP (x : VX) (on : Nat → Bool) (res : Nat → Bool) : VX :=
  let pd := x.f.vd % 16
  let old := x.p pd
  let new := (List.range 512).map (fun l => if on l then res l else if x.f.mz then false else old.getLsbD l)
  x.setT (fun t => { t with p := Tbl.set 0 t.p (x.h.pbase + pd) (maskOf new) })

def VX.putS (x : VX) (v : Word32) : VX :=
  x.setT (fun t => { t with s := Tbl.set 0 t.s (x.h.sbase + x.f.vd % 32) v })

/-- Lane by lane: one, two, three sources, the result staged (R154). -/
def VX.map1 (x : VX) (g : Word32 → Word32) : VX := x.put x.on ((x.v x.f.va).map (fun a => stage x.d (g a)))
def VX.map2 (x : VX) (g : Word32 → Word32 → Word32) : VX :=
  x.put x.on (List.zipWith (fun a b => stage x.d (g a b)) (x.v x.f.va) x.vb)
def VX.map3 (x : VX) (g : Word32 → Word32 → Word32 → Word32) : VX :=
  x.put x.on (List.zipWith (fun a bc => stage x.d (g a bc.1 bc.2)) (x.v x.f.va) (x.vb.zip (x.v x.f.vc)))

/-- The segments of a vector. -/
def VX.segs (x : VX) : Nat := perVec x.d x.c.kind
def VX.w (x : VX) : Nat := segW x.d x.c.kind

/-- Why an instruction does not issue: 0 a source not ready, 1 an arrival flag, 2 a receive register not free. -/
def vecWait (u w : Nat) : Fld :=
  if w = 0 then R.COR_VEC_WAIT_DEP.wait u else if w = 1 then R.COR_VEC_WAIT_IN.wait u else R.COR_VEC_WAIT_SEND.wait u

/-- R112, R138: issue the instruction when it is the next one of an invocation; what makes it wait counts. -/
def State.vecIssue (s : State) (u op : Nat) (f : VecF) (wait : VX → Option Nat) (eff : VX → VX) : State :=
  match nextCtx (s.core u) (vecWord op f) with
  | none => s
  | some c =>
    let h := hdrAt (s.core u) c.chain
    let x : VX := ⟨s, u, c, (s.core u).op c.id.op, h, f, false⟩
    match wait x with
    | some w => s.incSat (vecWait u w) 1
    | none =>
      let y := eff x
      if y.held then s
      else
        let s1 := (y.s.setF (R.COR_VEC_STATUS.pc u) (nextIdx h c)).addPair (R.COR_VEC_ISSUE_LO u) 1
        (s1.settleCtx 3 u (s1.core u |>.op c.id.op) h { y.c with pc := c.pc + 1 }).showVec u

/-- Nothing holds the instruction. -/
def noWait (_ : VX) : Option Nat := none

/-! ### Conversion (R129, R154) -/

/-- The FP32 value of a stored element. -/
def heldVal (fmt scale : Nat) (e : Nat) : Word32 := Num.rne (Num.scaleVal scale (Num.decodeElem (storeFmt fmt) e))

/-- R129: lanes as CVT holds them, and the conversion flags. -/
def cvtLanes (d : Desc) (f : VecF) (l : List (Option Word32)) : List (Option Word32) × Bool × Bool :=
  let st := storeLanes f.fmt (Num.rmOf f.rm) f.sat d.tscaleOut l
  let sc := fun (n : Nat) => if Num.isMx f.fmt then (st.scales.getD (n / 32) none).getD 0 else if f.fmt = 0xC then d.tscaleOut else 0x7F
  ((List.range l.length).map (fun n => (st.els.getD n none).map (fun e => stage d (heldVal f.fmt (sc n) e))), st.ovf, st.inv)

/-- R130, R154: lanes as ST writes them: converted, under strict staging rounded to the staging format too. In format 0xC the
per-tensor scale is tscale_out, in a prologue as well (R129, Table 6-1). (DESIGN CHOICE, log entry 115.) -/
def stLanes (d : Desc) (f : VecF) (l : List (Option Word32)) : Stored :=
  let st := storeLanes f.fmt (Num.rmOf f.rm) f.sat d.tscaleOut l
  if d.strict then
    { storeLanes f.fmt (Num.rmOf f.rm) f.sat d.tscaleOut (cvtLanes d f l).1 with ovf := st.ovf, inv := st.inv }
  else st

def VX.flags (x : VX) (ovf inv : Bool) : VX := { x with s := x.s.convFlags x.u x.c.id.op ovf inv }

/-- The lanes of the first source that a test lets through. -/
def VX.srcLanes (x : VX) (on : Nat → Bool) : List (Option Word32) :=
  (List.range 512).map (fun l => if on l then some ((x.v x.f.va).getD l 0) else none)

/-! ### The tile store (R128, R130, R131, R133) -/

def tileEnd : Nat := 41943040

/-- A byte of the tile store as the engine's port reads it. -/
def portByte (t : CoreSt) (fresh a : Nat) : Byte := if a < tileEnd then tileByte t a else Config.outsideTile a fresh

def portBits (t : CoreSt) (fresh off b0 w : Nat) : Nat :=
  leNat ((List.range ((b0 % 8 + w + 7) / 8)).map (fun n => portByte t fresh (off + b0 / 8 + n))) / 2 ^ (b0 % 8) % 2 ^ w

/-- An address s(a) + j x s(b), modulo 2^32. -/
def VX.series (x : VX) (a b : Nat) : Nat := ((x.sc a).toNat + x.vecIdx * (x.sc b).toNat) % 2 ^ 32

/-- R128: an element in the format fmt as FP32, with the scale 2^0. -/
def ldElem (t : CoreSt) (fresh fmt off n : Nat) : Num.Val :=
  let eb := Num.elemBits (storeFmt fmt)
  Num.decodeElem (storeFmt fmt) (portBits t fresh off (n * eb) eb)

/-- R128: the folded row of a lane over the whole operation. -/
def VX.foldedRow (x : VX) (l : Nat) : Nat := x.c.first + laneRow x.d x.c x.vecIdx l

/-- Where LD reads: first byte and length. -/
def VX.ldRange (x : VX) : Nat × Nat :=
  let n := 64 * Num.elemBits (storeFmt x.f.fmt)
  if x.f.fn = 0 then (x.series (x.f.va % 32) (x.f.vb % 32), n)
  else if x.f.fn = 1 then ((x.sc (x.f.va % 32)).toNat, n)
  else ((x.sc (x.f.va % 32)).toNat + 4 * (x.c.first + x.vecIdx * x.segs), 4 * x.segs)

def ldWait (x : VX) : Option Nat := if x.s.landedRange x.u x.ldRange.1 x.ldRange.2 then none else some 1

/-- R128: LD; a value beyond the FP32 range enters as ±∞ and sets conv_overflow (R111). -/
def VX.load (x : VX) : VX :=
  let t := x.t
  let vals : List Num.Val := (List.range 512).map (fun l =>
    if x.f.fn = 2 then
      ldElem t x.s.fresh 0 ((x.sc (x.f.va % 32)).toNat + 4 * x.foldedRow l) 0
    else ldElem t x.s.fresh x.f.fmt x.ldRange.1 l)
  let on := if x.f.fn = 2 then x.onRow else x.on
  let y := { x.put on (vals.map Num.rne) with s := (x.put on (vals.map Num.rne)).s.tick }
  y.flags ((List.range 512).any (fun l => on l && Num.isFin (vals.getD l .nan) && !Num.isFin (Num.val (Num.rne (vals.getD l .nan))))) false

/-- Bytes into the tile store; nothing lies beyond it. -/
def State.portWrite (s : State) (u off : Nat) (bytes : List Byte) : State := s.putTile u off (bytes.take (tileEnd - off))

/-- R159, R164: where row r of an output block goes. The tiles of a deferred output without consumer go to the deferred
region, laid out as the output region with the elements of the deferred format. -/
def State.epiDest (s : State) (u : Nat) (o : OpSt) (i : Nat) (b : BlockId) (fmt r : Nat) : Dest :=
  let d := o.desc
  if d.deferred && !s.hasConsumer u d then
    let a := (d.y.rowAddr (rowAt o b.head (b.block * blockRows d + r)) - d.y.addr) * Num.elemBits d.fmtDef / Num.elemBits d.fmtOut +
      bits d.defRegion 38 0 + b.nt * subN d * Num.elemBits d.fmtDef / 8
    if bits d.defRegion 40 39 = 1 then .tile a else .mem a
  else s.outDest o i b fmt r

/-- One row of an output tile by ST, fn 0. -/
def OutSt.stRow (x : OutSt) (u : Nat) (o : OpSt) (i : Nat) (b : BlockId) (fmt r : Nat) (st : Stored) : OutSt :=
  let x1 := x.runs u (x.s.epiDest u o i b fmt r) (byteRuns 0 (rowBytes st.els (Num.elemBits (storeFmt fmt))))
  if st.scales.isEmpty then x1 else x1.scaleRuns u o.desc.y (yScaleIdx o b r) st.scales

/-- The part of a vector's stored lanes that one segment holds. -/
def segStored (st : Stored) (w q : Nat) : Stored :=
  ⟨(st.els.drop (q * w)).take w, (st.scales.drop (q * w / 32)).take (cdiv w 32), st.ovf, st.inv⟩

/-- R184: the lane's row is below the run-time M and its column below the run-time N (or K), whatever the guard. -/
def VX.inShape (x : VX) (l : Nat) : Bool := x.onRow l && decide (absCol x.d x.c l < (if x.c.kind = 1 then x.o.shape.k else x.o.shape.n))

/-- R130, R184, R186: ST with fn 0 of an epilogue outside a score chain. -/
def VX.storeOut (x : VX) : VX :=
  let st := stLanes x.d x.f (x.srcLanes x.inShape)
  let r := (List.range x.segs).foldl (fun (y : OutSt) q =>
    let row := x.vecIdx * x.segs + q
    if row < x.c.rows then y.stRow x.u x.o x.c.sub x.c.id x.f.fmt row (segStored st x.w q) else y) ⟨x.s, x.c.begun, false⟩
  { x with s := r.s, held := r.held, c := { x.c with begun := r.begun } }.flags st.ovf st.inv

/-- R130: ST with fn 1, the side output; no scale array is named for it. -/
def VX.storeSide (x : VX) : VX :=
  let on := if x.c.seg = 1 then x.onRow else x.on
  let st := stLanes x.d x.f (x.srcLanes on)
  let a := x.series (x.f.vb % 32) (x.f.vc % 32)
  let s1 := (byteRuns 0 (rowBytes st.els (Num.elemBits (storeFmt x.f.fmt)))).foldl (fun s r => s.portWrite x.u (a + r.1) r.2) x.s
  { x with s := s1 }.flags st.ovf st.inv

/-- R107, R130: ST with fn 2, the prologue copy; scale bytes go to the streamed operand's scale array. The elements are stored in the
ST's own format, which the layout makes the stream format. (DESIGN CHOICE, log entry 114.) -/
def VX.storeCopy (x : VX) : VX :=
  let d := x.d
  let st := stLanes d x.f (x.srcLanes x.inShape)
  let r := (List.range x.segs).foldl (fun (y : OutSt) q =>
    let row := x.vecIdx * x.segs + q
    if row < x.c.rows then
      let g := segStored st x.w q
      let fr := x.c.first + row
      let y1 := y.runs x.u (.tile (copyRow x.o x.c.id.head fr + x.c.kt * subK d.mode * Num.elemBits (storeFmt x.f.fmt) / 8))
        (byteRuns 0 (rowBytes g.els (Num.elemBits (storeFmt x.f.fmt))))
      if g.scales.isEmpty then y1 else y1.scaleRuns x.u d.x (xScaleIdx x.o x.c.id.head fr (x.c.kt * subK d.mode)) g.scales
    else y) ⟨x.s, false, false⟩
  { x with s := r.s, held := r.held }.flags st.ovf st.inv

/-! ### The softmax stage (R143-R148) -/

/-- log2 e in FP32. -/
def log2e : Word32 := 0x3FB8AA3B#32

/-- What the stage makes of one row: P, c, and the row's m, l and R; whether R moved from a finite value. -/
structure StageRow where
  p : List Word32
  c : Word32
  m : Word32
  l : Word32
  r : Word32
  moved : Bool
  deriving DecidableEq, Repr

/-- R144, R152: does the reference move up to ceil(m')? -/
def refMoves (level4 : Bool) (m' r : Word32) : Bool :=
  r == Num.nInf || !level4 || decide (8 ≤ Num.ceilVal (Num.val m') - Num.floorVal (Num.val r))

/-- R148: equal references; a reference of zero has no sign. -/
def sameRef (a b : Word32) : Bool := Num.veq (Num.val a) (Num.val b)

/-- R144: `rnd` rounds P to its stream format where strict staging asks for it (R154). -/
def stageRow (level4 : Bool) (logW : Nat) (rnd : Word32 → Word32) (m l r : Word32) (scores : List Word32) : StageRow :=
  let ts := scores.map (fun x => Num.mulW x log2e)
  let m' := Num.maxW m (Num.maxList ts)
  if nanRow m' then ⟨ts.map (fun _ => Num.nanW), Num.nanW, m', Num.nanW, r, false⟩
  else if m' == Num.nInf then ⟨ts.map (fun _ => 0), Num.oneW, m', l, r, false⟩
  else
    let r' := if refMoves level4 m' r then Num.ceilW m' else r
    let c := if r == Num.nInf then 0 else if sameRef r r' then Num.oneW else pow2Diff r r'
    let ps := ts.map (fun x => rnd (Num.exp2Ref x (Num.floorVal (Num.val r'))))
    ⟨ps, c, m', Num.addW (Num.mulW l c) (Num.treeSum logW ps), r', r != Num.nInf && !sameRef r r'⟩

/-- Round to a format, RNE and sat = 1, and back (R145, R154). -/
def roundTo (fmt : Nat) (x : Word32) : Word32 := Num.rne (Num.decodeElem fmt (Num.conv fmt .rne true (Num.val x)).bits)

/-- The value descriptor of the pair that runs, and its place in `ops`. -/
def CoreSt.valueOp (t : CoreSt) : OpSt := t.op 1

/-- R144-R148: one row of the stage: its P row and its correction go to the landing tile; the correction that completes the block's
column sets the tile's flag (R146). -/
def VX.stageOne (x : VX) (row : Nat) (scores : List Word32) : VX :=
  let t := x.t
  let vo := t.valueOp
  let i := x.c.sub
  let ks := statKey i row 0
  let rnd := if x.d.strict then roundTo vo.desc.fmtX else id
  let g := stageRow x.s.level4 (Nat.log2 x.w) rnd (Tbl.get 0 t.stats ks) (Tbl.get 0 t.stats (ks + 1)) (Tbl.get 0 t.refs (refKey i row)) scores
  let eb := Num.elemBits vo.desc.fmtX
  let rb := packedBytes vo.desc.fmtX x.w
  let pBytes := leBytes rb (g.p.foldr (fun v n => (Num.conv vo.desc.fmtX .rne true (Num.val v)).bits + 2 ^ eb * n) 0)
  let tile := vo.desc.x.tile (xUnit vo i ⟨x.c.id.head, 0, x.c.id.nt⟩ x.c.id.block)
  let src := ReqSrc.master (coreMid x.u)
  let stored := if x.c.stored.contains row then x.c.stored else row :: x.c.stored
  let s1 := x.s.setCore x.u (fun t => { t with stats := Tbl.set 0 (Tbl.set 0 t.stats ks g.m) (ks + 1) g.l
                                               refs := Tbl.set 0 t.refs (refKey i row) g.r })
  let s2 := s1.landRequest ⟨x.u, tile, row * rb, pBytes, !x.c.begun, false, true, src⟩
  let s3 := s2.landRequest ⟨x.u, tile, x.c.rows * rb + 4 * row, leBytes 4 g.c.toNat, false, stored.length == x.c.rows && !x.c.stored.contains row, true, src⟩
  { x with s := if g.moved then s3.addPair (R.COR_FUS_RESCALE_LO x.u) 1 else s3, c := { x.c with begun := true, stored := stored } }

/-- R143: the scores of a vector's rows; lanes that the ST leaves inactive and columns at or beyond N are −∞. -/
def VX.storeScores (x : VX) : VX :=
  let cv := cvtLanes x.d x.f (x.srcLanes x.onRow)
  let y := (List.range x.segs).foldl (fun (y : VX) q =>
    let row := x.vecIdx * x.segs + q
    if row < x.c.rows then
      y.stageOne row ((List.range x.w).map (fun n =>
        if absCol x.d x.c (q * x.w + n) < x.o.shape.n then (cv.1.getD (q * x.w + n) none).getD Num.nInf else Num.nInf))
    else y) x
  y.flags cv.2.1 cv.2.2

end Sys2Proof.Machine
end

