-- ==== Sys2Proof/Machine/ChainChecks.lean ====
section
/-!
DEFINITION. Load-time checks of chains (R136, Table 4-7, R555) and of puppet programs (R253, Table 8-10).
-/

namespace Sys2Proof.Machine

open Sys2Proof

/-! ### Chain instructions -/

/-- R118: the fields of a chain instruction word. -/
def vecFOf (w : Nat) : VecF :=
  ⟨bits w 57 52, bits w 51 46, bits w 45 40, bits w 39 34, bit w 33, bits w 32 29, bit w 28, bit w 27, bits w 26 24, bit w 23,
   bits w 22 19, bits w 18 15, bits w 14 0⟩

def vecOpOf (w : Nat) : Nat := bits w 63 58

/-- What a register field names. -/
inductive RK where
  | none_ | vec | pred | scal
  deriving DecidableEq, Repr

/-- The fields an opcode uses: destination and sources, whether vb may be a broadcast scalar, the guard, mz, rm and sat,
fmt, the largest fn, and the bits of imm. -/
structure OpUse where
  vd : RK
  va : RK
  vb : RK
  bs : Bool
  vc : RK
  guard : Bool
  mz : Bool
  rnd : Bool
  fmt : Bool
  fnMax : Nat
  imm : Nat
  deriving DecidableEq, Repr

/-- R118, R119, R121, R128, R130, R135: the use of each opcode and fn. NOP, SEND and SOP write no lanes of this engine and use no guard:
SEND sends all 512 lanes (R135). (DESIGN CHOICE, log entry 121.) -/
def opUse (op fn : Nat) : OpUse :=
  if op = 0 then ⟨.none_, .none_, .none_, false, .none_, false, false, false, false, 0, 0⟩
  else if op ≤ 3 ∨ op = 6 ∨ op = 7 then ⟨.vec, .vec, .vec, true, .none_, true, true, false, false, 0, 0⟩
  else if op = 4 ∨ op = 5 then ⟨.vec, .vec, .vec, true, .vec, true, true, false, false, 0, 0⟩
  else if op = 8 then ⟨.vec, .vec, .none_, false, .none_, true, true, false, false, 2, 0⟩
  else if op = 9 then ⟨.pred, .vec, .vec, true, .none_, true, true, false, false, 7, 0⟩
  else if op = 0xA then ⟨.vec, .vec, .vec, true, .pred, true, true, false, false, 0, 0⟩
  else if op = 0xB then ⟨.vec, .vec, .none_, false, .none_, true, true, true, true, 0, 0⟩
  else if op ≤ 0xF then ⟨.vec, .vec, .none_, false, .none_, true, true, false, false, 0, 0⟩
  else if op = 0x10 then
    if fn = 3 then ⟨.vec, .vec, .vec, true, .none_, true, true, false, false, 3, 0⟩
    else ⟨.vec, .vec, .none_, false, .none_, true, true, false, false, 3, if fn = 1 then 0 else 0x7FFF⟩
  else if op = 0x11 then ⟨.vec, .vec, .none_, false, .none_, true, true, false, false, 3, 0x601F⟩
  else if op = 0x12 then ⟨.vec, .none_, .none_, false, .none_, true, true, false, false, 0, 0x6007⟩
  else if op = 0x13 then ⟨.none_, .vec, .none_, false, .none_, true, false, false, false, 0, 0x6007⟩
  else if op = 0x14 then
    ⟨.pred, if fn ≤ 2 then .scal else .none_, if fn = 1 ∨ fn = 2 then .scal else .none_, false, .none_, true, true, false, false, 4, 0x6000⟩
  else if op = 0x15 then ⟨.pred, .pred, if fn = 4 then .none_ else .pred, false, .none_, true, true, false, false, 4, 0⟩
  else if op = 0x16 then
    ⟨.vec, .scal, if fn = 0 then .scal else .none_, false, .none_, true, true, false, true, 2, if fn = 1 then 0 else 0x6000⟩
  else if op = 0x17 then
    ⟨.none_, .vec, if fn = 1 then .scal else .none_, false, if fn = 1 then .scal else .none_, true, false, true, true, 2, 0x6000⟩
  else if op = 0x18 then ⟨.none_, .vec, .none_, false, .none_, false, false, false, false, 0, 0x7C07⟩
  else if op = 0x19 then ⟨.vec, .none_, .none_, false, .none_, true, true, false, false, 0, 7⟩
  else
    ⟨.scal, if fn ≤ 1 then .none_ else if fn = 5 then .vec else .scal, if 2 ≤ fn ∧ fn ≤ 4 then .scal else .none_, false, .none_,
     false, false, false, false, 5, if fn ≤ 1 then 0x7FFF else 0⟩

/-- Does a field of six bits fit what it names? -/
def fieldFits (k : RK) (v : Nat) : Bool :=
  match k with
  | .none_ => v == 0
  | .vec => true
  | .pred => decide (v < 16)
  | .scal => decide (v < 32)

/-- R119, R34: an instruction's encoding. -/
def vecEncOk (op : Nat) (f : VecF) : Bool :=
  let u := opUse op f.fn
  decide (op ≤ 0x1A) && decide (f.fn ≤ u.fnMax) && fieldFits u.vd f.vd && fieldFits u.va f.va &&
  (if f.bs then u.bs && decide (f.vb < 32) else fieldFits u.vb f.vb) && fieldFits u.vc f.vc &&
  (u.guard || (!f.all && f.pg == 0)) && (u.mz || !f.mz) && (u.rnd || (f.rm == 0 && !f.sat)) && decide (f.rm ≤ 4) &&
  (u.fmt || f.fmt == 0) && f.fmt != 0xD && f.fmt != 0xE && (f.imm &&& (0x7FFF - u.imm)) == 0

/-- R119: the row-aware opcodes. -/
def rowAware (op fn : Nat) : Bool := (decide (0x11 ≤ op) && decide (op ≤ 0x14)) || (op == 0x16 && fn == 2) || op == 0x17

/-- Registers an instruction reads, as (kind, relative index). -/
def vecReads (op : Nat) (f : VecF) : List (RK × Nat) :=
  let u := opUse op f.fn
  let one := fun (k : RK) (v : Nat) => if k = .none_ then [] else [(k, v)]
  one u.va f.va ++ (if f.bs then [(RK.scal, f.vb)] else one u.vb f.vb) ++ one u.vc f.vc ++
  (if u.guard && !f.all then [(RK.pred, f.pg)] else []) ++
  (if u.guard && !f.all && !f.mz && u.vd != .none_ && u.vd != .scal then [(u.vd, f.vd)] else [])

/-- The register it writes. -/
def vecWrites (op : Nat) (f : VecF) : Option (RK × Nat) :=
  let u := opUse op f.fn
  if u.vd = .none_ then none else some (u.vd, f.vd)

def regInWindow (h : ChainHdr) (r : RK × Nat) : Bool :=
  match r.1 with
  | .none_ => true
  | .vec => decide (r.2 ≤ h.vcount)
  | .pred => decide (r.2 ≤ h.pcount)
  | .scal => decide (r.2 ≤ h.scount)

/-- "Statistics": an instruction that uses a statistic, and which. -/
def vecStat (op : Nat) (f : VecF) : Option Nat :=
  if op = 0x12 ∨ op = 0x13 ∨ (op = 0x11 ∧ bit f.imm 3 = true) then some (bits f.imm 2 0) else none

/-- R142: a statistic it writes. -/
def vecStatWrite (op : Nat) (f : VecF) : Option Nat := if op = 0x12 then none else vecStat op f

/-! ### One chain -/

/-- A chain of a store: its header and its instructions with their indices in the store. -/
def hdrOf (ws : List Word64) (i : Nat) : ChainHdr := ⟨(ws.getD i 0).toNat, (ws.getD (i + 1) 0).toNat⟩

def chainLen (h : ChainHdr) : Nat := 2 + h.preLen + h.bodyLen + h.postLen

def chainInstrs (ws : List Word64) (i : Nat) : List (Nat × Nat × VecF) :=
  (List.range (chainLen (hdrOf ws i) - 2)).map (fun n => let w := (ws.getD (i + 2 + n) 0).toNat; (i + 2 + n, vecOpOf w, vecFOf w))

/-- Does a pointer name a header whose chain lies in the store? -/
def chainHere (ws : List Word64) (i : Nat) : Bool := decide (i + chainLen (hdrOf ws i) ≤ ws.length)

def hdrEncOk (h : ChainHdr) : Bool :=
  bits h.w0 63 43 == 0 && h.stats != 3 && h.unrollCode != 3 && bits h.w1 63 30 == 0 && decide (1 ≤ h.bodyLen) &&
  decide (h.postLen ≤ 1020) && decide (h.bodyLen ≤ 1022) && decide (h.preLen ≤ 1021)

def windowsOk (h : ChainHdr) : Bool :=
  decide (h.vbase + h.vcount ≤ 63) && decide (h.pbase + h.pcount ≤ 15) && decide (h.sbase + h.scount ≤ 31) &&
  decide (h.unroll ≤ h.vcount + 1) && decide (h.unroll ≤ h.pcount + 1)

/-- "Definition": every read is of an input, a scalar or a register written earlier. -/
def defsFrom (h : ChainHdr) : List (RK × Nat) → List (Nat × Nat × VecF) → Option Nat
  | _, [] => none
  | known, (i, op, f) :: rest =>
    if (vecReads op f).all (fun r => r.1 == .scal || decide (r.2 < h.unroll) || known.contains r) then
      defsFrom h ((vecWrites op f).toList ++ known) rest
    else some i

/-- Is instruction index i of the body segment? -/
def inBody (h : ChainHdr) (ch i : Nat) : Bool := decide (ch + 2 + h.preLen ≤ i) && decide (i < ch + 2 + h.preLen + h.bodyLen)

/-- The checks of one instruction that do not depend on the descriptor (Tables 4-4a, 4-7; R119, R128, R130). -/
def instrOk (h : ChainHdr) (ch : Nat) (x : Nat × Nat × VecF) : Bool :=
  let op := x.2.1
  let f := x.2.2
  let i := bits f.imm 14 13
  vecEncOk op f && ((vecReads op f) ++ (vecWrites op f).toList).all (regInWindow h) &&
  (match vecWrites op f with
   | some r => r.1 == .scal || decide (h.unroll ≤ r.2)
   | none => true) &&
  (!(rowAware op f.fn || (op == 0x16 && f.fn == 0)) || decide (i < h.unroll)) &&
  (inBody h ch x.1 || !((op == 0x16 && f.fn == 0) || (op == 0x17 && f.fn == 1)) || i == 0) &&
  (if h.prologue then !(op == 0x17 && f.fn == 0) && (vecStat op f).isNone else !(op == 0x17 && f.fn == 2)) &&
  (h.stats != 0 || (vecStat op f).isNone)

/-- A chain by itself: the index of its first failing word. -/
def chainFails (ws : List Word64) (ch : Nat) : Option Nat :=
  let h := hdrOf ws ch
  if !hdrEncOk h || !windowsOk h then some ch
  else match (chainInstrs ws ch).find? (fun x => !instrOk h ch x) with
    | some x => some x.1
    | none => defsFrom h [] (chainInstrs ws ch)

/-- R555: a chain against a descriptor that names it: SHUF within W, statistics within the mode's count, a stats area for
policy 0x2 (given by `area`), the score chain of R142 and R143. -/
def chainFailsFor (ws : List Word64) (ch kind : Nat) (d : Desc) (area : Bool) : Option Nat :=
  let h := hdrOf ws ch
  let w := segW d kind
  let score := d.kind == 2 && kind == 0
  if h.stats = 2 ∧ area = false then some ch
  else if score && !(h.stats == 2 && bit h.statInit 0 && !bit h.statInit 1) then some ch
  else ((chainInstrs ws ch).find? (fun x =>
    let op := x.2.1
    let f := x.2.2
    (op == 0x10 && (f.fn == 0 || f.fn == 2) && decide (w ≤ f.imm)) ||
    (match vecStat op f with | some j => decide (statCount d.mode ≤ j) | none => false) ||
    (score && (match vecStatWrite op f with | some j => decide (j < 2) | none => false)) ||
    (score && op == 0x17 && f.fn == 0 && f.fmt != 0 && !(d.strict && f.fmt == d.fmtStage)))).map (fun x => x.1)

/-- The chains a descriptor names, with the kind its pointer asks for (0 epilogue, 1 prologue, 2 deferred). -/
def descChains (d : Desc) : List (Nat × Nat) :=
  (chainPtr d.proChain).toList.map (fun c => (c, 1)) ++ (chainPtr d.epiChain).toList.map (fun c => (c, 0)) ++
  (if d.deferred then (chainPtr d.defChain).toList.map (fun c => (c, 2)) else [])

/-- Do two windows of registers share one? -/
def windowsMeet (a b : ChainHdr) : Bool :=
  let m := fun (x n y k : Nat) => decide (x ≤ y + k) && decide (y ≤ x + n)
  m a.vbase a.vcount b.vbase b.vcount || m a.pbase a.pcount b.pbase b.pcount || m a.sbase a.scount b.sbase b.scount

/-! ### Puppet programs (R227, R228, R234) -/

/-- A column instruction's fields (Tables 8-2, 8-10). -/
def columnOk (op : Nat) (w : Nat) (f : PupF) : Bool :=
  bits w 4 0 == 0 &&
  (if op = 1 ∨ op = 2 then f.a == 0 else if op = 6 then decide (f.d < 8) && f.a == 0 && f.fm == 0 && decide (f.lane < 16)
   else if op = 7 then f.d == 0 && f.fm == 0 && decide (f.lane < 2) else true) &&
  (op == 6 || op == 7 || (if f.fm = 3 then decide (f.lane < 4) else op == 5 || (if f.fm = 2 then decide (f.lane < 2) else f.lane == 0)))

/-- The fields another instruction uses: d, a, b, bs allowed, imm mask, largest fn. -/
def pupUse (op fn : Nat) : Nat × Nat × Nat × Bool × Nat × Nat :=
  if op = 0x08 then (15, 0, 0, false, 0x0F, 0)
  else if op = 0x09 ∨ op = 0x0A ∨ op = 0x0B ∨ op = 0x0C then (15, 15, 15, true, 0, 0)
  else if op = 0x0D then (15, 15, 7, false, 0xFF, 0)
  else if op = 0x0E then (if fn = 0 then 7 else 15, 15, 0, false, if fn = 0 then 0 else 0xFF, 1)
  else if op = 0x0F then (7, 15, 0, false, 0, 0)
  else if op = 0x10 then (15, 15, 0, false, 0, 0)
  else if op = 0x11 then (15, 15, 7, false, 0, 0)
  else if op = 0x12 then
    (7, if fn = 0 ∨ fn = 2 ∨ fn = 9 then 0 else 7, if fn = 3 ∨ fn = 5 ∨ fn = 6 ∨ fn = 7 ∨ fn = 10 then 7 else 0, false,
     if fn ≤ 1 then 0xFF else if fn = 2 then 3 else 0, 10)
  else if op = 0x13 then (0, 7, 7, false, 0xFF, 0)
  else if op = 0x14 then (0, 15, 7, false, 0xFF, 0)
  else (0, 0, 0, false, 0, 0)

/-- Table 8-10, Encoding. -/
def pupWordOk (w : Nat) : Bool :=
  let op := pupOpOf w
  let f := pupFOf w
  if 0x15 < op then false
  else if pupIsColumn op then columnOk op w f
  else
    let z := pupUse op f.fn
    decide (f.d ≤ z.1) && decide (f.a ≤ z.2.1) && (if f.bs then z.2.2.2.1 && decide (f.b < 8) else decide (f.b ≤ z.2.2.1)) &&
    (f.imm &&& (0xFF - z.2.2.2.2.1)) == 0 && decide (f.fn ≤ z.2.2.2.2.2)

/-- Tables 8-6 and 8-10: a cue entry. -/
def cueOk (prog : List Word32) (c : List Byte) : Bool :=
  c.length == 64 && bits (fieldAt c 0 2) 15 9 == 0 && decide (1 ≤ cueIter c) && decide (cueIter c ≤ 64) && fieldAt c 3 13 == 0 &&
  (match cueLen prog c with | some n => decide (n ≤ 64) | none => false)

/-- R383: the longest cue of a section. -/
def longestCue (p : PupSec) : Nat := p.cues.foldl (fun n c => max n ((cueLen p.prog c.2).getD 0)) 0

/-- Do two claims of one slice share a sector? -/
def claimsMeet (a b : Claim) : Bool := (a.mask &&& b.mask) != 0 && decide (a.first ≤ b.last) && decide (b.first ≤ a.last)

end Sys2Proof.Machine
end

