-- ==== Sys2Proof/Machine/LayChecks.lean ====
section
/-!
DEFINITION. The load-time checks of a layout image, in the order of Table 10-3 (R291-R296), with the descriptor checks of
Table 6-5, the group and slot checks (R306, R308, R346, R347, R368), the acts (R315, R318) and the guarantees (R383).
-/

namespace Sys2Proof.Machine

open Sys2Proof

/-- A failed check: code, section index, item index (Table 10-11). -/
abbrev Fail := Option (Nat × Nat × Nat)

/-- The first section in which a test names a failing item. -/
def failAt (i : Image) (code : Nat) (p : Section → Option Nat) : Fail :=
  (List.range i.sections.length).findSome? (fun n => (i.sections[n]?).bind (fun x => (p x).map (fun item => (code, n, item))))

def failHeader (code : Nat) (b : Bool) : Fail := if b then some (code, 0xFF, 0xFFFF) else none

/-- The whole section fails. -/
def wholeIf (b : Bool) : Option Nat := if b then some 0xFFFF else none

/-- Index of the first element a test refuses. -/
def badIdx {α : Type} (l : List α) (bad : α → Bool) : Option Nat := l.findIdx? bad

/-- The acts a section applies to. -/
def secActs (i : Image) (x : Section) : List Nat := if x.act = 0xFFFF then actList i else [x.act]

/-! ### Format, fetch, key, signature (R291-R293) -/

def checkHead (i : Image) (len : Nat) : Fail :=
  failHeader 2 (imgMagic i != layMagic || imgVersion i != 1 || imgLength i != len || decide (len < 1024) || decide (2 ^ 30 < len) ||
    len % 64 != 0 || imgSections i != i.sections.length || decide (imgSections i < 1) || decide (256 < imgSections i) ||
    !([0, 3, 4].contains (imgBehaviour i)) || decide (4 < imgKeySel i) || !([85, 95, 105].contains (imgMaxTemp i)))

def checkTable (i : Image) (len : Nat) : Fail :=
  failAt i 2 (fun x => wholeIf (x.offset % 64 != 0 || decide (x.offset < 0x100 + 32 * i.sections.length) ||
    decide (len - 64 < x.offset + x.length) ||
    decide (1 < (i.sections.filter (fun y => overlaps x.offset x.length y.offset y.length)).length)))

def State.checkKey (s : State) (i : Image) : Fail := failHeader 4 (imgKeySel i != 0 && s.ownerState (imgKeySel i) != 1)

def State.checkSig (s : State) (i : Image) : Fail :=
  let key := if imgKeySel i = 0 then Config.vendorKey else Tbl.get 0 s.fuse.ownerKey (imgKeySel i)
  failHeader 3 (!Config.ed25519Ok key (leBytes 64 i.digest.toNat) i.sig)

/-! ### Licences (R34, R217, R483, R531) -/

def State.licensed (s : State) (b : Nat) : Bool := s.getBit R.SEC_LICENCE.features b

/-- The chains of a CHAINS section that descriptors of its cores name. -/
def descsUsing (i : Image) (x : Section) : List Nat :=
  match x.body with
  | .chains ws => (secActs i x).flatMap (fun a => ((descsOf i a).filter (fun y => secCovers x (y.1 / 8) (y.1 % 8))).flatMap (fun y =>
      (y.2.2.flatMap (fun d => (descChains d).map (fun c => c.1))).filter (chainHere ws)))
  | _ => []

def State.checkLicence (s : State) (i : Image) : Fail :=
  failHeader 5 ((List.range 5).any (fun b => bit (imgLicences i) b && !s.licensed b)) <|>
  failAt i 5 (fun x => match x.body with
    | .group g => wholeIf (decide (256 < g.members) && !s.licensed 2)
    | .power m _ => wholeIf (m == 1 && !s.licensed 0)
    | .desc _ l => if s.licensed 3 then none else badIdx l (fun (d : Desc) => [d.fmtX, d.fmtW, d.fmtOut, d.fmtStage, d.fmtDef].contains 0xF)
    | .chains ws => if s.licensed 3 then none else (descsUsing i x).findSome? (fun c => ((chainInstrs ws c).find? (fun y =>
        (opUse y.2.1 y.2.2.fn).fmt && y.2.2.fmt == 0xF)).map (fun y => y.1))
    | .slots l => if s.licensed 1 then none else badIdx l (fun e => decide (4 ≤ e.port) && decide (e.port < 8))
    | .regions _ l => if s.licensed 4 then none else badIdx l (fun e => decide (1024 ≤ e.index) && e.enabled)
    | _ => none)

/-! ### Section content (R292) -/

/-- Table 10-2: the type of a section's content. -/
def bodyType : SecBody → Nat
  | .acts _ _ => 1 | .group _ => 2 | .slots _ => 3 | .routes _ => 4 | .cores _ => 5 | .desc _ _ => 6 | .chains _ => 7
  | .data _ => 8 | .puppet _ => 9 | .kv _ => 10 | .regions _ _ => 11 | .qos _ => 12 | .power _ _ => 13 | .other => 0

/-- Reserved fields of a section's content. -/
def bodyReserved : SecBody → Option Nat
  | .acts _ l => badIdx l (fun e => e.reserved != 0)
  | .group g => wholeIf (g.reserved != 0 || g.ids.any (fun x => decide (4096 ≤ x)))
  | .slots l => badIdx l (fun e => e.reserved != 0)
  | .data l => badIdx l (fun e => decide (1 < e.space))
  | _ => none

def countType (i : Image) (t : Nat) : Nat := (i.sections.filter (fun x => x.type_ == t)).length

/-- Every act has one CHAINS section for each core it uses, and no slice has two PUPPET sections in an act. -/
def missingChains (i : Image) : Bool :=
  (actList i).any (fun a => (coresOf i a).any (fun c =>
    ((secsOf i a).filter (fun x => x.type_ == 7 && secCovers x (c.core / 8) (c.core % 8))).length != 1))

def doublePuppet (i : Image) : Bool :=
  (actList i).any (fun a => (List.range 36).any (fun k =>
    decide (1 < ((secsOf i a).filter (fun x => x.type_ == 9 && secCovers x (k / 9) (k % 9))).length)))

/-- Does act a use puppets of logical slice n of chest c: a region declared for puppet use, or a stream of the KV pool, whose
claim its PUPPET section declares (R213, R286)? (DEDUCED, log entry 128.) -/
def usesPuppets (i : Image) (a c n : Nat) : Bool :=
  (regionsOf i a).any (fun r => r.puppet && overlaps r.base r.len (mkAddr c n 0) (2 ^ 33)) ||
  (decide (n < 8) && (match kvOf i with | some g => g.streams.contains (c * 8 + n) | none => false))

def missingPuppet (i : Image) : Bool :=
  (actList i).any (fun a => (List.range 36).any (fun k => usesPuppets i a (k / 9) (k % 9) && (puppetOf i a (k / 9) (k % 9)).isNone))

def checkContent (i : Image) : Fail :=
  failHeader 6 (!imgReservedOk i) <|>
  failAt i 6 (fun x => wholeIf (x.reserved != 0 || bodyType x.body != x.type_ || x.type_ == 0 ||
    !(decide (x.act < 64) || x.act == 0xFFFF) || !(decide (x.chest < 4) || x.chest == 0xFF) || !(decide (x.unit < 8) || x.unit == 0xFF || (x.unit == 8 && x.type_ == 9)) ||
    (([1, 2, 5].contains x.type_) && x.act != 0xFFFF)) <|> bodyReserved x.body) <|>
  failHeader 6 (countType i 1 != 1 || countType i 2 != 1 || countType i 5 != 1 || missingChains i || doublePuppet i || missingPuppet i)

/-! ### Resources (R19, R211, R212, R294) -/

/-- Tile-store ranges that a core's configuration names. -/
def coreRanges (c : CoreCfg) : List (Nat × Nat) := c.regions ++ c.landings.map (fun l => (l.off, l.len)) ++ c.spill ++ c.restore

/-- Do two ranges of a list overlap? -/
def someOverlap (l : List (Nat × Nat)) : Bool :=
  (List.range l.length).any (fun a => (List.range a).any (fun b =>
    let x := l.getD a (0, 0); let y := l.getD b (0, 0); overlaps x.1 x.2 y.1 y.2))

/-- Does a range of device memory reach into a failed slice, beyond 7 GiB of a degraded one, or past a slice's 8 GiB? -/
def State.rangeBad (s : State) (r : Nat × Nat) : Bool :=
  let u := s.sliceKey (addrChest r.1) (addrSlice r.1)
  decide (2 ^ 39 ≤ r.1) || decide (8 < addrSlice r.1) || decide (2 ^ 33 < addrOff r.1 + r.2) || s.sliceState u == 3 ||
  (s.sliceState u == 2 && decide (0x1C0000000 < addrOff r.1 + r.2))

def State.checkResources (s : State) (i : Image) : Fail :=
  failAt i 7 (fun x => match x.body with
    | .cores l => badIdx l (fun c => !s.present (c.core / 8) (c.core % 8) || decide (32 ≤ c.core) ||
        (coreRanges c).any (fun r => decide (tileEnd < r.1 + r.2)) || someOverlap (c.regions ++ c.landings.map (fun e => (e.off, e.len))))
    | .desc b l => wholeIf (!s.present x.chest x.unit || s.rangeBad (b, 256 * l.length) ||
        !(decide (mkAddr x.chest x.unit 0 ≤ b) && decide (b + 256 * l.length ≤ mkAddr x.chest x.unit (2 ^ 33))) || b % 64 != 0)
    | .data l => badIdx l (fun d => if d.space = 0 then s.rangeBad (d.addr, d.bytes.length) else decide (tileEnd < d.addr + d.bytes.length))
    | .regions l z => badIdx l (fun r => s.rangeBad (r.base, r.len) || s.inStaging r.base r.len) <|>
        wholeIf (someOverlap (l.map (fun r => (r.base, r.len))) || z.any (fun e => e.fixed && decide (signed 8 e.c < -105)))
    | _ => none) <|>
  failHeader 7 ((actList i).any (fun a => (List.range 36).any (fun k => actUses i a (k / 9) (k % 9) &&
    s.sliceState (s.sliceKey (k / 9) (k % 9)) == 3) || (namedRanges i a).any (fun r => decide (0 < r.2) && s.rangeBad r)))

/-! ### Chains (R136, R555) -/

/-- The descriptors of an act on a core. -/
def descsOn (i : Image) (a id : Nat) : List Desc := ((descsOf i a).filter (fun x => x.1 == id)).flatMap (fun x => x.2.2)

def cfgOn (i : Image) (a id : Nat) : Option CoreCfg := (coresOf i a).find? (fun c => c.core == id)

/-- Does a core's configuration reserve a range of its tile store? -/
def reserved (i : Image) (a id off n : Nat) : Bool :=
  match cfgOn i a id with
  | some c => c.regions.any (fun r => decide (r.1 ≤ off) && decide (off + n ≤ r.1 + r.2))
  | none => false

/-- R126, R142: bytes of a descriptor's stats area. -/
def statsSize (d : Desc) : Nat := foldedM d d.planShape * statWords d * 4 * subCount d.mode

/-- R107: bytes of its prologue copy; the planned M is taken as the rows that the copy holds, those of every head and batch item.
(DEDUCED, log entry 118.) -/
def copySize (d : Desc) : Nat := d.planBatch * d.planHeads * d.group * d.planM * packedBytes d.fmtX d.planK

/-- R91: bytes of its sum area: planned rows by a tile's columns for each sub-array that has tiles. -/
def sumSize (d : Desc) : Nat :=
  foldedM d d.planShape * subN d * 8 * min (subCount d.mode) (if d.subMap = 0 then nTiles d d.planShape else d.planHeads)

def statsHere (i : Image) (a id : Nat) (d : Desc) : Bool := reserved i a id d.statsArea (statsSize d)

/-- Tile-store ranges of the landing tiles that an operand record names on core `id`. -/
def landRanges (i : Image) (a id : Nat) (o : Operand) : List (Nat × Nat) :=
  match cfgOn i a id with
  | some c => (c.landings.filter (fun l => decide (o.landing ≤ l.idx) && decide (l.idx < o.landing + o.count))).map (fun l => (l.off, l.len))
  | none => []

/-- Table 4-7, "Sharing": the regions of core `id` that a descriptor's prologue reads: its streamed operand, where that lies in the
tile store or in landing tiles, its scale array, the constant block. -/
def proReads (i : Image) (a id : Nat) (d : Desc) : List (Nat × Nat) :=
  (if d.x.space = 1 then [xSpan d] else landRanges i a id d.x) ++
  ((scaleSpans d).filter (fun e => e.1 == 1 && e.2.1 == d.x.scaleAddr && Num.isMx d.fmtX)).map (fun e => e.2) ++
  [(d.constBlock, 128)]

/-- The output regions on core `id` of a descriptor of core `own`: in the tile store, in landing tiles, or a deferred region. -/
def epiWrites (i : Image) (a own id : Nat) (d : Desc) : List (Nat × Nat) :=
  (if d.y.space = 1 ∧ own = id then [ySpan d] else if d.y.space = 2 ∧ d.y.target = id then landRanges i a id d.y else []) ++
  (if d.deferred && !consumed i a own d && bits d.defRegion 40 39 == 1 && own == id then [defSpan d] else []) ++
  (if own = id then ((scaleSpans d).filter (fun e => e.1 == 1 && e.2.1 == d.y.scaleAddr && Num.isMx d.fmtOut)).map (fun e => e.2) else [])

/-- "Sharing": windows of prologues and epilogues, and what epilogues write over what prologues read. -/
def sharingBad (i : Image) (a id : Nat) (ws : List Word64) (ds : List Desc) : Bool :=
  let cs := ds.flatMap (fun d => (descChains d).map (fun p => (d, p)))
  let pro := cs.filter (fun x => x.2.2 == 1)
  let epi := cs.filter (fun x => x.2.2 != 1)
  pro.any (fun p => epi.any (fun e => windowsMeet (hdrOf ws p.2.1) (hdrOf ws e.2.1)) ||
    (descsOf i a).any (fun x => x.2.2.any (fun (e : Desc) => (chainPtr e.epiChain).isSome &&
      (epiWrites i a x.1 id e).any (fun w => (proReads i a id p.1).any (fun r => overlaps w.1 w.2 r.1 r.2)))))

/-- The chains of a core that its act's descriptors name. -/
def usedChains (i : Image) (a id : Nat) (ws : List Word64) : List Nat :=
  ((descsOn i a id).flatMap (fun d => (descChains d).map (fun c => c.1))).filter (chainHere ws)

/-- "Messages": a SEND whose receive register no chain of the target core RECVs. -/
def sendBad (i : Image) (a : Nat) (f : VecF) : Bool :=
  let id := bits f.imm 14 10
  let ws := (chainsOf i a id).getD []
  !(usedChains i a id ws).any (fun c => (chainInstrs ws c).any (fun x => x.2.1 == 0x19 && bits x.2.2.imm 2 0 == bits f.imm 2 0))

/-- Table 4-7 for one core of one act: the failing word. -/
def chainsBad (i : Image) (a id : Nat) (ws : List Word64) : Option Nat :=
  let ds := descsOn i a id
  wholeIf (decide (1024 < ws.length)) <|>
  (usedChains i a id ws).findSome? (fun c => chainFails ws c <|>
    ((chainInstrs ws c).find? (fun x => x.2.1 == 0x18 && sendBad i a x.2.2)).map (fun x => x.1)) <|>
  ds.findSome? (fun d => (descChains d).findSome? (fun p =>
    if chainHere ws p.1 then chainFailsFor ws p.1 p.2 d (statsHere i a id d) else none)) <|>
  wholeIf (sharingBad i a id ws ds) <|>
  ds.findSome? (fun d => match chainPtr d.proChain with
    | some c => if reserved i a id d.proCopy (copySize d) then none else some c
    | none => none)

def checkChains (i : Image) : Fail :=
  failAt i 8 (fun x => match x.body with
    | .chains ws => (secActs i x).findSome? (fun a => ((coresOf i a).filter (fun c => secCovers x (c.core / 8) (c.core % 8))).findSome?
        (fun c => chainsBad i a c.core ws))
    | _ => none)

/-! ### Descriptors (R168, R188, Table 6-5) -/

def fmtBad (c : Nat) : Bool := c == 0xD || c == 0xE

/-- Encodings that Tables 6-1 and 6-2 refuse. -/
def encBad (d : Desc) : Bool :=
  !d.reservedOk || d.x.reserved != 0 || d.w.reserved != 0 || d.y.reserved != 0 || !([1, 2, 3].contains d.kind) || d.mode == 3 ||
  decide (1 < d.subMap) || d.loopOrder != 0 || d.shapeSrc == 3 || d.predPolicy == 3 || d.x.space == 3 || d.w.space == 3 || d.y.space == 3

def formatsBad (d : Desc) : Bool :=
  fmtBad d.fmtX || fmtBad d.fmtW || fmtBad d.fmtOut || fmtBad d.fmtStage || fmtBad d.fmtDef || d.fmtX == 0 || d.fmtW == 0 ||
  (Num.pairPath d.fmtX d.fmtW).isNone || (d.strict && decide (2 < d.fmtStage)) ||
  (d.deferred && d.fmtDef != 0 && d.fmtDef != d.fmtOut)

/-- R54, R57, R61. -/
def exactBad (ds : List Desc) (d : Desc) : Bool :=
  decide (109 < d.ceiling) || (d.exact && decide (2 ^ 19 < d.kTotal)) ||
  (d.exact && decide (1 < d.holders) && ds.any (fun e => e.exact && decide (1 < e.holders) && e.owner == d.owner &&
    e.partialLanding == d.partialLanding && e.ceiling != d.ceiling))

def splitBad (d : Desc) : Bool :=
  decide (d.kTotal < d.kFirst + d.planK) || decide (d.holders ≤ d.holder) ||
  (d.orderedSplit && (d.kFirst % subK d.mode != 0 || (d.kFirst + d.planK != d.kTotal && (d.kFirst + d.planK) % subK d.mode != 0)))

def foldingBad (d : Desc) : Bool :=
  (d.subMap == 0 && d.w.headStride != 0) || d.w.batchStride != 0 || d.x.trans || d.y.trans

def plannedBad (d : Desc) : Bool :=
  d.planM == 0 || d.planN == 0 || d.planK == 0 || d.planBatch == 0 || d.planHeads == 0 || d.group == 0 || decide (64 < d.group)

/-- Rows of the largest output block of a plan. -/
def planRows (d : Desc) : Nat := min (blockRows d) (foldedM d d.planShape)

/-- Bytes of a unit of the streamed operand; a P tile holds its correction column too (R146). -/
def xUnitBytes (d : Desc) : Nat := planRows d * packedBytes d.fmtX (subK d.mode) + (if d.kind = 3 then 4 * planRows d else 0)

/-- Bytes of an output tile; a triple-output tile holds records (R150). -/
def yUnitBytes (d : Desc) : Nat :=
  planRows d * (if d.kind = 3 ∧ d.tripleOut = true then tripleLen d.planN else packedBytes d.fmtOut (subN d))

/-- A range of landing tiles is missing, too small or past 4,095. -/
def landingsBad (i : Image) (a id : Nat) (o : Operand) (unit : Nat) : Bool :=
  o.count == 0 || decide (4095 < o.landing + o.count - 1) ||
  (List.range o.count).any (fun t => match (cfgOn i a id).bind (fun c => c.landings.find? (fun l => l.idx == o.landing + t)) with
    | some l => decide (l.len < unit)
    | none => true)

def spaceBad (i : Image) (a id : Nat) (d : Desc) : Bool :=
  (d.x.space != 1 && landingsBad i a id d.x (xUnitBytes d)) || (d.w.space != 1 && landingsBad i a id d.w (wUnitBytes d)) ||
  (d.y.space == 2 && landingsBad i a d.y.target d.y (yUnitBytes d)) ||
  (descExtents i a id d).any (fun e => e.1 == 1 && decide (tileEnd < e.2.1 + e.2.2)) ||
  (!(descChains d).isEmpty && decide (tileEnd < d.constBlock + 128))

/-- R91: does a sub-array of the plan rotate? -/
def rotates (d : Desc) : Bool := decide (1 < blocks d d.planShape) && decide (1 < kTiles d d.planShape)

/-- Does the epilogue chain keep statistics across N tiles (R126)? -/
def keepsStats (ws : List Word64) (d : Desc) : Bool :=
  d.kind != 1 || (match chainPtr d.epiChain with | some c => (hdrOf ws c).stats == 2 | none => false)

/-- The areas a descriptor requires in its core's tile store. -/
def areasOf (i : Image) (a id : Nat) (ws : List Word64) (d : Desc) : List (Nat × Nat) :=
  (if rotates d then [(d.sumArea, sumSize d)] else []) ++ (if keepsStats ws d then [(d.statsArea, statsSize d)] else []) ++
  (if (chainPtr d.proChain).isSome then [(d.proCopy, copySize d)] else []) ++
  (if d.deferred && !consumed i a id d && bits d.defRegion 40 39 == 1 then [defSpan d] else [])

def regionsBad (i : Image) (a id : Nat) (ws : List Word64) (d : Desc) : Bool :=
  let l := areasOf i a id ws d
  l.any (fun r => !reserved i a id r.1 r.2) || someOverlap l ||
  (d.deferred && !consumed i a id d && d.fmtDef != d.fmtOut && d.y.space == bits d.defRegion 40 39 &&
    overlaps (ySpan d).1 (ySpan d).2 (defSpan d).1 (defSpan d).2)

def pointersBad (ws : List Word64) (d : Desc) : Bool :=
  (descChains d).any (fun p => !chainHere ws p.1 || (hdrOf ws p.1).prologue != (p.2 == 1))

/-- R139, R142: the pair that a score or value descriptor belongs to. -/
def pairBad (ds : List Desc) (d : Desc) : Bool :=
  if d.kind = 1 then false
  else match ds[d.partner]? with
    | none => true
    | some e =>
      let sc := if d.kind = 2 then d else e
      let vl := if d.kind = 2 then e else d
      sc.kind != 2 || vl.kind != 3 || sc.mode != vl.mode || sc.statsArea != vl.statsArea || isPaired sc.fmtX || isPaired sc.fmtW ||
      !(vl.fmtX == 1 || vl.fmtX == 4) || vl.exact || vl.orderedSplit || decide (subN vl < vl.planN) || decide (subK sc.mode < sc.planK) || (chainPtr sc.epiChain).isNone

/-- R117: the constant-block word that an act's DATA sections give scalar j of a descriptor's chain on core `id`. -/
def constWord (i : Image) (a id : Nat) (d : Desc) (j : Nat) : Nat :=
  let at_ := d.constBlock + 4 * j
  let byte := fun n => ((dataOf i a).findSome? (fun e =>
    if e.space = 1 ∧ e.core = id ∧ inRange (at_ + n) e.addr e.bytes.length then e.bytes[at_ + n - e.addr]? else none)).getD 0
  leNat ((List.range 4).map byte)

/-- R128, R163: the tile-store ranges that the LDs of a descriptor's chains read, where their scalars are constants of the block:
a scalar that an SOP of the chain writes is not known at load. (DESIGN CHOICE, log entry 119.) -/
def ldRanges (i : Image) (a id : Nat) (ws : List Word64) (d : Desc) : List (Nat × Nat) :=
  ((descChains d).filter (fun p => chainHere ws p.1)).flatMap (fun p =>
    let h := hdrOf ws p.1
    let l := chainInstrs ws p.1
    let fixed := fun r => !l.any (fun x => x.2.1 == 0x1A && x.2.2.vd == r)
    let vecs := cdiv (planRows d) (512 / segW d p.2)
    (l.filter (fun x => x.2.1 == 0x16)).flatMap (fun x =>
      let f := x.2.2
      let n := 64 * Num.elemBits (storeFmt f.fmt)
      if !fixed f.va || h.scount < f.va then []
      else if f.fn = 0 then
        if fixed f.vb then (List.range vecs).map (fun j => (constWord i a id d f.va + j * constWord i a id d f.vb, n)) else []
      else if f.fn = 1 then [(constWord i a id d f.va, n)]
      else [(constWord i a id d f.va, 4 * foldedM d d.planShape)]))

/-- R162, R163: descriptors that read a deferred tensor: its tiles in device memory, in the tile store of the same core, or in
landing tiles; as a streamed operand without the mark, as the stationary operand, or through LD. -/
def deferredBad (i : Image) (a id : Nat) (d : Desc) : Bool :=
  (d.deferredIn && (chainPtr d.proChain).isNone) || (d.deferred && d.hostVisible && consumed i a id d) ||
  (descsOf i a).any (fun x => x.2.2.any (fun (e : Desc) =>
    let c := consumed i a x.1 e
    let from_ := if c then ySpan e else defSpan e
    let sp := if c then e.y.space else bits e.defRegion 40 39
    let tiles := fun (o : Operand) => sp == 2 && o.space == 2 && e.y.target == id && decide (o.landing < e.y.landing + e.y.count) &&
      decide (e.y.landing < o.landing + o.count)
    let reads := fun (o : Operand) (n : Nat) => (o.space == sp && (sp == 0 || (sp == 1 && x.1 == id)) && overlaps o.addr n from_.1 from_.2) || tiles o
    let lands := if sp = 2 then (if e.y.target = id then landRanges i a id e.y else []) else if sp = 1 ∧ x.1 = id then [from_] else []
    e.deferred && ((reads d.x (xSpan d).2 && !d.deferredIn) || reads d.w (wSpan d).2 ||
      (ldRanges i a id ((chainsOf i a id).getD []) d).any (fun r => lands.any (fun l => overlaps r.1 r.2 l.1 l.2)))))

def deferStatsBad (d : Desc) : Bool :=
  d.deferred && (decide (statCount d.mode ≤ d.sa) || decide (statCount d.mode ≤ d.sb))

/-- Table 6-5 for one descriptor. -/
def descBad (i : Image) (a id : Nat) (d : Desc) : Bool :=
  let ws := (chainsOf i a id).getD []
  let ds := descsOn i a id
  encBad d || formatsBad d || exactBad ((descsOf i a).flatMap (fun x => x.2.2)) d || splitBad d || foldingBad d || plannedBad d ||
  spaceBad i a id d || regionsBad i a id ws d || pointersBad ws d || pairBad ds d || deferredBad i a id d || deferStatsBad d

def checkDescs (i : Image) : Fail :=
  failAt i 9 (fun x => match x.body with
    | .desc _ l => (secActs i x).findSome? (fun a => badIdx l (fun (d : Desc) => descBad i a (x.chest * 8 + x.unit) d))
    | _ => none)

/-! ### Puppets (R253) and the key-value pool (R255) -/

/-- The offsets of the two 4 KiB pages of a row of a slice bank. -/
def rowPages (t : SliceSt) (b row : Nat) : List Nat := [0, 64].map (fun x => offOf t (b / 32) (caOf (b % 32) (row * 128 + x)))

/-- R211, R242: what lies above 7 GiB of a degraded slice: rows at or beyond that offset in the map of all eight channels, and
channels that the map of seven leaves out. (DEDUCED, log entry 120.) -/
def aboveSeven (t : SliceSt) (b row : Nat) : Bool :=
  bit t.cut (b / 32) || (rowPages { t with degraded := false } b row).any (fun o => decide (0x1C0000000 ≤ o))

/-- R213: does a page of slice n of chest c lie in a region of act a that is declared for puppet use? -/
def pageDeclared (i : Image) (a c n o : Nat) : Bool :=
  (regionsOf i a).any (fun g => g.puppet && decide (g.base ≤ mkAddr c n o) && decide (mkAddr c n o + 4096 ≤ g.base + g.len))

/-- R242, R213: claims of the section of logical slice n of chest c. -/
def State.claimBad (s : State) (i : Image) (a c n : Nat) (l : List (Nat × Claim)) (x : Nat × Claim) : Bool :=
  let u := s.sliceKey c n
  let cl := x.2
  decide (16 ≤ x.1) || decide (4095 < cl.last) || l.any (fun y => y.1 != x.1 && claimsMeet cl y.2) ||
  (List.range 256).any (fun b => cl.mask.getLsbD b && (bit (Tbl.get 0 s.fuse.deadPuppets u).toNat (b / 2) ||
    (List.range (cl.last + 1 - cl.first)).any (fun k =>
      (s.sliceState u == 2 && aboveSeven (s.slice u) b (cl.first + k)) ||
      (n == 8 && (rowPages { s.slice u with degraded := s.sliceState u == 2 } b (cl.first + k)).any (fun o => !pageDeclared i a c n o)))))

def State.checkPuppets (s : State) (i : Image) : Fail :=
  failAt i 10 (fun x => match x.body with
    | .puppet p => wholeIf (decide (512 < p.prog.length)) <|> badIdx p.prog (fun w => !pupWordOk w.toNat) <|>
        (p.cues.find? (fun c => decide (1024 ≤ c.1) || !cueOk p.prog c.2)).map (fun c => c.1) <|>
        (secActs i x).findSome? (fun a => (List.range 36).findSome? (fun k => if secCovers x (k / 9) (k % 9) then
          (p.claims.find? (fun y => s.claimBad i a (k / 9) (k % 9) p.claims y)).map (fun y => y.1) else none))
    | _ => none)

/-- R255, Table 9-1: every limit, and every plane within its bank of 524,288 columns. -/
def kvBad (g : KvGeo) : Bool :=
  let page := g.p * g.h * (g.ks + g.vs) * 64 + g.p * 4
  !([16, 32, 64].contains g.p) || decide (g.h < 1) || decide (16 < g.h) || decide (g.ks < 1) || decide (8 < g.ks) || decide (g.vs < 1) ||
  decide (8 < g.vs) || !([16, 32, 64, 128].contains g.g) || !([1, 2, 4, 8].contains g.f) || decide (g.s < 16) || decide (1024 < g.s) ||
  g.s % g.f != 0 || decide (g.x < 1) || decide (65535 < g.x) || g.streams.isEmpty || decide (g.streams.length ≤ g.scoreStream) ||
  g.streams.any (fun k => decide (32 ≤ k)) || decide (page < 16384) || decide (131072 < page) ||
  decide (524288 < g.keyBase + g.h * g.s * g.p * g.ks) || decide (524288 < g.valBase + g.h * g.s * g.p * g.vs) ||
  decide (524288 < g.idBase + g.s * g.p / 16) || decide (524288 < g.cntBase + g.s / g.f) || decide (524288 < g.sideBase + g.x * sideLen g)

def checkKv (i : Image) : Fail := failAt i 11 (fun x => match x.body with | .kv g => wholeIf (kvBad g) | _ => none)

/-! ### Guarantees (R378, R379, R383) -/

/-- R378: the values that a layout's QOS section writes; without one, the default set (nothing listed). -/
def qosOfImage (i : Image) : Tbl Word32 :=
  match qosOf i with
  | none => []
  | some q =>
    let put := fun (t : Tbl Word32) (off : Nat) (v : Word32) => Tbl.set (R.reset off) t off v
    let cleared := qosDefaultKeys.foldl (fun t k => put (put t (R.QOS_REG_W0 k) 0) (R.QOS_REG_W1 k) 0) []
    let withEntries := q.entries.foldl (fun t e => put (put t (R.QOS_REG_W0 (e.1 * 16 + e.2.1)) e.2.2.1) (R.QOS_REG_W1 (e.1 * 16 + e.2.1)) e.2.2.2) cleared
    put (put (put withEntries R.QOS_HOST_CLASS0 (BitVec.ofNat 32 q.host0)) R.QOS_HOST_CLASS1 (BitVec.ofNat 32 (q.host1 % 4)))
      R.QOS_PORT_CLASS (BitVec.ofNat 32 (q.port % 2 ^ 16))

/-- R378: cue share of slice chest * 9 + logical slice: the section's (0 where it names none), or 8 without a section. -/
def shareOf (i : Image) (k : Nat) : Nat :=
  match qosOf i with
  | some q => ((q.shares.find? (fun x => x.1 == k)).map (fun x => x.2)).getD 0
  | none => 8

def State.checkGuarantees (s : State) (i : Image) : Fail :=
  let es := qosEntries (qosOfImage i)
  failHeader 12 (qosDuplicate es || qosMinAboveCap es || qosL0NoCap es ||
    (actList i).any (fun a => !(s.floorExceeded es i a (shareOf i)).isEmpty ||
      (List.range 36).any (fun k => match puppetOf i a (k / 9) (k % 9) with
        | some p => !p.cues.isEmpty && decide (shareOf i k < cdiv (longestCue p) 16)
        | none => false)))

/-! ### Routes (R361), group and slots (R306, R308, R346, R347, R368), acts (R315, R318) -/

def State.checkRoutes (s : State) (i : Image) : Fail :=
  failAt i 13 (fun x => match x.body with
    | .routes l => badIdx l (fun r => decide (4 ≤ r.src) || decide (4 ≤ r.dst) || !s.chestUsable r.src || !s.chestUsable r.dst ||
        decide (1 < r.dir) || r.edges.any (fun e => decide (4 ≤ e) || s.edgeRetired e))
    | _ => none)

def State.groupBad (s : State) (g : GroupSec) : Bool :=
  g.ids.length != g.members || decide (g.members < 1) || decide (2048 < g.members) || decide (g.members ≤ g.rank) ||
  decide (g.e < 10) || decide (18 < g.e) || decide (4095 < g.g) || decide (g.ids.eraseDups.length < g.ids.length) ||
  (s.isSet R.PZL_ID.assigned && g.ids.getD g.rank 0 != s.getF R.PZL_ID.device_id) ||
  (decide (1 < g.members) && (!s.isSet R.PZL_ID.assigned || s.getF R.PZL_SW_BOUND.bound_ns == 0 ||
    decide (g.g < cdiv (s.getF R.PZL_SW_BOUND.bound_ns) 64)))

/-- Scheduled capacity per tick at full width (Table 11-2, R368). -/
def slotCap (port : Nat) : Nat := if port < 8 then 6776 else 225792

/-- The switch allowances of the schedule entries that enter act a from another act (R318). -/
def allowances (sched : List SchedEnt) (a : Nat) : List Nat :=
  (List.range sched.length).filterMap (fun n =>
    let e := sched.getD n ⟨0, 0, 0, 0⟩
    let p := sched.getD (if n = 0 then sched.length - 1 else n - 1) ⟨0, 0, 0, 0⟩
    if e.act = a ∧ p.act ≠ a then some e.allow else none)

/-- The slots of act a in the sections before section k. -/
def slotsBefore (i : Image) (k a : Nat) : List SlotEnt :=
  ((i.sections.take k).filter (fun x => x.act == a || x.act == 0xFFFF)).flatMap (fun x => match x.body with | .slots l => l | _ => [])

/-- Slot n of section k's list l, in act a. -/
def slotBad (i : Image) (k : Nat) (l : List SlotEnt) (a n : Nat) (e : SlotEnt) : Bool :=
  match groupOf i, actsOf i with
  | some g, some (_, sched) =>
    decide (2 ^ g.e - g.g < e.start + e.len) || e.len == 0 ||
    (slotsBefore i k a ++ l.take n).any (fun f => f.port == e.port && f.dir == e.dir && overlaps e.start e.len f.start f.len) ||
    decide (e.len * slotCap e.port < e.bytes) || e.bytes % 16 != 0 || decide (1 < e.dir) || decide (1 < e.srcSpace) || decide (4095 < e.peer) || decide (4095 < e.landing) ||
    !(decide (e.port < 8) || (decide (0xF0 ≤ e.port) && decide (e.port ≤ 0xF3))) ||
    (allowances sched a).any (fun w => decide (e.start < w))
  | _, _ => true

/-- Slots are listed in ascending start tick (R308). -/
def unsorted (l : List SlotEnt) (n : Nat) (e : SlotEnt) : Bool :=
  match n with
  | 0 => false
  | m + 1 => match l[m]? with | some f => decide (e.start < f.start) | none => false

def State.checkGroup (s : State) (i : Image) : Fail :=
  (List.range i.sections.length).findSome? (fun k => (i.sections[k]?).bind (fun x =>
    (match x.body with
    | .group g => wholeIf (s.groupBad g)
    | .slots l => (secActs i x).findSome? (fun a => (List.range l.length).find? (fun n => match l[n]? with
        | some e => slotBad i k l a n e || unsorted l n e
        | none => false))
    | _ => none).map (fun item => (14, k, item))))

/-- R318: the switch from act a to act b, in ticks: 3.0 µs plus the largest transfer at 2.048 TB/s, rounded up. -/
def switchTicks (i : Image) (a b : Nat) : Nat :=
  let sum := fun (l : List (Nat × Nat)) => l.foldl (fun n r => n + r.2) 0
  let one := fun id => (match cfgOn i a id with | some c => sum c.spill | none => 0) + (match cfgOn i b id with | some c => sum c.restore | none => 0)
  cdiv (3000 * 2048 + (List.range 32).foldl (fun m id => max m (one id)) 0) (64 * 2048)

def actsBad (i : Image) (count : Nat) (l : List SchedEnt) : Option Nat :=
  wholeIf (decide (count < 1) || decide (64 < count) || l.isEmpty || decide (256 < l.length) ||
    (List.range count).any (fun a => !l.any (fun e => e.act == a))) <|>
  (List.range l.length).find? (fun n =>
    let e := l.getD n ⟨0, 0, 0, 0⟩
    let p := l.getD (if n = 0 then l.length - 1 else n - 1) ⟨0, 0, 0, 0⟩
    decide (count ≤ e.act) || decide (e.epochs < 1) || decide (65535 < e.epochs) ||
    (p.act != e.act && decide (e.allow < switchTicks i p.act e.act)))

def checkActs (i : Image) : Fail := failAt i 15 (fun x => match x.body with | .acts n l => actsBad i n l | _ => none)

/-- The checks of a whole image after its fetch, in the order of Table 10-3. -/
def State.checkImage (s : State) (i : Image) : Fail :=
  s.checkKey i <|> s.checkSig i <|> s.checkLicence i <|> checkContent i <|> s.checkResources i <|> checkChains i <|> checkDescs i <|>
  s.checkPuppets i <|> checkKv i <|> s.checkGuarantees i <|> s.checkRoutes i <|> s.checkGroup i <|> checkActs i

/-- R296, Table 10-3: every check in its order; the first that fails. `staged`: every byte was fetched, and stored and read back
in the staging area. What was fetched of the header and the section table is checked first. -/
def State.checkLayout (s : State) (x : ImageIn) (staged : Bool) : Fail :=
  let i := imageOf x
  let len := s.getF R.LAY_LEN.units * 64
  let n := x.bytes.length
  (if 256 ≤ n then checkHead i len else none) <|> (if 0x100 + 32 * i.sections.length ≤ n then checkTable i len else none) <|>
  failHeader 0x10 (!staged) <|> s.checkImage i

end Sys2Proof.Machine
end

