-- ==== Sys2Proof/Machine/LayoutOps.lean ====
section
/-!
DEFINITION. Layouts at run time: the loader's registers (R295-R300), the commit (R297), scheduled sends (R308, R309, R346,
R368), close records and epoch boundaries (R310-R314, R458), act switches (R316-R318).
-/

namespace Sys2Proof.Machine

open Sys2Proof

/-! ### The loader (R295, R296, R300) -/

/-- R295, R300: a load or unload is refused as busy. -/
def State.loadBusy (s : State) : Bool :=
  s.loading || !s.journal.isEmpty || !s.kv.ops.isEmpty || !s.kv.passes.isEmpty ||
  (List.range 36).any (fun u => (s.pup u).run.isSome || !(s.pup u).queue.isEmpty)

/-- LAY_REFUSE. -/
def State.layCode (s : State) (code sec item : Nat) : State :=
  ((s.setF R.LAY_REFUSE.code code).setF R.LAY_REFUSE.section sec).setF R.LAY_REFUSE.item item

/-- R296: a refused load: its code, section and item, the state before it, a log entry. -/
def State.layFail (s : State) (code sec item : Nat) : State :=
  ((s.layCode code sec item).setLayState s.lay.before).logE 0 0xA 0 0x1B 2 false 0 (code + sec % 256 * 32) 1

/-- The image that is staged, or the empty one. -/
def Image.none_ : Image := ⟨[], [], 0, 0⟩

def State.schedule (s : State) : List SchedEnt := s.fromLayout [] (fun i => match actsOf i with | some (_, l) => l | none => [])

def State.schedAt (s : State) (n : Nat) : SchedEnt := s.schedule.getD n ⟨0, 1, 0, 0⟩

def State.group (s : State) : GroupSec :=
  s.fromLayout ⟨0, 1, 0, 10, 0, 0, 0, []⟩ (fun i => (groupOf i).getD ⟨0, 1, 0, 10, 0, 0, 0, []⟩)

/-! ### The staging area (R294, R296) -/

/-- The image's bytes go into the staging area, sector by sector, and are read back; false where that fails. -/
def State.stageBytes : Nat → State → Nat → List Byte → State × Bool
  | 0, s, _, _ => (s, true)
  | fuel + 1, s, a, b =>
    if b.isEmpty then (s, true)
    else if (s.locate a).isNone then (s, false)
    else
      let w := s.memWrite a (b.take 64) []
      let r := w.1.memRead a 64
      let t := State.stageBytes fuel r.1 (a + 64) (b.drop 64)
      (t.1, w.2 && r.2.isSome && t.2)

def State.stageImage (s : State) (b : List Byte) : State × Bool :=
  match s.stageChest with
  | some c => State.stageBytes (b.length / 64 + 1) s (mkAddr c 8 0x180000000) b
  | none => (s, false)

/-! ### Stopping (R297 step 1, R300, R314) -/

/-- No epochs run any more; what waited for a boundary takes effect at once, but for a takeover (R314, R457). -/
def State.epochsEnd (s : State) : State :=
  let s1 := ({ s with lay := { s.lay with
    start := 0, began := false, slotSt := [], closes := [], closed := false, switchDue := false, stopDue := false } }.setF
    R.LAY_STATUS.barrier_wait 0).setF R.LAY_STATUS.switching 0
  let s2 := s1.deferredTake
  if s2.thm.resumeDue then s2.pauseLifts else s2

/-! ### The commit (R297, R378, R483) -/

/-- R301: the behaviour level a header sets. -/
def State.setLevel (s : State) (b : Nat) : State :=
  let lv := if b = 0 then s.getF R.GLB_BEHAVIOUR.strap else b
  ((s.setF R.GLB_BEHAVIOUR.level lv).setF R.GLB_BEHAVIOUR.from_header (if b = 0 then 0 else 1)).setF R.KVM_STATUS.level (lv - 3)

/-- R211: a degraded slice takes its 7 GiB map and is zeroed. -/
def State.zeroDegraded (s : State) : State :=
  s.each ((List.range 36).filter (fun u => s.sliceState u == 2)) (fun s' u =>
    (s'.setSlice u (fun t => { t with degraded := true })).zeroRange (mkAddr (u / 9) (s'.logicalSlice u) 0) 0x1C0000000)

/-- Descriptor areas and constant blocks of every act. -/
def State.writeAreas (s : State) (i : Image) : State :=
  s.each (actList i) (fun s' a =>
    let s1 := s'.each (descsOf i a) (fun s'' d => s''.ownWrite d.2.1 d.2.2.flatten)
    s1.each ((dataOf i a).filter (fun e => e.space == 0)) (fun s'' e => s''.ownWrite e.addr e.bytes))

/-- Core state that starts clear (R297, R317): operations, accumulators, statistics, receive registers, arrival flags. -/
def State.clearRun (s : State) (u : Nat) : State :=
  (((s.dropWork u).setCore u (fun t => { t with
    acc := [], sumBits := [], stats := [], refs := [], rr := [], rrFull := [], sends := [], openXfer := [], dropXfer := [] })).resetRange
    (R.COR_ARR_ARRIVE u 0) (R.COR_ARR_ARRIVE u 128))

/-- R359, R361: the directions of the diagonals that the act's ROUTES section sets. -/
def State.loadRoutes (s : State) : State :=
  let rs := s.fromLayout [] (fun i => routesOf i s.act)
  let rev := rs.foldl (fun m r => if r.src / 2 != r.dst / 2 && r.src % 2 != r.dst % 2 then setBit m r.src (r.dir == 1) else m) 0
  { s with lay := { s.lay with routeRev := rev } }.updateRoutes

/-- R378, R390: the QOS section's values, in the registers and in force. (DEDUCED, log entry 89.) -/
def State.loadQos (s : State) (i : Image) : State :=
  let t := qosOfImage i
  let isQos := fun k => (decide (0x710000 ≤ k) && decide (k < 0x718000)) || k == R.QOS_HOST_CLASS0 || k == R.QOS_HOST_CLASS1 || k == R.QOS_PORT_CLASS
  let s1 := { s with regs := Tbl.keep s.regs (fun k => !isQos k) }
  let s2 := t.foldl (fun (s' : State) (p : Nat × Word32) => s'.setW p.1 p.2.toNat) s1
  (s2.each (List.range 36) (fun s' k => s'.setF (R.QOS_ADMIT.cue_share k) (shareOf i k))).qosApply t

/-- R483: the POWER section's mode and steady bit; without one they stay. (DEDUCED, log entry 89.) -/
def State.loadPower (s : State) (i : Image) : State :=
  match powerOf i with
  | some (m, st) => ((s.setF R.PWR_MODE.mode m).setF R.PWR_MODE.steady (if st then 1 else 0)).setMode m st
  | none => s

/-- The cores of the act in force: chain stores and tile stores. Arrival flags start clear (R297). -/
def State.loadCores (s : State) : State :=
  s.each (List.range 32) (fun s' id =>
    if s'.present (id / 8) (id % 8) then
      let u := s'.coreKey id
      if s'.coreInReset u then s' else (s'.loadChains u id).loadTile u id
    else s')

/-- Step 5: act 0. -/
def State.loadAct0 (s : State) (i : Image) : State :=
  let s1 := s.loadCores
  let s2 := s1.each (List.range 36) (fun s' u => (s'.setPup u (fun t => { t with lost := false })).loadPup u)
  let s3 := (s2.each (List.range 4) (fun s' c => s'.loadSlots c)).loadRoutes
  (s3.loadQos i).loadPower i

/-- The layout's identity, group and counters (R321); drawer soft limit (R479). -/
def State.showLayout (s : State) (i : Image) : State :=
  let g := (groupOf i).getD ⟨0, 1, 0, 10, 0, 0, 0, []⟩
  let s1 := (((s.setPair R.LAY_ID_LO (imgId i)).setF R.LAY_GROUP.rank g.rank).setF R.LAY_GROUP_SIZE.members (g.members - 1)).setF
    R.THM_LIMITS.drawer_soft (imgMaxTemp i)
  let s2 := s1.each [R.LAY_EPOCH_LO, R.LAY_SLIP_LO] (fun s' r => s'.setPair r 0)
  (s2.setF R.LAY_LAST_SLIP.value 0).setF R.LAY_DEMOTED.value 0

/-- Steps 1-3. -/
def State.commitBegin (s : State) (i : Image) : State :=
  let s1 := { s.epochsEnd with lay := { s.epochsEnd.lay with force := none, entry := 0, left := 0, invalid := false, invalidDue := false } }
  ((s1.setF R.LAY_STATUS.act 0).setLevel (imgBehaviour i)).zeroDegraded

/-- R297: the commit, whole; the first one locks the pigeonhole bindings (R432). (DEDUCED, log entry 88.) -/
def State.commit (s : State) (i : Image) : State :=
  let s1 := s.commitBegin i
  let s2 := (({ s1 with lay := { s1.lay with force := some i, staged := some i } }.regionsTake).kvLoad).writeAreas i
  let s3 := (s2.each (List.range 36) (fun s' u => s'.clearRun u)).loadAct0 i
  let s4 := (s3.showLayout i).takeovers
  let s5 := { s4 with lay := { s4.lay with left := (s4.schedAt 0).epochs } }
  ((s5.setLayState 4).setF R.MBX_LOCK.locked 1).updateOffline

/-- No layout is in force: stores and claims cleared, the limits of an unloaded part. -/
def State.dropLayout (s : State) : State :=
  let s1 := { s with lay := { s.lay with force := none, staged := none } }.regionsTake
  let s2 := s1.each (List.range 36) (fun s' u => (s'.setCore u (fun t => { t with chain := [] })).setF (R.COR_VEC_CHAINS.words u) 0)
  let s3 := s2.each (List.range 36) (fun s' u => s'.loadPup u)
  let s4 := (s3.each (List.range 4) (fun s' c => s'.loadSlots c)).setPair R.LAY_ID_LO 0
  let s5 := ((s4.setF R.LAY_GROUP.rank 0).setF R.LAY_GROUP_SIZE.members 0).setF R.THM_LIMITS.drawer_soft 0x69
  (s5.setF R.LAY_STATUS.act 0).updateOffline

/-- R298: an uncorrectable error at address a stops the commit. (DEDUCED, log entry 88.) -/
def State.commitFails (s : State) (i : Image) (a : Nat) : State :=
  let s1 := (s.commitBegin i).dropLayout
  ((s1.layCode 0x11 0xFF 0xFFFF).setLayState 0).updateOffline.logE 0 0xA 0 0x1B 1 true (a / 64 * 64) (0x11 + 0xFF * 32) 1

/-- R554: does a margin test run on a slice that act a of an image uses? -/
def State.marginMeets (s : State) (i : Image) (a : Nat) : Bool :=
  (List.range 36).any (fun u => (s.slice u).margin.isSome && actUses i a (u / 9) (s.logicalSlice u))

/-! ### Scheduled transfers (R308, R309, R346, R368) -/

def State.slotList (s : State) : List SlotEnt := s.fromLayout [] (fun i => slotsOf i s.act)

/-- Capacity per tick of a slot's port or edge at the width in force. -/
def State.capNowOf (s : State) (port : Nat) : Nat :=
  if port < 8 then
    (if s.portState port = 2 ∨ s.portState port = 3 then [6776, 5082, 3388, 0].getD (s.getF (R.PZL_P_STATUS.width port)) 0 else 0)
  else
    let e := port - 0xF0
    let w := s.getF (R.LNK_S_WIDTH.width ((edgeSides e).headD 0))
    if s.edgeUp e then (List.range 16).foldl (fun n m => n + [0, 32, 32, 64].getD (bits w (2 * m + 1) (2 * m)) 0) 0 * 441 / 2 else 0

/-- R319, R346: is a send demoted? -/
def State.demotes (s : State) (e : SlotEnt) : Bool :=
  (s.lay.invalid && decide (0xF0 ≤ e.port)) || decide (e.len * s.capNowOf e.port < e.bytes)

/-- The bytes of a send; nothing while its source is held or cannot be read. -/
def State.slotData (s : State) (e : SlotEnt) : State × Option (List Byte) :=
  let u := s.coreKey e.srcCore
  if e.srcSpace = 1 then (s, some (s.getTile u e.srcAddr e.bytes))
  else
    let r := s.unitRead (coreMid u) e.srcAddr e.bytes
    (r.1, if r.2.1 = 0 then some r.2.2 else none)

/-- A send leaves in its slot: SCHED flits on a port (R346), or over an edge to a core of this part.
(DEDUCED, log entry 92.) -/
def State.sendSlot (s : State) (e : SlotEnt) (b : List Byte) : State :=
  if e.port < 8 then
    (if s.idAssigned then s.queueFlits e.port 0 (msgFlits 1 0 e.peer s.deviceId (e.landing % 2 ^ 12 + e.core % 32 * 2 ^ 12) b) else s)
  else (s.landWrite ⟨s.coreKey e.core, e.landing, 0, b, true, true, true, .master (coreMid (s.coreKey e.srcCore))⟩).1

/-- R309: a demoted send travels as ordinary writes to the same landing tile. -/
def State.sendDemoted (s : State) (e : SlotEnt) (b : List Byte) : State :=
  let s1 := (s.incSat R.LAY_DEMOTED.value 1).flagC R.LAY_FLAGS.demoted 8
  if e.port < 8 then s1.remoteLand e.peer e.core e.landing b
  else s1.landRequest ⟨s1.coreKey e.core, e.landing, 0, b, true, true, false, .master (coreMid (s1.coreKey e.srcCore))⟩

def State.slotDone (s : State) (i v : Nat) : State := { s with lay := { s.lay with slotSt := Tbl.set 0 s.lay.slotSt i v } }

/-- Send i goes out, demoted or not; it waits on while its bytes cannot be had. (DEDUCED, log entry 92.) -/
def State.sendNow (s : State) (i : Nat) (e : SlotEnt) (demoted : Bool) : State :=
  let r := s.slotData e
  match r.2 with
  | some b => (if demoted then r.1.sendDemoted e b else r.1.sendSlot e b).slotDone i 2
  | none => r.1.slotDone i 1

/-! ### The barrier (R310-R312) -/

def State.tickNow (s : State) : Nat := s.ftime / 64

def State.epoch (s : State) : Nat := s.getPair R.LAY_EPOCH_LO

/-- N = start(n) + 2^E. -/
def State.nominalEnd (s : State) : Nat := s.lay.start + 2 ^ s.group.e

/-- Every send of the epoch has left and every receive has landed. -/
def State.transfersDone (s : State) : Bool :=
  let l := s.slotList
  (List.range l.length).all (fun i => match l[i]? with
    | some e => if e.dir = 0 then Tbl.get 0 s.lay.slotSt i == 2 else decide (1 ≤ Tbl.get 0 s.lay.slotSt i)
    | none => true)

/-- R316: nothing of the outgoing act is in progress. -/
def State.drained (s : State) : Bool :=
  (List.range 36).all (fun u => coreIdle (s.core u) && (s.pup u).run.isNone && (s.pup u).queue.isEmpty) && s.kv.passes.isEmpty

/-- Number of the schedule entry after the one that runs. -/
def State.nextEntry (s : State) : Nat := if s.schedule.length ≤ s.lay.entry + 1 then 0 else s.lay.entry + 1

/-- Does this epoch end an entry whose successor names another act? -/
def State.switchNext (s : State) : Bool := decide (s.lay.left ≤ 1) && (s.schedAt s.nextEntry).act != s.act

/-- The first 8 bytes of plan_digest. -/
def digest8 (g : GroupSec) : Nat := g.digest.toNat % 2 ^ 64

/-- R310, R351: this member's close record. -/
def State.ownRecord (s : State) : CloseRec := ⟨s.group.rank, s.epoch, s.tickNow, digest8 s.group, s.group.groupId⟩

/-- Table 11-4, R351: the payload of a CLOSE. -/
def closeBytes (r : CloseRec) : List Byte :=
  leBytes 4 r.group ++ leBytes 4 0 ++ leBytes 8 r.epoch ++ leBytes 8 r.ready ++ leBytes 8 r.digest8

/-- R351: a close record leaves on the lowest-numbered port, or waits for one. (DEDUCED, log entries 91 and 133.) -/
def State.multicastClose (s : State) (r : CloseRec) : State :=
  match (List.range 8).find? s.portLinked with
  | some p => s.queueFlits p 3 (msgFlits 7 3 0 s.deviceId 0 (closeBytes r))
  | none => { s with fab := { s.fab with closes := s.fab.closes ++ [r] } }

/-- The records held for epoch n. -/
def State.records (s : State) (n : Nat) : List CloseRec := s.lay.closes.filter (fun r => r.epoch == n)

/-- Are the records of all members held for the epoch in progress? -/
def State.allClosed (s : State) : Bool :=
  (List.range s.group.members).all (fun k => (s.records s.epoch).any (fun r => r.rank == k))

/-- R311: start(n + 1). -/
def State.nextStart (s : State) : Nat := (s.records s.epoch).foldl (fun m r => max m (r.ready + s.group.g)) s.nominalEnd

/-- R312: the group is broken: flag, state 0x6, every accepted entry aborted. (DEDUCED, log entry 90.) -/
def State.breakGroup (s : State) : State :=
  let s1 := ((s.flagC R.LAY_FLAGS.group_broken 8).setRunState 6).logE 0 0xA 0 0x1B 2 false 0 (0x1F + 0xFF * 32) 1
  s1.abortAll.epochsEnd

/-- R310, R312: another member's record arrives, at a member that runs or waits for its start; a mismatch breaks the group. -/
def State.takeClose (s : State) (r : CloseRec) : State :=
  if s.runState ≠ 5 && !(s.runState == 4 && s.lay.start != 0) then s
  else if r.group ≠ s.group.groupId ∨ r.digest8 ≠ digest8 s.group then s.breakGroup
  else if s.lay.closes.contains r || decide (s.group.members ≤ r.rank) then s
  else { s with lay := { s.lay with closes := s.lay.closes ++ [r] } }

/-! ### Boundaries (R311, R313) -/

/-- The epoch after a boundary: its start, its schedule entry, its transfers. -/
def State.advanceEpoch (s : State) : State :=
  let next := s.nextStart
  let slip := next - s.nominalEnd
  let l := s.slotList
  let st := (List.range l.length).foldl (fun t i => match l[i]? with
    | some e => if e.dir = 0 then t else Tbl.set 0 t i (Tbl.get 0 s.lay.slotSt i - 1)
    | none => t) []
  let ent := if s.lay.left ≤ 1 then s.nextEntry else s.lay.entry
  let s1 := ((s.setPair R.LAY_EPOCH_LO (s.epoch + 1)).addPair R.LAY_SLIP_LO slip).setF R.LAY_LAST_SLIP.value (min slip 0xFFFFFFFF)
  let s2 := if slip = 0 then s1 else s1.flagC R.LAY_FLAGS.slipped 8
  { s2 with lay := { s2.lay with
    start := next, slotSt := st, closed := false, closes := s.lay.closes.filter (fun r => decide (s.epoch < r.epoch))
    entry := ent, left := if s.lay.left ≤ 1 then (s.schedAt ent).epochs else s.lay.left - 1
    switchDue := s.lay.switchDue || s.switchNext } }.setF R.LAY_STATUS.barrier_wait 0

/-- R319: the on-package timetable becomes invalid. -/
def State.invalidate (s : State) : State :=
  if s.lay.invalidDue then { s with lay := { s.lay with invalidDue := false, invalid := true } }.flagC R.LAY_FLAGS.timetable_invalid 8 else s

/-- R484: in steady timing a window closes at the last boundary that falls no more than 250 ms after it opened. -/
def State.lastBoundary (s : State) : State :=
  if s.steady && s.sprintOpen && s.thm.windowDue.isNone && decide (s.thm.sprintAt + 250000000 < s.now + 64 * 2 ^ s.group.e) then
    { s with thm := { s.thm with windowDue := some (false, false) } }
  else s

/-- R313: takeover, timetable, act switch, throttle and mode, resumption, in that order. A switch that is due takes the
changes after it with it, but a resumption comes first (Table 18-5). While a pause holds, nothing applies (Table 18-5). -/
def State.boundaryChanges (s : State) : State :=
  if s.paused && !s.thm.resumeDue then s
  else
    let s1 := s.takeovers.invalidate.lastBoundary
    let s2 := if s1.lay.switchDue then s1.setF R.LAY_STATUS.switching 1 else s1.deferredTake
    if s2.thm.resumeDue then s2.pauseLifts else s2

/-! ### Act switches (R317) -/

/-- What a switch leaves of a core's tile store: nothing is preserved until the restore. (DESIGN CHOICE, log entry 27.) -/
def State.loseTile (s : State) (u : Nat) : State := s.tick.setCore u (fun t => { t with tile := [], tileLost := s.tick.fresh })

/-- One core's switch: spill of the outgoing act, restore and chain store of the incoming one. -/
def State.switchCore (s : State) (old new id : Nat) : State :=
  let u := s.coreKey id
  if s.coreInReset u || !s.present (id / 8) (id % 8) then s
  else
    let cfg := fun a => s.fromLayout none (fun i => cfgOn i a id)
    let s1 := match cfg old with
      | some c => s.spillRegions u c.spillArea c.spill
      | none => s
    let s2 := (s1.clearRun u).loseTile u
    let s3 := match cfg new with
      | some c => s2.restoreRegions u c.restoreArea c.restore
      | none => s2
    (s3.loadChains u id).setResident u id

/-- R316, R317, R554: the switch to the act of the schedule entry in force. -/
def State.switchAct (s : State) : State :=
  let old := s.act
  let new := (s.schedAt s.lay.entry).act
  let s1 := (s.setF R.LAY_STATUS.act new).regionsTake
  let s2 := s1.each (List.range 32) (fun s' id => s'.switchCore old new id)
  let s3 := (s2.each (List.range 36) (fun s' u => s'.loadPup u)).each (List.range 4) (fun s' c => s'.loadSlots c)
  let s4 := { s3.loadRoutes with lay := { s3.loadRoutes.lay with switchDue := false, slotSt := [] } }
  (s4.updateOffline.setF R.LAY_STATUS.switching 0).deferredTake

end Sys2Proof.Machine
end

