-- ==== Sys2Proof/Machine/Fabric.lean ====
section
/-!
DEFINITION. Porzil fabric ports (chapter 11).
-/

namespace Sys2Proof.Machine

open Sys2Proof

/-! ### Requests of other devices (R331, R332) -/

/-- Table 13-3: the master id of a receiving port. -/
def portMid (p : Nat) : Nat := p / 2 * 64 + 0x17 + p % 2

def reqTarget (b : List Byte) : Nat := fieldAt b 0 8
def reqLength (b : List Byte) : Nat := fieldAt b 8 4
def reqKind (b : List Byte) : Nat := fieldAt b 12 1
def reqAtomic (b : List Byte) : Nat := fieldAt b 13 1

/-- Table 11-5: the landing-tile write that a request of kind 1 is. -/
def State.reqLand (s : State) (b : List Byte) (src : ReqSrc) (data : List Byte) : LandWrite :=
  let t := reqTarget b
  ⟨s.coreKey (bits t 42 38 % 32), bits t 37 26, bits t 25 0, data, bit (reqKind b) 1, bit (reqKind b) 2, false, src⟩

/-- A whole request message: served, and answered with its tag. (DEDUCED, log entry 55.) -/
def State.serveRequest (s : State) (p : Nat) (f : Flit) (b : List Byte) : State :=
  let src := ReqSrc.fabric f.hdr.src (flitTag f) f.op
  let n := reqLength b
  let addr := bits (reqTarget b) 38 0
  let data := b.drop 16
  if n = 0 ∨ 4096 < n then s.respond src 1 []
  else if f.op = 2 then
    if bit (reqKind b) 0 then s.respond src 1 [] else s.request ⟨src, portMid p, false, addr, n, none, [], none⟩
  else if f.op = 3 then
    if data.length < n then s.respond src 1 []
    else if bit (reqKind b) 0 then s.landRequest (s.reqLand b src (data.take n))
    else s.request ⟨src, portMid p, false, addr, n, some (data.take n), [], none⟩
  else
    let op := bits (reqAtomic b) 3 0
    let w := if bit (reqAtomic b) 4 then 8 else 4
    if 9 < op ∨ bit (reqKind b) 0 = true then s.respond src 1 []
    else s.request ⟨src, portMid p, false, addr, w, some (data.take w), [], some (op, fieldAt data w w)⟩

/-- R330, R331: a request flit joins its message; the last one completes it. (DEDUCED, log entry 55.) -/
def State.requestFlit (s : State) (p : Nat) (f : Flit) : State :=
  let got := if flitFirst f then [] else Tbl.get [] (s.port p).partialMsg 1
  let all := got ++ f.payload
  if flitLast f then (s.setPort p (fun t => { t with partialMsg := Tbl.set [] t.partialMsg 1 [] })).serveRequest p f all
  else s.setPort p (fun t => { t with partialMsg := Tbl.set [] t.partialMsg 1 all })

/-- A flit of one op reaches a port. -/
def opArrives (s : State) (p op : Nat) (f : Flit) (handle : State → State) : State :=
  s.guard (decide (p < 8) && f.op == op) (fun s => s.receive p f handle)

/-- R334: an idle flit brings its ack, nak and credit fields. -/
def execFlitIdle (p : Nat) (f : Flit) (s : State) : Host.Outcome State Fault Refusal :=
  whenUp s (fun s => opArrives s p 0 f (fun s => s))

def execFabricRead (p : Nat) (f : Flit) (s : State) : Host.Outcome State Fault Refusal :=
  whenUp s (fun s => opArrives s p 2 f (fun s => s.requestFlit p f))

def execFabricWrite (p : Nat) (f : Flit) (s : State) : Host.Outcome State Fault Refusal :=
  whenUp s (fun s => opArrives s p 3 f (fun s => s.requestFlit p f))

def execFabricAtomic (p : Nat) (f : Flit) (s : State) : Host.Outcome State Fault Refusal :=
  whenUp s (fun s => opArrives s p 4 f (fun s => s.requestFlit p f))

/-! ### Responses to requests of this part (R332, R348) -/

/-- Table 17-5: what the requester sees; a remote store's (0xFF) requester sees nothing. -/
def State.reqAnswer (s : State) (r : OutReq) (status : Nat) (data : List Byte) : State :=
  if r.master = 0xFF then s else s.respond (.master r.master) status data

/-- DEDUCED, log entry 56. -/
def State.dropReq (s : State) (tag : Nat) : State :=
  { s with fab := { s.fab with reqs := s.fab.reqs.filter (fun (r : OutReq) => r.tag != tag) } }

/-- R332, R348: a response flit; one that no request waits for is dropped and counted. (DEDUCED, log entry 56.) -/
def State.responseFlit (s : State) (f : Flit) : State :=
  match s.fab.reqs.find? (fun (r : OutReq) => r.tag == flitTag f) with
  | none => if flitLast f then s.incSat R.PZL_LATE.late 1 else s
  | some r =>
    let all := r.got ++ f.payload
    if flitLast f then (s.dropReq r.tag).reqAnswer r (flitStatus f) all
    else { s with fab := { s.fab with reqs := s.fab.reqs.map (fun (x : OutReq) => if x.tag == r.tag then { x with got := all } else x) } }

def execFabricData (p : Nat) (f : Flit) (s : State) : Host.Outcome State Fault Refusal :=
  whenUp s (fun s => opArrives s p 5 f (fun s => s.responseFlit f))

def execFabricDone (p : Nat) (f : Flit) (s : State) : Host.Outcome State Fault Refusal :=
  whenUp s (fun s => opArrives s p 6 f (fun s => s.responseFlit f))

/-- Table 11-11: the request timeout in ns. -/
def State.reqTimeout (s : State) : Nat := max 1 (s.getF R.PZL_REQ_TIMEOUT.timeout_us) * 1000

/-- R348: no response within PZL_REQ_TIMEOUT. -/
def requestTimeoutOp (s : State) (tag : Nat) : State :=
  match s.fab.reqs.find? (fun (r : OutReq) => r.tag == tag) with
  | none => s
  | some r => s.guard (decide (r.at_ + s.reqTimeout ≤ s.now)) (fun s => ((s.dropReq tag).flag R.PZL_FLAGS.req_timeout).reqAnswer r 1 [])

def execRequestTimeout (tag : Nat) (s : State) : Host.Outcome State Fault Refusal := whenUp s (fun s => requestTimeoutOp s tag)

/-! ### Scheduled transfers (R337) -/

/-- The open transfer of a port is discarded without a flag. -/
def State.discardInbound (s : State) (p : Nat) : State :=
  match (s.port p).inbound with
  | none => s
  | some x =>
    let key := xferKey (.fabric x.src 0 1)
    (s.setPort p (fun t => { t with inbound := none })).setCore (s.coreKey x.core) (fun t =>
      { t with openXfer := Tbl.modify [] t.openXfer x.tile (fun l => l.filter (· != key))
               dropXfer := Tbl.modify [] t.dropXfer x.tile (fun l => l.filter (· != key)) })

/-- R337: does a SCHED flit open a transfer, or continue the open one? -/
def schedFits (o : Option Inbound) (f : Flit) : Bool :=
  match o with
  | none => flitFirst f
  | some x => !flitFirst f && x.src == f.hdr.src && x.tile == flitTag f && x.core == flitCore f

/-- R337: bytes land at consecutive offsets; a flit that does not fit is dropped, and the open transfer with it. -/
def State.schedFlit (s : State) (p : Nat) (f : Flit) : State :=
  let o := (s.port p).inbound
  if schedFits o f then
    let off := match o with | some x => x.offset | none => 0
    let s1 := s.setPort p (fun t => { t with
      inbound := if flitLast f then none else some ⟨f.hdr.src, flitTag f, flitCore f, off + f.payload.length⟩ })
    (s1.landWrite ⟨s1.coreKey (flitCore f), flitTag f, off, f.payload, flitFirst f, flitLast f, true, .fabric f.hdr.src 0 1⟩).1
  else (s.discardInbound p).portDrop p 4 f

def execSched (p : Nat) (f : Flit) (s : State) : Host.Outcome State Fault Refusal :=
  whenUp s (fun s => opArrives s p 1 f (fun s => s.schedFlit p f))

/-! ### Close records, time, management (R347, R349-R351) -/

/-- R351: the record a CLOSE carries; its member is the one whose device id sent it. (DEDUCED, log entry 91.) -/
def closeOf (g : GroupSec) (f : Flit) : CloseRec :=
  ⟨g.ids.findIdx (fun i => i == f.hdr.src), fieldAt f.payload 8 8, fieldAt f.payload 16 8, fieldAt f.payload 24 8, fieldAt f.payload 0 4⟩

def execClose (p : Nat) (f : Flit) (s : State) : Host.Outcome State Fault Refusal :=
  whenUp s (fun s => opArrives s p 7 f (fun s => s.takeClose (closeOf s.group f)))

/-- R350: the signed error of a TIME against the count, saturated as PZL_TIME shows it. -/
def satError (e : Int) : Int := max (-32767) (min 32767 e)

/-- R350: the correction: slewed while a layout runs, else stepped when over 20 ns. (DEDUCED, log entry 57.) -/
def State.correctTime (s : State) (e : Int) (t : Nat) : State :=
  if s.runState = 5 then { s with fab := { s.fab with slew := e } }
  else if 20 < e.natAbs then { s with ftime := t, fab := { s.fab with slew := 0 } }
  else s

/-- R350: TIME on the port that is the source. (DEDUCED, log entry 57.) -/
def State.takeTime (s : State) (t : Nat) : State :=
  let e : Int := (t : Int) - s.ftime
  let errs := (satError e :: s.fab.errors).take 3
  let s1 := ({ s with fab := { s.fab with errors := errs } } : State).setF R.PZL_TIME.last_error (unsigned 16 (satError e))
  let s2 :=
    if errs.length = 3 ∧ errs.all (fun x => decide (x.natAbs ≤ 8)) = true then s1.setLocked true
    else if 20 < e.natAbs ∧ s1.isSet R.PZL_TIME.locked = true then s1.setLocked false
    else s1
  s2.correctTime e t

/-- R350: a TIME flit; those of a port that is not the source are ignored. -/
def State.timeFlit (s : State) (p : Nat) (f : Flit) : State :=
  let s1 := ({ s with fab := { s.fab with lastTime := Tbl.set 0 s.fab.lastTime p (s.now + 1) } } : State)
  let s2 := if s1.timeSource = s1.shownSource then s1 else s1.findSource
  if s2.timeSource = some p then s2.takeTime (fieldAt f.payload 0 8) else s2

def execTime (p : Nat) (f : Flit) (s : State) : Host.Outcome State Fault Refusal :=
  whenUp s (fun s => opArrives s p 8 f (fun s => s.timeFlit p f))

/-- R350: 200 us without a TIME flit on port p. -/
def timeSourceLossOp (s : State) (p : Nat) : State :=
  s.guard (decide (p < 8) && Tbl.get 0 s.fab.lastTime p != 0 && !s.hasTime p) (fun s => s.dropSource p)

def execTimeSourceLoss (p : Nat) (s : State) : Host.Outcome State Fault Refusal := whenUp s (fun s => timeSourceLossOp s p)

/-- A MGMT flit whose first payload byte is k. -/
def mgmtArrives (s : State) (p k : Nat) (f : Flit) (handle : State → State) : State :=
  s.guard (fieldAt f.payload 0 1 == k) (fun s => opArrives s p 9 f handle)

/-- R347: the first ASSIGN_ID sets the id; another value is a conflict. -/
def State.assign (s : State) (p id : Nat) : State :=
  if s.idAssigned then
    if id = s.deviceId then s else (s.flag R.PZL_FLAGS.id_conflict).logP 5 p 0x13 0 id
  else ((s.setF R.PZL_ID.assigned 1).setF R.PZL_ID.device_id id).setF R.LAY_GROUP.device_id id

def execAssignId (p : Nat) (f : Flit) (s : State) : Host.Outcome State Fault Refusal :=
  whenUp s (fun s => mgmtArrives s p 1 f (fun s => s.assign p (fieldAt f.payload 1 2 % 4096)))

def execSetBound (p : Nat) (f : Flit) (s : State) : Host.Outcome State Fault Refusal :=
  whenUp s (fun s => mgmtArrives s p 2 f (fun s => s.setF R.PZL_SW_BOUND.bound_ns (fieldAt f.payload 1 2)))

/-- R336: the switch's initial credits, within their ranges, or a credit error. -/
def State.takeInit (s : State) (p : Nat) (f : Flit) : State :=
  let c1 := fieldAt f.payload 1 2
  let c2 := fieldAt f.payload 3 2
  let c3 := fieldAt f.payload 5 1
  let ok := fun c => decide (64 ≤ c) && decide (c ≤ 2048)
  if ok c1 && ok c2 && decide (16 ≤ c3) then
    (s.setPort p (fun t => { t with crInit := [(1, c1), (2, c2), (3, c3)] })).showCredits p
  else s.portError p 2 f

def execInit (p : Nat) (f : Flit) (s : State) : Host.Outcome State Fault Refusal :=
  whenUp s (fun s => mgmtArrives s p 3 f (fun s => s.takeInit p f))

/-- R330: a reserved op, a wrong VC, a wrong dest or an unknown management message. -/
def flitDroppedOp (s : State) (p : Nat) (f : Flit) : State :=
  s.guard (decide (p < 8) && (s.dropCause f).isSome) (fun s => s.receive p f (fun s => s))

def execFlitDropped (p : Nat) (f : Flit) (s : State) : Host.Outcome State Fault Refusal := whenUp s (fun s => flitDroppedOp s p f)

/-- R327: an uncorrectable codeword that begins with the flit received next is counted, once; codeword A begins with flit 0
of the pair, codeword B within flit 2. -/
def State.noteCodeword (s : State) (p : Nat) (uncorr : Bool) : State :=
  let q := (s.port p).rxPos
  if uncorr && (q == 0 || q == 2) then
    (s.incSat (R.PZL_P_UNCORR.count p) 1).setPort p (fun t => { t with rxBad := t.rxBad ++ [q / 2] })
  else s

/-- R339: a bad flit, by its 256 bytes and whether a codeword that begins in it is uncorrectable: the fields of a flit whose
CRC is good are taken; the receiver naks until the expected flit comes. (DESIGN CHOICE, log entry 132.) -/
def badFlitOp (s : State) (p : Nat) (b : List Byte) (uncorr : Bool) : State :=
  s.guard (decide (p < 8) && s.portIsUp p) (fun s =>
    let s1 := s.noteCodeword p uncorr
    match flitOf b with
    | some f => if s1.rxSpoilt p then ((s1.rxTurn p).rxFields p f).rxRefuse p else s
    | none => (s1.rxTurn p).rxRefuse p)

def execBadFlitReceived (p : Nat) (b : List Byte) (uncorr : Bool) (s : State) : Host.Outcome State Fault Refusal :=
  whenUp s (fun s => badFlitOp s p b uncorr)

/-! ### Sending (R334, R335, R338, R340) -/

/-- Is this flit the INIT that link-up sends, which needs no credit (R336)? (DEDUCED, log entry 54.) -/
def isInit (f : Flit) : Bool := f.op == 9 && fieldAt f.payload 0 1 == 3

/-- May the head of a VC's queue leave: a credit, and an assigned device id but for management (R334, R347)? -/
def State.headReady (s : State) (p vc : Nat) : Bool :=
  let t := s.port p
  match Tbl.get [] t.queue vc with
  | [] => false
  | f :: _ => (vc == 0 || isInit f || decide (0 < t.credit vc)) && (s.idAssigned || f.op == 9)

/-- R335: the VC of the next new flit; `sixteenth` gives VC0 way once in 16 flit times. -/
def State.nextVc (s : State) (p : Nat) : Option Nat :=
  let t := s.port p
  let r := s.headReady p
  let others := if decide (64 ≤ t.vc1Wait) && r 1 then [1, 3, 2] else [3, 2, 1]
  if r 0 && t.phase % 16 != 15 then some 0
  else match others.find? r with
    | some vc => some vc
    | none => if r 0 then some 0 else none

/-- The ack, nak and credit fields of an outgoing flit (R334, R339). -/
def stampHdr (t : PortSt) (h : FlitHdr) : FlitHdr :=
  { h with ack := t.rxLast, nak := t.nak, crVc := t.crRot % 3 + 1, crTotal := Tbl.get 0 t.freed (t.crRot % 3 + 1) }

def idleFlit (src : Nat) : Flit := ⟨0, ⟨0, 0, false, false, 0, 0, src, 0, 0, 0⟩, []⟩

/-- One flit time passes: cr_vc rotates, the VC0 phase moves, a VC1 flit that stays waits on. -/
def portMoves (vc1Left : Bool) (t : PortSt) : PortSt :=
  { t with
    crRot := (t.crRot + 1) % 3
    phase := (t.phase + 1) % 16
    vc1Wait := if vc1Left || (Tbl.get [] t.queue 1).isEmpty then 0 else min 64 (t.vc1Wait + 1) }

/-- R326: a flit joins the pair that fills; five of them go out as two codewords over the lanes in use. -/
def State.pairFlit (s : State) (p : Nat) (f : Flit) : State :=
  let t := s.port p
  let fs := t.txPair ++ [f]
  if fs.length < 5 then s.setPort p (fun t => { t with txPair := fs })
  else
    let lanes := (List.range 8).filter (fun i => s.getBit (R.PZL_P_STATUS.lanes_used p) i)
    let z := pairBits t.scram t.pairNo (s.getF (R.PZL_P_STATUS.local_good p)) fs
    (s.setPort p (fun t => { t with
      txPair := [], pairNo := (t.pairNo + 1) % 4096, scram := z.2, laneAt := (t.laneAt + 1088) % max 1 lanes.length })).emit
      (.pair p (deal lanes t.laneAt (pairSymbols z.1)))

def State.sendFlit (s : State) (p : Nat) (f : Flit) (vc1Left : Bool) : State :=
  let t := s.port p
  let g : Flit := { f with hdr := stampHdr t f.hdr }
  ((s.setPort p (portMoves vc1Left)).emit (.flit p g)).pairFlit p g

/-- A new sequenced flit of a VC: numbered, kept for replay, its credit spent. -/
def State.sendNew (s : State) (p vc : Nat) : State :=
  let t := s.port p
  match Tbl.get [] t.queue vc with
  | [] => s
  | f :: rest =>
    let g : Flit := { f with hdr := { f.hdr with seq := t.txNext, seqd := true, vc := vc } }
    let s1 := s.setPort p (fun t => { t with
      queue := Tbl.set [] t.queue vc rest, txNext := (t.txNext + 1) % 4096, replay := t.replay ++ [g]
      progressAt := if t.replay.isEmpty then s.now else t.progressAt
      sent := if vc = 0 then t.sent else Tbl.modify 0 t.sent vc (fun n => (n + 1) % 4096) })
    (s1.sendFlit p g (vc == 1)).showCredits p

/-- R335: the next flit time of a port. -/
def flitSendOp (s : State) (p : Nat) : State :=
  s.guard (decide (p < 8) && s.portIsUp p) (fun s =>
    let t := s.port p
    match t.resend with
    | f :: rest => (s.setPort p (fun t => { t with resend := rest })).sendFlit p f false
    | [] =>
      if 2048 ≤ t.replay.length then s.sendFlit p (idleFlit s.deviceId) false
      else match s.nextVc p with
        | some vc => s.sendNew p vc
        | none => s.sendFlit p (idleFlit s.deviceId) false)

def execFlitSend (p : Nat) (s : State) : Host.Outcome State Fault Refusal := whenUp s (fun s => flitSendOp s p)

/-- R340: the oldest unacknowledged flit has waited 4 us without ack progress. -/
def replayTimeoutOp (s : State) (p : Nat) : State :=
  s.guard (decide (p < 8) && s.portIsUp p && !(s.port p).replay.isEmpty && decide ((s.port p).progressAt + 4000 ≤ s.now)) (fun s =>
    s.replayOrRetrain p)

def execReplayTimeout (p : Nat) (s : State) : Host.Outcome State Fault Refusal := whenUp s (fun s => replayTimeoutOp s p)

/-! ### Training, width, lanes (R323, R341-R344) -/

/-- R344: requests whose flits a port loses complete with an error response. (DEDUCED, log entry 54.) -/
def State.loseFlits (s : State) (p : Nat) : State :=
  let t := s.port p
  let fs := t.replay ++ Tbl.get [] t.queue 1
  let tags := (fs.filter (fun (f : Flit) => decide (2 ≤ f.op) && decide (f.op ≤ 4))).map flitTag
  let lost := s.fab.reqs.filter (fun (r : OutReq) => tags.contains r.tag)
  s.each lost (fun s' (r : OutReq) => (s'.dropReq r.tag).reqAnswer r 1 [])

/-- The link of a port ends: its flits are lost, its open transfer stays unflagged (R344). -/
def State.linkEnds (s : State) (p st : Nat) : State :=
  let s1 := ((s.loseFlits p).discardInbound p).setPort p (fun _ => PortSt.zero)
  (((s1.setF (R.PZL_P_STATUS.state p) st).setF (R.PZL_P_STATUS.width p) 3).setF (R.PZL_P_STATUS.lanes_used p) 0).showCredits p |>.findSource

/-- R341, R343: a port goes down. -/
def State.portDown (s : State) (p : Nat) : State :=
  let w := s.getF (R.PZL_P_STATUS.width p)
  ((s.linkEnds p 4).flagC (R.PZL_P_FLAGS.down p) 13).logE 0 5 p 0x12 1 false 0 w 1

/-- R341: the lowest n lanes set in a mask. -/
def lowLanes (m n : Nat) : Nat := (((List.range 8).filter (bit m)).take n).foldl (fun a i => a + 2 ^ i) 0

/-- R341: the largest of 8, 6 and 4 lanes a mask holds: width code and lanes. -/
def trainedWidth (m : Nat) : Option (Nat × Nat) :=
  let n := ((List.range 8).filter (bit m)).length
  if n = 8 then some (0, lowLanes m 8) else if 6 ≤ n then some (1, lowLanes m 6) else if 4 ≤ n then some (2, lowLanes m 4) else none

/-- R336: the INIT of link-up, with the buffers of Table 11-6. -/
def initPayload : List Byte := leBytes 1 3 ++ leBytes 2 512 ++ leBytes 2 512 ++ leBytes 1 64

/-- R351: close records that waited for a port. -/
def State.sendCloses (s : State) : State :=
  ({ s with fab := { s.fab with closes := [] } } : State).each s.fab.closes (fun s' r => s'.multicastClose r)

/-- A port is up at its width: after enable with an INIT; after a retrain replay starts after the last ack (R343). -/
def State.portUp (s : State) (p : Nat) (w : Nat × Nat) (fresh : Bool) : State :=
  let s1 := (s.setF (R.PZL_P_STATUS.width p) w.1).setF (R.PZL_P_STATUS.lanes_used p) w.2
  if (s.port p).loopback then s1.setF (R.PZL_P_STATUS.state p) 5
  else
    let s2 := (s1.setF (R.PZL_P_STATUS.state p) 2).setPort p (fun t => { t with
      retrainFails := 0, replays := 0, progressAt := s.now, rxPos := 0, rxBad := [], txPair := [], laneAt := 0 })
    let s3 := if fresh then s2.queueFlits p 3 (msgFlits 9 3 0 s.deviceId 0 initPayload)
      else if (s2.port p).replay.isEmpty then s2 else s2.replayPort p
    s3.sendCloses.findSource

/-- Training is in progress: after enable, also that of reset, or a retrain. -/
def State.portTrains (s : State) (p : Nat) : Bool :=
  s.portState p == 1 || s.portState p == 3 || (s.portState p == 0 && s.isSet (R.PZL_P_CTRL.enable p))

/-- R341, R343: training ends, with the switch's lane-good mask. -/
def portTrainingEndOp (s : State) (p : Nat) (ok : Bool) (remote : Nat) : State :=
  s.guard (decide (p < 8) && s.portTrains p) (fun s =>
    let re := s.portState p == 3
    if ok then
      let s1 := s.setF (R.PZL_P_STATUS.remote_good p) remote
      match trainedWidth (s.getF (R.PZL_P_STATUS.local_good p) &&& remote) with
      | some w => (if s.portState p == 0 then s1.startPort p else s1).portUp p w (!re)
      | none => s1.portDown p
    else if re then
      if 3 ≤ (s.port p).retrainFails + 1 then s.portDown p else s.setPort p (fun t => { t with retrainFails := t.retrainFails + 1 })
    else s.setF (R.PZL_P_STATUS.state p) 1)

def execPortTrainingEnd (p : Nat) (ok : Bool) (remote : Nat) (s : State) : Host.Outcome State Fault Refusal :=
  whenUp s (fun s => portTrainingEndOp s p ok remote)

/-- R323, R343, R344: enable starts training; cleared, it disables the port and forgets a failure. -/
def portEnableOp (s : State) (p v : Nat) : State :=
  s.guard (decide (p < 8) && s.isSet (R.PZL_P_STATUS.licensed p)) (fun s =>
    let s1 := s.setF (R.PZL_P_CTRL.enable p) (v % 2)
    if v % 2 = 0 then s1.linkEnds p 0
    else if s.portState p = 0 then s1.startPort p
    else s1)

def execPortEnable (p v : Nat) (s : State) : Host.Outcome State Fault Refusal := whenUp s (fun s => portEnableOp s p v)

def execPortRetrain (p : Nat) (s : State) : Host.Outcome State Fault Refusal :=
  whenUp s (fun s => s.guard (decide (p < 8)) (fun s => s.retrainPort p))

/-- R324: from the next enable. -/
def execPortLoopback (p mode : Nat) (s : State) : Host.Outcome State Fault Refusal :=
  whenUp s (fun s => s.guard (decide (p < 8)) (fun s => s.setF (R.PZL_P_CTRL.loopback p) (mode % 2)))

/-- R342: a lane leaves the local mask (cause 0 errors, 1 lock, 2 firmware). -/
def State.retireLane (s : State) (p lane cause : Nat) : State :=
  if s.getBit (R.PZL_P_STATUS.local_good p) lane then
    ((s.putBit (R.PZL_P_STATUS.local_good p) lane false).flagC (R.PZL_P_FLAGS.lane_retired p) 13).logE
      0 5 (p + 8 + lane * 16) 0x11 0 false 0 cause 1
  else s

/-- R342: firmware sets retire bits; the port retrains. -/
def laneRetireOp (s : State) (p lanes : Nat) : State :=
  s.guard (decide (p < 8)) (fun s =>
    let s1 := s.setF (R.PZL_P_CTRL.retire p) (s.getF (R.PZL_P_CTRL.retire p) ||| lanes)
    let new := (List.range 8).filter (fun i => bit lanes i && s.getBit (R.PZL_P_STATUS.local_good p) i)
    if new.isEmpty then s1 else (s1.each new (fun s' i => s'.retireLane p i 2)).retrainPort p)

def execLaneRetire (p lanes : Nat) (s : State) : Host.Outcome State Fault Refusal := whenUp s (fun s => laneRetireOp s p lanes)

/-- R342: a window of a lane ends with its corrected symbols, and the codewords corrected at the port since the last. -/
def laneWindowOp (s : State) (p lane errors codewords : Nat) : State :=
  s.guard (decide (p < 8) && decide (lane < 8)) (fun s =>
    let th := s.getF (R.PZL_P_LANE_THRESH.thresh p)
    let above := th != 0 && decide (th < errors)
    let n := if above then Tbl.get 0 (s.port p).windows lane + 1 else 0
    let s1 := (s.incSat (R.PZL_P_LANE_ERR.corrected p lane) errors).addPair (R.PZL_P_FEC_LO p) codewords
    let s2 := s1.setPort p (fun t => { t with windows := Tbl.set 0 t.windows lane (if n < 3 then n else 0) })
    if 3 ≤ n then (s2.retireLane p lane 0).retrainPort p else s2)

def execLaneErrorWindow (p lane errors codewords : Nat) (s : State) : Host.Outcome State Fault Refusal :=
  whenUp s (fun s => laneWindowOp s p lane errors codewords)

/-- R342. -/
def laneSignalLossOp (s : State) (p lane : Nat) : State :=
  s.guard (decide (p < 8) && decide (lane < 8) && s.getBit (R.PZL_P_STATUS.local_good p) lane) (fun s =>
    (s.retireLane p lane 1).retrainPort p)

def execLaneSignalLoss (p lane : Nat) (s : State) : Host.Outcome State Fault Refusal := whenUp s (fun s => laneSignalLossOp s p lane)

end Sys2Proof.Machine
end

