-- ==== Sys2Proof/Machine/Fused.lean ====
section
/-!
DEFINITION. Fused semantics outside the chain instructions (chapter 05): the merge of partial triples, the deferred chain,
the finish pass.
-/

namespace Sys2Proof.Machine

open Sys2Proof

/-! ### Merge (R151, R152) -/

/-- A partial triple, or a merge in progress with its reference R; `moves` counts moves of R from a finite value. -/
structure Merged where
  m : Word32
  r : Word32
  l : Word32
  o : List Word32
  moves : Nat
  deriving DecidableEq, Repr

def Merged.start (d : Nat) : Merged := ⟨Num.nInf, Num.nInf, 0, List.replicate d 0, 0⟩

/-- R152: one source. A NaN row stays one. Every move of R from a finite value counts, source by source (R148).
(DESIGN CHOICE, log entry 117.) -/
def mergeStep (level4 : Bool) (a : Merged) (m l : Word32) (o : List Word32) : Merged :=
  if nanRow a.m then a
  else if nanRow m then { a with m := m }
  else if m == Num.nInf then a
  else
    let m' := Num.maxW a.m m
    let r' := if refMoves level4 m' a.r then Num.ceilW m' else a.r
    let c := pow2Diff a.r r'
    let cp := pow2Diff (Num.ceilW m) r'
    let add := fun (x y : Word32) => Num.rne (Num.add (Num.mul (Num.val x) (Num.val c)) (Num.mul (Num.val y) (Num.val cp)))
    ⟨m', r', add a.l l, List.zipWith add a.o o, a.moves + (if a.r != Num.nInf && !sameRef a.r r' then 1 else 0)⟩

/-- R151: the record of a source, at an offset of its landing tile. -/
def State.tripleAt (s : State) (u d : Nat) (src : Nat × Nat) : Word32 × Word32 × List Word32 :=
  let base := (s.landTile u src.1).elim 0 (fun c => c.off) + src.2
  let w := fun n => BitVec.ofNat 32 (tileBits (s.core u) (base + 4 * n) 0 32)
  (w 0, w 1, (List.range d).map (fun i => w (2 + i)))

/-- R152, R97: every source in its order, then the finish of R149; the row is written as FP32 lanes at the request's tile-store offset.
A source that has not arrived holds the merge. (DESIGN CHOICE, log entry 116.) -/
def mergeOp (s : State) (u : Nat) (q : MergeReq) : State :=
  if (s.core u).work.isNone then s
  else if !q.sources.all (fun x => s.arrived u x.1) then s.incSat (R.COR_ARR_WAIT_ARRIVE.wait u) 1
  else
    let g := q.sources.foldl (fun a x => let z := s.tripleAt u q.d x; mergeStep s.level4 a z.1 z.2.1 z.2.2) (Merged.start q.d)
    let f := finishRow g.m g.l g.r g.o
    let s1 := s.putTile u q.dest (f.lanes.flatMap (fun x => leBytes 4 x.toNat))
    let s2 := (s1.addPair (R.COR_FUS_RESCALE_LO u) g.moves).rowFlags u 0 f.nan f.empty
    s2.setCore u (fun t => { t with work := t.work.map (fun w => { w with
      sticky := w.sticky ||| ((if f.nan then 0x40 else 0) + (if f.empty then 0x80 else 0)) }) })

def execMerge (u : Nat) (req : MergeReq) (s : State) : Host.Outcome State Fault Refusal := whenUp s (fun s => mergeOp s u req)

/-! ### Deferred chain (R160, R161) -/

/-- The deferred chain of the oldest block that waits for it starts; its end writes the block's vector. -/
def deferredOp (s : State) (u : Nat) : State :=
  let t := s.core u
  match t.ctx, t.defer with
  | none, e :: rest =>
    let o := t.op e.id.op
    let s1 := s.setCore u (fun t => { t with defer := rest })
    match chainPtr o.desc.defChain with
    | none => s1.settleOps u
    | some ch => s1.startInvocation u ⟨2, ch, e.id, e.sub, 0, e.id.block * blockRows o.desc, rowsOf o e.id.block, [], false, 0, 0, 0, []⟩
  | _, _ => s

def execDeferredChain (u : Nat) (s : State) : Host.Outcome State Fault Refusal := whenUp s (fun s => deferredOp s u)

/-! ### Finish pass (R164) -/

/-- The output tiles of an operation: sub-array and block. -/
def outTiles (o : OpSt) : List (Nat × BlockId) :=
  (List.range (subCount o.desc.mode)).flatMap (fun i => (dealt o.desc o.shape i).flatMap (fun hn =>
    (List.range (blocks o.desc o.shape)).map (fun b => (i, ⟨0, hn.1, hn.2, b⟩))))

/-- The finish pass under way: the output, the sticky bits, whether every read has succeeded. -/
structure FinSt where
  x : OutSt
  sticky : Nat
  ok : Bool

/-- Bytes of a destination read back. -/
def State.readDest (s : State) (u : Nat) (d : Dest) (n : Nat) : State × Option (List Byte) :=
  match d with
  | .tile a => (s, some (s.getTile u a n))
  | .mem a => s.ownRead a n
  | .land _ _ _ => (s, none)

/-- R164: the scales of n deferred elements of a row, per group of 32: those that ST wrote to the output's scale array (R130), or the
per-tensor scale of format 0xC. -/
def State.deferScales (s : State) (u : Nat) (o : OpSt) (b : BlockId) (r n : Nat) : State × Option (List Nat) :=
  let d := o.desc
  let a := d.y.scaleAddr + yScaleIdx o b r
  let g := cdiv n 32
  if Num.isMx d.fmtDef then
    let rd := s.readDest u (if d.y.scaleSpace = 1 then .tile a else .mem a) g
    (rd.1, rd.2.map (fun l => l.map (fun x => x.toNat)))
  else (s, some (List.replicate g (if d.fmtDef = 0xC then d.tscaleOut else 0x7F)))

/-- R164: one row of one output tile. -/
def FinSt.row (y : FinSt) (u : Nat) (o : OpSt) (i : Nat) (b : BlockId) (r : Nat) : FinSt :=
  let d := o.desc
  let s := y.x.s
  let core := s.vecTarget u d
  let base := (s.landTile core (vecTile o b)).elim 0 (fun c => c.off) + 8 * r
  let ab := fun w => BitVec.ofNat 32 (tileBits (s.core core) (base + 4 * w) 0 32)
  let n := min (subN d) (o.shape.n - b.nt * subN d)
  let eb := Num.elemBits d.fmtDef
  let rd := s.readDest u (s.epiDest u o i b d.fmtDef r) ((n * eb + 7) / 8)
  let sc := rd.1.deferScales u o b r n
  match rd.2, sc.2 with
  | some bytes, some z =>
    let lane := fun k => Num.fmaW (Num.rne (Num.scaleVal (z.getD (k / 32) 0x7F)
      (Num.decodeElem (storeFmt d.fmtDef) (bitField bytes (k * eb) eb)))) (ab 0) (ab 1)
    let st := storeLanes d.fmtOut .rne true d.tscaleOut ((List.range (subN d)).map (fun k => if k < n then some (lane k) else none))
    { y with x := { y.x with s := sc.1 }.row u o i b d.fmtOut r st
             sticky := y.sticky ||| ((if st.ovf then 0x20 else 0) + (if st.inv then 0x10 else 0)) }
  | _, _ => { y with x := { y.x with s := sc.1 }, ok := false }

/-- One tile, with its marker. -/
def FinSt.tile (y : FinSt) (u : Nat) (o : OpSt) (ib : Nat × BlockId) : FinSt :=
  let z := (List.range (rowsOf o ib.2.block)).foldl (fun (y : FinSt) r => y.row u o ib.1 ib.2 r) { y with x := { y.x with begun := false } }
  { z with x := (z.x.padTile u o ib.1 ib.2).mark u o ib.1 ib.2 }

/-- R164: the pass over every tile; the operation's completion follows it. -/
def finishPassOp (s : State) (u : Nat) : State :=
  match (s.core u).finish with
  | none => s
  | some o =>
    let y := (outTiles o).foldl (fun (y : FinSt) ib => y.tile u o ib) ⟨⟨s, false, false⟩, 0, true⟩
    if y.x.held then s
    else if !y.ok then y.x.s.failWork u 7
    else
      let s1 := if bit y.sticky 5 then y.x.s.flag (R.COR_VEC_FLAGS.conv_overflow u) else y.x.s
      let s2 := if bit y.sticky 4 then s1.flag (R.COR_VEC_FLAGS.conv_invalid u) else s1
      let z := s2.padOutput u o
      if z.held then s else (z.s.setCore u (fun t => endOps t o (o.sticky ||| y.sticky))).showCore u

def execFinishPass (u : Nat) (s : State) : Host.Outcome State Fault Refusal := whenUp s (fun s => finishPassOp s u)

end Sys2Proof.Machine
end

