-- ==== Sys2Proof/Machine/Sideboard.lean ====
section
/-!
DEFINITION. The sideboard cache: atomics (R215, Table 7-7) and exact reduction slots (R67-R71, R216-R218).
-/

namespace Sys2Proof.Machine

open Sys2Proof

/-- An atomic as a memory request. -/
def atomReq (op : Nat) (q : AtomReq) : MemReq :=
  ⟨q.src, q.mid, q.host, q.addr, q.size, some (leBytes q.size (q.v % 2 ^ (8 * q.size))), [], some (op, q.cmp % 2 ^ (8 * q.size))⟩

/-- R424: CAS, FADD, FMAX and FMIN are not available to control cores, whose request faults. -/
def ccLacks (op mid : Nat) : Bool := (op == 1 || op == 6 || op == 7 || op == 9) && (ccOfMid mid).isSome

def atomicOp (s : State) (op : Nat) (q : AtomReq) : State :=
  if ccLacks op q.mid then s.answer (atomReq op q) 1 [] else s.request (atomReq op q)

def execAtomicAdd (q : AtomReq) (s : State) : Host.Outcome State Fault Refusal := whenUp s (fun s => atomicOp s 0 q)
def execAtomicFadd (q : AtomReq) (s : State) : Host.Outcome State Fault Refusal := whenUp s (fun s => atomicOp s 1 q)
def execAtomicSmax (q : AtomReq) (s : State) : Host.Outcome State Fault Refusal := whenUp s (fun s => atomicOp s 2 q)
def execAtomicSmin (q : AtomReq) (s : State) : Host.Outcome State Fault Refusal := whenUp s (fun s => atomicOp s 3 q)
def execAtomicUmax (q : AtomReq) (s : State) : Host.Outcome State Fault Refusal := whenUp s (fun s => atomicOp s 4 q)
def execAtomicUmin (q : AtomReq) (s : State) : Host.Outcome State Fault Refusal := whenUp s (fun s => atomicOp s 5 q)
def execAtomicFmax (q : AtomReq) (s : State) : Host.Outcome State Fault Refusal := whenUp s (fun s => atomicOp s 6 q)
def execAtomicFmin (q : AtomReq) (s : State) : Host.Outcome State Fault Refusal := whenUp s (fun s => atomicOp s 7 q)
def execAtomicSwap (q : AtomReq) (s : State) : Host.Outcome State Fault Refusal := whenUp s (fun s => atomicOp s 8 q)
def execAtomicCas (q : AtomReq) (s : State) : Host.Outcome State Fault Refusal := whenUp s (fun s => atomicOp s 9 q)

/-- R216: a 4-byte write at +0x00 of a slot. -/
def slotFpOp (s : State) (q : MemReq) : State := s.guard (slotForm q == some 0) (fun s => s.request q)
def execSlotFp32Contribution (q : MemReq) (s : State) : Host.Outcome State Fault Refusal := whenUp s (fun s => slotFpOp s q)

/-- R216: a 16-byte write at +0x10. -/
def slotFixedOp (s : State) (q : MemReq) : State := s.guard (slotForm q == some 2) (fun s => s.request q)
def execSlotFixedContribution (q : MemReq) (s : State) : Host.Outcome State Fault Refusal := whenUp s (fun s => slotFixedOp s q)

/-- R216: a write of any size at +0x08. -/
def slotZeroOp (s : State) (q : MemReq) : State := s.guard (slotForm q == some 1) (fun s => s.request q)
def execSlotZero (q : MemReq) (s : State) : Host.Outcome State Fault Refusal := whenUp s (fun s => slotZeroOp s q)

/-- R216: a read of 4, 8 or 64 bytes; any other access in the window is refused. -/
def slotReadOp (s : State) (q : MemReq) : State := s.guard (reqInWindow q && q.write.isNone) (fun s => s.request q)
def execSlotRead (q : MemReq) (s : State) : Host.Outcome State Fault Refusal := whenUp s (fun s => slotReadOp s q)

end Sys2Proof.Machine
end

