-- ==== Sys2Proof/Machine/HostMem.lean ====
section
/-!
DEFINITION. The host's accesses to device memory through BAR2 (R396, R397, R445).
-/

namespace Sys2Proof.Machine

open Sys2Proof

/-- R445, R510: BAR2 is served once step 4 is done and outside a park. -/
def State.bar2Open (s : State) : Bool :=
  s.stepState 4 == 2 && !(s.getF R.BST_STATUS.state == 1 || s.getF R.BST_STATUS.state == 2)

/-- The host's master id (Table 13-3). -/
def hostMid : Nat := 0x19

def bar2ReadOp (s : State) (addr len : Nat) : State :=
  if s.bar2Open then s.request ⟨.master hostMid, hostMid, true, addr, len, none, [], none⟩ else s.emit (.abort (.host 0) addr)

def execBar2Read (addr len : Nat) (s : State) : Host.Outcome State Fault Refusal := whenUp s (fun s => bar2ReadOp s addr len)

def bar2WriteOp (s : State) (addr : Nat) (bytes : List Byte) (enables : List Bool) : State :=
  s.guard s.bar2Open (fun s => s.request ⟨.master hostMid, hostMid, true, addr, bytes.length, some bytes, enables, none⟩)

def execBar2Write (addr : Nat) (bytes : List Byte) (enables : List Bool) (s : State) : Host.Outcome State Fault Refusal :=
  whenUp s (fun s => bar2WriteOp s addr bytes enables)

/-- R396: a received poisoned write is dropped and logged, with its host address. -/
def poisonedWriteOp (s : State) (addr : Nat) : State := s.logE 0 9 0 0x1D 1 false addr 0 1

def execPoisonedWrite (addr : Nat) (s : State) : Host.Outcome State Fault Refusal := whenUp s (fun s => poisonedWriteOp s addr)

/-- R397: an AtomicOp as the operation of Table 7-7 it maps to. -/
def hostAtomic (s : State) (op addr size cmp v : Nat) : State :=
  if s.bar2Open then s.request (atomReq op ⟨.master hostMid, hostMid, true, addr, size, v, cmp⟩) else s.emit (.abort (.host 0) addr)

def execFetchadd (addr size v : Nat) (s : State) : Host.Outcome State Fault Refusal := whenUp s (fun s => hostAtomic s 0 addr size 0 v)
def execSwapAtomicop (addr size v : Nat) (s : State) : Host.Outcome State Fault Refusal := whenUp s (fun s => hostAtomic s 8 addr size 0 v)
def execCasAtomicop (addr size cmp v : Nat) (s : State) : Host.Outcome State Fault Refusal :=
  whenUp s (fun s => hostAtomic s 9 addr size cmp v)

end Sys2Proof.Machine
end

