-- ==== Sys2Proof/Machine/HostRegs.lean ====
section
/-!
DEFINITION. Register accesses through BAR0 and the control cores' ports (chapter 00, R395, R400).
-/

namespace Sys2Proof.Machine

open Sys2Proof

/-- R9: a BAR0 access that is not a naturally aligned 32-bit one. -/
def badAccess (s : State) (m : Master) (write : Bool) (off detail : Nat) : State :=
  let s1 := s.logP 9 0x3FF 0x1C (off % 2 ^ 32) (detail % 16 + (if write then 16 else 0))
  if write then s1 else s1.emit (.abort m off)

def execBar0BadAccess (m : Master) (write : Bool) (off detail : Nat) (s : State) : Host.Outcome State Fault Refusal :=
  whenUp s (fun s => badAccess s m write off detail)

/-- R422: the block is not open to the control core; the access faults. -/
def State.closedTo (_s : State) (m : Master) (off : Nat) : Bool :=
  match m with
  | .cc i => !ccMayReach i off || decide (0x4000000 ≤ off)
  | .host _ => false

def State.accessFault (s : State) (m : Master) : State :=
  match m with
  | .cc i => s.emit (.accessFault i)
  | .host _ => s

/-- The pigeonhole whose TX words lie at an offset, and whose RX words do (Table 15-10). -/
def txHole (o : Nat) : Option Nat :=
  if 0x210000 ≤ o ∧ o < 0x214000 ∧ o % 0x100 < 0x40 then some ((o - 0x210000) / 0x100) else none
def rxHole (o : Nat) : Option Nat :=
  if 0x210000 ≤ o ∧ o < 0x214000 ∧ 0x40 ≤ o % 0x100 ∧ o % 0x100 < 0x80 then some ((o - 0x210000) / 0x100) else none

/-- R433: RX reads zero to every endpoint but the bound receiver. -/
def State.rxHidden (s : State) (m : Master) (o : Nat) : Bool :=
  match rxHole o with
  | some i => !(s.holeValid i && m.endpoint == some (s.holeReceiver i))
  | none => false

/-- R433: TX words are the bound sender's alone. -/
def State.txClosed (s : State) (m : Master) (o : Nat) : Bool :=
  match txHole o with
  | some i => !(s.holeValid i && m.endpoint == some (s.holeSender i))
  | none => false

/-- Table 20-12: the token's words ignore writes while the engine is busy. -/
def State.tokenClosed (s : State) (o : Nat) : Bool :=
  decide (R.SEC_TOKEN 0 ≤ o) && decide (o < R.SEC_TOKEN 48) && s.isSet R.SEC_STATUS.busy

/-- R486: a budget the chest control core writes is in force at once. -/
def State.budgetInForce (s : State) (o : Nat) : State :=
  if 0x1000000 ≤ o ∧ o < 0x2000000 ∧ (o - 0x1000000) % 0x400000 = 0x380000 then
    let c := (o - 0x1000000) / 0x400000
    s.setF (R.CHS_BUDGET.active c) (s.getF (R.CHS_BUDGET.budget c))
  else s

/-- R10: a read of LO returns the lower half and latches the upper. -/
def readLoAt (s : State) (m : Master) (off : Nat) : State :=
  match mapOff m off with
  | some o => if R.isLo o then (let p := s.readLo m o; p.1.emit (.readData m off p.2)) else s
  | none => s

def execReg64LoRead (m : Master) (off : Nat) (s : State) : Host.Outcome State Fault Refusal :=
  whenUp s (fun s => readLoAt s m off)

/-- R10: a write of HI gives the 64-bit quantity its new value. -/
def writeHiAt (s : State) (m : Master) (off v : Nat) : State :=
  match mapOff m off with
  | some o => if 4 ≤ o ∧ writablePair (o - 4) = true then s.writeHi m o v else s
  | none => s

def execReg64HiWrite (m : Master) (off v : Nat) (s : State) : Host.Outcome State Fault Refusal :=
  whenUp s (fun s => writeHiAt s m off v)

/-- R11: the value a read returns, RC fields cleared by it. A HI word returns the master's latch (R10), words 1 to 7 of
a log slot the latched entry (R467), an offset outside every block or reserved reads zero (R13, R400). -/
def readAt (s : State) (m : Master) (off : Nat) : State :=
  if s.closedTo m off then s.accessFault m
  else match msixAt m off, pbaAt m off with
  | some (f, v, w), _ => s.emit (.readData m off (Tbl.get (msixReset (msixKey f v w)) s.msix (msixKey f v w)).toNat)
  | none, some (f, i) => s.emit (.readData m off (s.pbaWord f i))
  | none, none =>
    match mapOff m off with
    | none => s.emit (.readData m off 0)
    | some o =>
      match logSlotAt o with
      | some (slot, w) =>
        let s1 := if w = 0 then s.latchLog m slot else s
        s1.emit (.readData m off ((Tbl.get LogEntry.zero s1.latch.log m.key).word w))
      | none =>
        if s.rxHidden m o then s.emit (.readData m off 0)
        else if R.isLo o then (let p := s.readLo m o; p.1.emit (.readData m off p.2))
        else if 4 ≤ o ∧ R.isLo (o - 4) = true then
          s.emit (.readData m off (Tbl.get 0 s.latch.rd (latchKey m (o - 4))).toNat)
        else (s.setW o (rcCleared (R.fieldsAt o) (s.getW o))).emit (.readData m off (s.liveW o))

def execRcRead (m : Master) (off : Nat) (s : State) : Host.Outcome State Fault Refusal := whenUp s (fun s => readAt s m off)

/-- R11-R13: a write acts on each field by its access type; the LO half of a writable pair goes to the master's latch. A block that is
closed to a control core faults (R422). -/
def writeAt (s : State) (m : Master) (off v hwSet : Nat) : State :=
  if s.closedTo m off then s.accessFault m
  else match msixAt m off with
  | some (f, vec, w) => s.writeMsix f vec w v
  | none =>
    match mapOff m off with
    | none => s
    | some o =>
      if writablePair o then s.latchLo m o v
      else if 4 ≤ o ∧ writablePair (o - 4) = true then s.writeHi m o v
      else if s.txClosed m o || s.tokenClosed o then s
      else (s.writeFields o v hwSet).budgetInForce o

def execRegisterWrite (m : Master) (off v hwSet : Nat) (s : State) : Host.Outcome State Fault Refusal :=
  whenUp s (fun s => writeAt s m off v hwSet)

end Sys2Proof.Machine
end

