-- ==== Sys2Proof/Machine/Kv.lean ====
section
/-!
DEFINITION. The key-value operations at their walkers (chapter 09): CREATE, FORK, APPEND, VERIFY-COMMIT, FREE, an operation
that waited, the walkers' hold.
-/

namespace Sys2Proof.Machine

open Sys2Proof

/-- The operation walker c takes next: the first that neither waits nor is held (R268, R287). -/
def State.kvNext (s : State) (c : Nat) : Option KvOp :=
  if s.isSet R.KVM_CTRL.hold then none else s.kv.ops.find? (fun o => walkerOf o == c && !o.waiting && !s.kvHeld o)

/-- R268: the operation waits. -/
def State.kvWait (s : State) (o : KvOp) (b : Bool) : State :=
  { s with kv := { s.kv with ops := s.kv.ops.map (fun x => if x.jid = o.jid then { x with waiting := b } else x) } }

/-- An operation as its walker takes it: it waits (R268), or runs. A layout without a KV section has no pool: the
operation is refused with 0x4. -/
def State.kvTake (s : State) (o : KvOp) : State :=
  if s.kvBlocked o then s.kvWait o true
  else match s.kvGeo with
    | none => (s.kvEnd o.jid 4 0).showKvm
    | some g => s.guard (s.kvGap g) (fun s => (s.kvRun g o).showKvm)

/-- The next operation of walker c, if it is a well-formed record of the op code. -/
def kvStepOp (s : State) (c op : Nat) : State :=
  match s.kvNext c with
  | some o => if recOk o.rec_ && recOp o.rec_ == op then s.kvTake o else s
  | none => s

/-- R271: CREATE. -/
def execKvCreate (c : Nat) (s : State) : Host.Outcome State Fault Refusal := whenUp s (fun s => kvStepOp s c 1)
/-- R272: FORK. -/
def execKvFork (c : Nat) (s : State) : Host.Outcome State Fault Refusal := whenUp s (fun s => kvStepOp s c 2)
/-- R273: APPEND. -/
def execKvAppend (c : Nat) (s : State) : Host.Outcome State Fault Refusal := whenUp s (fun s => kvStepOp s c 3)
/-- R284: VERIFY-COMMIT. -/
def execKvVerifyCommit (c : Nat) (s : State) : Host.Outcome State Fault Refusal := whenUp s (fun s => kvStepOp s c 4)
/-- R273: FREE. -/
def execKvFree (c : Nat) (s : State) : Host.Outcome State Fault Refusal := whenUp s (fun s => kvStepOp s c 5)

/-- R266: a record with an unlisted op or a nonzero reserved byte is refused with 0x4. -/
def kvUnlistedOp (s : State) (c : Nat) : State :=
  match s.kvNext c with
  | some o => if recOk o.rec_ then s else s.kvTake o
  | none => s

def execKvUnlistedOp (c : Nat) (s : State) : Host.Outcome State Fault Refusal := whenUp s (fun s => kvUnlistedOp s c)

/-- R268: the first operation of walker c that waited and is no longer held back runs. -/
def kvResumeOp (s : State) (c : Nat) : State :=
  s.guard (!s.isSet R.KVM_CTRL.hold) (fun s =>
    match s.kv.ops.find? (fun o => walkerOf o == c && o.waiting && !s.kvHeld o && !s.kvBlocked o) with
    | some o => (s.kvWait o false).kvTake { o with waiting := false }
    | none => s)

def execKvOpResume (c : Nat) (s : State) : Host.Outcome State Fault Refusal := whenUp s (fun s => kvResumeOp s c)

/-- R290: KVM_CTRL.hold. -/
def kvmHoldOp (s : State) (hold : Bool) : State := (s.setF R.KVM_CTRL.hold (if hold then 1 else 0)).showKvm

def execKvmHold (hold : Bool) (s : State) : Host.Outcome State Fault Refusal := whenUp s (fun s => kvmHoldOp s hold)

end Sys2Proof.Machine
end

