-- ==== Sys2Proof/Machine/Layout.lean ====
section
/-!
DEFINITION. Layout loading, epochs, scheduled slots and act switches (chapter 10).
-/

namespace Sys2Proof.Machine

open Sys2Proof

/-- R295, Table 10-9, Table 10-10, R445: LAY_CTRL.load = 1. -/
def layoutLoadOp (s : State) (v : Nat) : State :=
  if !bit v 0 then s
  else if s.loadBusy || s.stepState 6 != 2 then s.layCode 1 0xFF 0xFFFF
  else
    let s1 := { s with lay := { s.lay with before := s.layState } }
    if s.getF R.LAY_SRC_LO.address % 64 != 0 || decide (s.getF R.LAY_LEN.units < 16) || decide (0x1000000 < s.getF R.LAY_LEN.units) then
      s1.layFail 2 0xFF 0xFFFF
    else (s1.setLayState 1).updateOffline

def execLayoutLoad (v : Nat) (s : State) : Host.Outcome State Fault Refusal := whenUp s (fun s => layoutLoadOp s v)

/-- R295, R296: the image has been fetched, or a host read failed; it is staged, and every check runs in order.
(DESIGN CHOICE, log entry 87.) -/
def imageFetchEndOp (s : State) (img : ImageIn) : State :=
  let len := s.getF R.LAY_LEN.units * 64
  s.guard (s.layState == 1 && (if img.ok then img.bytes.length == len else decide (img.bytes.length < len))) (fun s =>
    let st := s.stageImage img.bytes
    let s1 := st.1.setLayState 2
    match s1.checkLayout img (img.ok && st.2) with
    | some f => (s1.layFail f.1 f.2.1 f.2.2).updateOffline
    | none => { s1 with lay := { s1.lay with staged := some (imageOf img) } }.setLayState 3)

def execImageFetchEnd (img : ImageIn) (s : State) : Host.Outcome State Fault Refusal := whenUp s (fun s => imageFetchEndOp s img)

/-- R297, R298: the commit; it waits for a pause, a partial reset and a margin test to end (R453, R500, R554). -/
def layoutCommitOp (s : State) (failAt : Option Nat) : State :=
  match s.lay.staged with
  | none => s
  | some i =>
    s.guard (s.layState == 3 && !s.paused && s.rst.running.isEmpty && !s.marginMeets i 0) (fun s =>
      match failAt with
      | some a => s.commitFails i a
      | none => s.commit i)

def execLayoutCommit (failAt : Option Nat) (s : State) : Host.Outcome State Fault Refusal := whenUp s (fun s => layoutCommitOp s failAt)

/-- R307: LAY_CTRL.start = 1. -/
def layoutStartOp (s : State) (v : Nat) : State :=
  if !bit v 1 then s
  else
    let t0 := s.getPair R.LAY_START_LO
    if s.layState ≠ 4 ∨ t0 < s.tickNow + 16 then s.layCode 0x12 0xFF 0xFFFF
    else { s with lay := { s.lay with start := t0 } }

def execLayoutStart (v : Nat) (s : State) : Host.Outcome State Fault Refusal := whenUp s (fun s => layoutStartOp s v)

/-- R300: LAY_CTRL.unload = 1. -/
def layoutUnloadOp (s : State) (v : Nat) : State :=
  if !bit v 2 then s
  else if s.loadBusy then s.layCode 1 0xFF 0xFFFF
  else ((s.epochsEnd.dropLayout).setLayState 0).takeoversNow

def execLayoutUnload (v : Nat) (s : State) : Host.Outcome State Fault Refusal := whenUp s (fun s => layoutUnloadOp s v)

/-- R307: fabric time reaches T0. A schedule whose first entry names another act than 0 switches first. -/
def epochStartOp (s : State) : State :=
  s.guard (s.runState == 4 && s.lay.start != 0 && decide (s.lay.start ≤ s.tickNow)) (fun s =>
    let due := (s.schedAt 0).act != s.act
    (({ s with lay := { s.lay with began := true, entry := 0, left := (s.schedAt 0).epochs, switchDue := due } }.setF
      R.LAY_STATUS.switching (if due then 1 else 0)).setPair R.LAY_EPOCH_LO 0).setRunState 5)

def execEpochStart (s : State) : Host.Outcome State Fault Refusal := whenUp s epochStartOp

/-- R309, R346: send i reaches its start tick, its source data ready or not. -/
def slotStartOp (s : State) (i : Nat) (ready : Bool) : State :=
  match s.slotList[i]? with
  | none => s
  | some e =>
    s.guard (s.runsEpochs && !s.lay.switchDue && e.dir == 0 && Tbl.get 0 s.lay.slotSt i == 0 && decide (s.lay.start + e.start ≤ s.tickNow)) (fun s =>
      if ready then s.sendNow i e (s.demotes e) else s.slotDone i 1)

def execSlotStart (i : Nat) (ready : Bool) (s : State) : Host.Outcome State Fault Refusal := whenUp s (fun s => slotStartOp s i ready)

/-- R309: the data of a waiting send become ready, in time to finish within its slot or not. -/
def sendDataReadyOp (s : State) (i : Nat) (fits : Bool) : State :=
  match s.slotList[i]? with
  | none => s
  | some e =>
    s.guard (s.runsEpochs && e.dir == 0 && Tbl.get 0 s.lay.slotSt i == 1) (fun s => s.sendNow i e (!fits || s.demotes e))

def execSendDataReady (i : Nat) (fits : Bool) (s : State) : Host.Outcome State Fault Refusal :=
  whenUp s (fun s => sendDataReadyOp s i fits)

/-- R310, R316: the member is ready; it multicasts its close record and takes it itself. -/
def memberReadyOp (s : State) : State :=
  s.guard (s.runsEpochs && !s.lay.closed && !s.lay.switchDue && s.transfersDone && (!s.switchNext || s.drained)) (fun s =>
    let r := s.ownRecord
    let s1 := if 1 < s.group.members then s.multicastClose r else s
    { s1 with lay := { s1.lay with closed := true, closes := s1.lay.closes ++ [r] } }.setF R.LAY_STATUS.barrier_wait 1)

def execMemberReady (s : State) : Host.Outcome State Fault Refusal := whenUp s memberReadyOp

/-- R311, R313, R458: every record is held and start(n + 1) has come. -/
def epochBoundaryOp (s : State) : State :=
  s.guard (s.runsEpochs && s.lay.closed && s.allClosed && decide (s.nextStart ≤ s.tickNow)) (fun s =>
    let s1 := s.advanceEpoch
    if s1.lay.stopDue then s1.stopLayout.deferredTake else s1.boundaryChanges)

def execEpochBoundary (s : State) : Host.Outcome State Fault Refusal := whenUp s epochBoundaryOp

/-- R312: close records are missing at N + 2^E. A layout stopped under R458 breaks its own group so too. -/
def groupBrokenOp (s : State) : State :=
  s.guard ((s.runState == 5 || s.runState == 6) && s.lay.began && !s.allClosed && decide (s.nominalEnd + 2 ^ s.group.e ≤ s.tickNow)) (fun s =>
    s.breakGroup)

def execGroupBroken (s : State) : Host.Outcome State Fault Refusal := whenUp s groupBrokenOp

/-- R316, R317: the outgoing act's work has drained; the cores switch, then the changes after it in R313's order apply. -/
def actSwitchOp (s : State) : State :=
  s.guard (s.runsEpochs && s.lay.switchDue && s.drained && !s.paused && s.rst.running.isEmpty &&
    !(match s.lay.force with | some i => s.marginMeets i (s.schedAt s.lay.entry).act | none => false)) (fun s => s.switchAct)

def execActSwitch (s : State) : Host.Outcome State Fault Refusal := whenUp s actSwitchOp

end Sys2Proof.Machine
end

