-- ==== Sys2Proof/Machine/Memory.lean ====
section
/-!
DEFINITION. Stacked memory: accesses, scrubbing, refresh, rows and channels out of service, margin tests (chapter 07).
-/

namespace Sys2Proof.Machine

open Sys2Proof

/-- R190-R199: a read, with the symbols of stored sectors that have come to be in error by then. -/
def memoryReadOp (s : State) (q : MemReq) (errs : List (Nat × BitVec 36)) : State :=
  (s.disturb errs).guard (q.write.isNone && q.atom.isNone) (fun s => s.request q)

def execMemoryRead (q : MemReq) (errs : List (Nat × BitVec 36)) (s : State) : Host.Outcome State Fault Refusal :=
  whenUp s (fun s => memoryReadOp s q errs)

/-- R194: a write whose bytes the request carries. -/
def memoryWriteOp (s : State) (q : MemReq) : State :=
  s.guard (q.write.any (fun b => b.length == q.len) && q.atom.isNone) (fun s => s.request q)

def execMemoryWrite (q : MemReq) (s : State) : Host.Outcome State Fault Refusal := whenUp s (fun s => memoryWriteOp s q)

/-- R195: a write that merges into stored sectors. -/
def partialWriteOp (s : State) (q : MemReq) (errs : List (Nat × BitVec 36)) : State := memoryWriteOp (s.disturb errs) q

def execPartialWrite (q : MemReq) (errs : List (Nat × BitVec 36)) (s : State) : Host.Outcome State Fault Refusal :=
  whenUp s (fun s => partialWriteOp s q errs)

/-- R198: the oldest queued write-back of a slice, held while a cue keeps its bank (Table 8-8). -/
def writeBackOp (s : State) (u : Nat) : State :=
  match (s.slice u).writeBacks with
  | [] => s
  | a :: rest =>
    match s.locate a with
    | none => s.setSlice u (fun t => { t with writeBacks := rest })
    | some l =>
      s.guard (s.drawersUp u && !s.bankKept l.u (locBank l)) (fun s =>
        { s with bad := Tbl.set 0 s.bad (a / 64) 0 }.setSlice u (fun t => { t with writeBacks := rest }))

def execCorrectedWriteBack (u : Nat) (s : State) : Host.Outcome State Fault Refusal := whenUp s (fun s => writeBackOp s u)

/-- R200: a patrol burst comes due; while a cue keeps its bank it is held for the next gap (Table 8-8). -/
def scrubOp (s0 : State) (u ch : Nat) (errs : List (Nat × BitVec 36)) : State :=
  let s := s0.disturb errs
  s.guard (s.drawersUp u && (working (s.slice u)).contains ch) (fun s =>
    if s.bankKept u (ch * 32 + bankOf (s.scrubAt u ch)) then
      s.setSlice u (fun t => { t with scrubHeld := if t.scrubHeld.any (fun x => x.2 == ch) then t.scrubHeld else t.scrubHeld ++ [(s.now, ch)] })
    else s.scrubNow u ch)

def execScrubBurst (u ch : Nat) (errs : List (Nat × BitVec 36)) (s : State) : Host.Outcome State Fault Refusal :=
  whenUp s (fun s => scrubOp s u ch errs)

/-- R202: one refresh more is owed, eight at most: before a ninth the gap at the count of 8 has served one. -/
def refreshDueOp (s : State) (u bank : Nat) : State :=
  s.guard (s.drawersUp u && decide (bank < 256)) (fun s =>
    let n := min 8 (Tbl.get 0 (s.slice u).owed bank + 1)
    let s1 := s.setSlice u (fun t => { t with owed := Tbl.set 0 t.owed bank n })
    s1.setF (R.SLC_BANDS.owed_max u) (max n (s1.getF (R.SLC_BANDS.owed_max u))))

def execRefreshDue (u bank : Nat) (s : State) : Host.Outcome State Fault Refusal := whenUp s (fun s => refreshDueOp s u bank)

/-- R202: an owed refresh is served in a gap. -/
def refreshOp (s : State) (u bank : Nat) : State :=
  s.guard (s.drawersUp u && !s.bankKept u bank) (fun s =>
    s.setSlice u (fun t => { t with owed := Tbl.modify 0 t.owed bank (· - 1) }))

def execRefresh (u bank : Nat) (s : State) : Host.Outcome State Fault Refusal := whenUp s (fun s => refreshOp s u bank)

/-- R206, R207: a declared row is remapped at the next gap, or stays where the last spare row has gone. -/
def rowRemapOp (s : State) (u bank row : Nat) : State :=
  let key := bank * 4096 + row
  s.guard (s.drawersUp u && (s.slice u).badRows.contains key && !s.bankKept u bank) (fun s =>
    if s.sparesLeft u bank = 0 then (s.setSlice u (fun t => { t with badRows := t.badRows.filter (· != key) })).rowStays u key
    else s.remapRow u key)

def execRowRemap (u bank row : Nat) (s : State) : Host.Outcome State Fault Refusal := whenUp s (fun s => rowRemapOp s u bank row)

/-- R208: a write of SLC_CH_CTRL; retire = 1 retires the channel the write names. -/
def channelRetireOp (s : State) (u v : Nat) : State :=
  let s1 := s.writeFields (R.SLC_CH_CTRL u) v 0
  s1.guard (bit v 8 && s1.chestUp (u / 9)) (fun s => s.retirePath u (bits v 3 0) 2)

def execChannelRetire (u v : Nat) (s : State) : Host.Outcome State Fault Refusal := whenUp s (fun s => channelRetireOp s u v)

/-- R208: more than ce_thresh errors of a channel in one second, over at least 3 of its banks. -/
def thresholdOp (s : State) (u ch : Nat) : State :=
  let t := s.slice u
  let thr := s.getF (R.SLC_CH_CTRL.ce_thresh u)
  s.guard (thr != 0 && decide (thr < Tbl.get 0 t.errs ch) && decide (3 ≤ popcount 32 (Tbl.get 0 t.errBanks ch))) (fun s =>
    (s.setSlice u (fun t => { t with errs := Tbl.set 0 t.errs ch 0, errBanks := Tbl.set 0 t.errBanks ch 0 })).retirePath u ch 0)

def execChannelErrorThreshold (u ch : Nat) (s : State) : Host.Outcome State Fault Refusal := whenUp s (fun s => thresholdOp s u ch)

/-- R208: a channel fails retraining. -/
def retrainFailOp (s : State) (u ch : Nat) : State := s.guard (s.chestUp (u / 9)) (fun s => s.retirePath u ch 1)

def execChannelRetrainFail (u ch : Nat) (s : State) : Host.Outcome State Fault Refusal := whenUp s (fun s => retrainFailOp s u ch)

/-- R209: at a gap the banks of the retired channel switch to the spare path and the rewrite pass begins. -/
def toSpareOp (s : State) (u : Nat) : State :=
  match (s.slice u).toSpare with
  | none => s
  | some (ch, cause) =>
    s.guard (!s.chanEngaged u ch && s.sliceState u != 3) (fun s =>
      let s1 := s.setSlice u (fun t => { t with map := t.map.set ch t.spare, toSpare := none, rewrite := some ch })
      let s2 := ((s1.setF (R.SLC_STATUS.spare_for u) ch).setF (R.SLC_STATUS.state u) 1).setF (R.SLC_MIGRATE.sectors_left u) (2 ^ 24)
      s2.logE (u / 9) 1 (ch * 16 + u % 9) 5 0 false 0 (ch + cause * 16) 1)

def execChannelToSpare (u : Nat) (s : State) : Host.Outcome State Fault Refusal := whenUp s (fun s => toSpareOp s u)

/-- R198, R209: one sector of the rewrite pass. -/
def State.rewriteSector (s : State) (l : Loc) (a : Nat) : State :=
  let e := s.sectorErr a
  if e = 1 then (let s1 := s.noteCorrected l a; { s1 with bad := Tbl.set 0 s1.bad (a / 64) 0 })
  else if e = 2 then s.noteUncorrectable l a
  else s

/-- R209: the pass has read and rewritten every sector of the channel; a cue that engages a bank of it holds it (Table 8-8). -/
def rewriteEndOp (s : State) (u : Nat) : State :=
  match (s.slice u).rewrite with
  | none => s
  | some ch =>
    s.guard (s.drawersUp u && !s.chanEngaged u ch) (fun s =>
      let s1 := s.each (s.bad.map (fun p => p.1 * 64)) (fun s' a => match s'.locate a with
        | some l => if l.u = u ∧ l.ch = ch then s'.rewriteSector l a else s'
        | none => s')
      let s2 := (s1.setSlice u (fun t => { t with rewrite := none })).setF (R.SLC_MIGRATE.sectors_left u) 0
      if s2.sliceState u = 1 then s2.setF (R.SLC_STATUS.state u) 0 else s2)

def execRewritePassEnd (u : Nat) (s : State) : Host.Outcome State Fault Refusal := whenUp s (fun s => rewriteEndOp s u)

/-- R210, R212, R247: at a gap a channel's banks are cut off; the slice is degraded or failed, and its floor shrinks. The
state of a failed slice stays. (DESIGN CHOICE, log entry 17.) -/
def cutOffOp (s : State) (u : Nat) : State :=
  match (s.slice u).toCut with
  | [] => s
  | (ch, cause) :: rest =>
    s.guard ((s.pup u).cue.isNone && s.sliceState u != 3) (fun s =>
      let a := s.addrAt u ch 0
      let s1 := s.setSlice u (fun t => { t with
        cut := setBit t.cut ch true, toCut := rest, rewrite := if t.rewrite == some ch then none else t.rewrite })
      let st := sliceStateOf (working (s1.slice u)).length
      let s2 := (s1.setF (R.SLC_STATUS.state u) st).setF (R.SLC_MIGRATE.sectors_left u)
        (if (s1.slice u).rewrite.isSome then s1.getF (R.SLC_MIGRATE.sectors_left u) else 0)
      let s3 := s2.logE (u / 9) 1 (ch * 16 + u % 9) 6 1 false 0 (ch + cause * 16 + st * 256) 1
      ((s3.pupBankLost u a).rescale (u / 9 * 9 + s3.logicalSlice u)).updateService)

def execChannelCutOff (u : Nat) (s : State) : Host.Outcome State Fault Refusal := whenUp s (fun s => cutOffOp s u)

/-- R219: a start by a write of SLC_MARGIN_CTRL: only on a channel without traffic. -/
def marginStartOp (s : State) (u v : Nat) : State :=
  let s1 := s.writeFields (R.SLC_MARGIN_CTRL u) v 0
  let k := bits v 3 0
  if !bit v 4 then s1
  else
    let t := s1.slice u
    let idle := s1.isSet (R.SLC_STATUS.offline u) || (k == t.spare && s1.getF (R.SLC_STATUS.spare_for u) == 0xF && t.toSpare.isNone)
    if 8 < k || !idle || t.margin.isSome || !s1.chestUp (u / 9) then
      (s1.setF (R.SLC_MARGIN_RESULT.refused u) 1).logE (u / 9) 1 (0xF0 + u % 9) 0x21 2 false 0 k 1
    else ((s1.setW (R.SLC_MARGIN_RESULT u) 0)).setSlice u (fun t => { t with margin := some k })

def execMarginTestStart (u v : Nat) (s : State) : Host.Outcome State Fault Refusal := whenUp s (fun s => marginStartOp s u v)

/-- R219: the test ends with its count of bit errors. -/
def marginEndOp (s : State) (u errors : Nat) : State :=
  s.guard (s.slice u).margin.isSome (fun s =>
    ((s.setF (R.SLC_MARGIN_RESULT.errors u) (min errors 0x3FFFFFFF)).setF (R.SLC_MARGIN_RESULT.done u) 1).setSlice u
      (fun t => { t with margin := none }))

def execMarginTestEnd (u errors : Nat) (s : State) : Host.Outcome State Fault Refusal := whenUp s (fun s => marginEndOp s u errors)

end Sys2Proof.Machine
end

