-- ==== Sys2Proof/Machine/Network.lean ====
section
/-!
DEFINITION. The on-package network (chapter 12): die meshes and the edges of the plinth ring.
-/

namespace Sys2Proof.Machine

open Sys2Proof

/-! ### Packets on a die and in its plinth (R354-R357, R369) -/

/-- R355: the next router on the way to d: along the row first, then along the column. Router 9 is the plinth, behind
router 4. (DEDUCED, log entry 95.) -/
def meshNext (r d : Nat) : Nat :=
  let t := if d = 9 then 4 else d
  if r = d then r
  else if r = 9 then 4
  else if r % 3 < t % 3 then r + 1 else if t % 3 < r % 3 then r - 1
  else if r / 3 < t / 3 then r + 3 else if t / 3 < r / 3 then r - 3 else 9

/-- The routers from r to d. -/
def meshPath : Nat → Nat → Nat → List Nat
  | 0, r, _ => [r]
  | n + 1, r, d => if r = d then [r] else r :: meshPath n (meshNext r d) d

/-- The element before r in a path; r where there is none. -/
def prevIn (r : Nat) : List Nat → Nat
  | a :: b :: l => if b = r then a else prevIn r (b :: l)
  | _ => r

/-- Where a packet enters the routers of chest c, and where it leaves them. -/
def meshEntry (c : Nat) (p : MeshPkt) : Nat := if p.home = c ∧ p.crossed = 0 then p.src else 9
def meshGoal (c : Nat) (p : MeshPkt) : Nat := if p.chest = c then p.dst else 9

/-- The input of router r that a packet uses: that of the router before, or a local one, of the plinth by the packet's home
where it came over an edge. (DEDUCED, log entry 95.) -/
def meshInput (c r : Nat) (p : MeshPkt) : Nat :=
  if r ≠ meshEntry c p then prevIn r (meshPath 6 (meshEntry c p) (meshGoal c p))
  else if r ≠ 9 then 10 + meshPortCode p.srcPort
  else if p.crossed = 0 then 10 else 11 + p.home

/-- R356: its buffer there: one per input and virtual channel. -/
def meshBuf (c r : Nat) (p : MeshPkt) : Nat := meshInput c r p * 4 + p.vc

/-- The packets at a router, by arrival. -/
def State.meshAt (s : State) (c r : Nat) : List MeshEnt := Tbl.get [] s.mesh (c * 16 + r)

def State.setMesh (s : State) (c r : Nat) (l : List MeshEnt) : State := { s with mesh := Tbl.set [] s.mesh (c * 16 + r) l }

/-- Change the first element that a test accepts, or take it out. -/
def changeFirst {α : Type} (q : α → Bool) (f : α → Option α) : List α → List α
  | [] => []
  | a :: l => if q a then (match f a with | some b => b :: l | none => l) else a :: changeFirst q f l

/-- The packet without the errors of its beats. -/
def meshClean (p : MeshPkt) : MeshPkt := { p with beats := p.beats.map (fun _ => 0) }

/-- Is the packet in its buffer ahead of all others there? -/
def State.meshHead (s : State) (c r : Nat) (p : MeshPkt) : Option MeshEnt :=
  (s.meshAt c r).find? (fun e => meshBuf c r e.pkt == meshBuf c r p)

/-- A packet enters at its source, once the one before it there has left. (DEDUCED, log entry 95.) -/
def State.meshEnter (s : State) (c r : Nat) (p : MeshPkt) : State :=
  s.guard (r == meshEntry c p && p.crossed == 0 && (s.meshHead c r p).isNone) (fun s =>
    s.setMesh c r (s.meshAt c r ++ [⟨meshClean p, meshBeats p, 0, 0⟩]))

/-- R355, R356, R369: how many beats of a packet may move on from router r: into an 8-beat buffer ahead, where no other packet of
its channel is half arrived; out at its port; into the plinth; from the plinth to an edge it has a route over, once it is
whole. (DEDUCED, log entry 95.) -/
def State.meshRoom (s : State) (c r : Nat) (e : MeshEnt) : Nat :=
  let n := meshNext r (meshGoal c e.pkt)
  let have_ := e.got - e.gone
  if n = r then
    (if e.pkt.chest = c then have_ else if s.routeOf c e.pkt.chest = 3 ∨ e.got < meshBeats e.pkt then 0 else have_)
  else if n = 9 then have_
  else
    let l := (s.meshAt c n).filter (fun q => meshBuf c n q.pkt == meshBuf c n e.pkt)
    let open_ := match l.getLast? with
      | none => true
      | some q => q.got == meshBeats q.pkt || (decide (0 < e.gone) && q.pkt == e.pkt)
    if open_ then min have_ (8 - l.foldl (fun m q => m + (q.got - q.gone)) 0) else 0

/-- R388: the output of router r that a packet goes to: a router, a local port, or an edge side. -/
def State.meshOut (s : State) (c r : Nat) (p : MeshPkt) : Nat :=
  let n := meshNext r (meshGoal c p)
  if n ≠ r then n else if p.chest = c then 10 + meshPortCode p.port else 20 + s.routeOf c p.chest

/-- R388: the packets that could move on to the same output of router r: input, level, master. -/
def State.meshReady (s : State) (c r : Nat) (p : MeshPkt) : List (Nat × Nat × Nat) :=
  ((s.meshAt c r).filter (fun e => s.meshHead c r e.pkt == some e && s.meshOut c r e.pkt == s.meshOut c r p &&
    decide (0 < s.meshRoom c r e))).map (fun e => (meshBuf c r e.pkt, e.pkt.level, e.pkt.master))

/-- R388: the request of that output's arbiter. -/
def State.meshArb (s : State) (c r : Nat) (p : MeshPkt) : ArbReq := ⟨1, c, r, s.meshOut c r p, s.meshReady c r p, 0, true⟩

/-- R361, R369: an inbound edge buffer is free of a packet. -/
def State.freeInbound (s : State) (via : Nat) (p : MeshPkt) : State :=
  if via = 0 ∨ p.vc = 0 then s
  else
    let i := p.vc * 3 + (p.crossed - 1)
    { s with sides := Tbl.modify SideSt.zero s.sides (via - 1) (fun t =>
      { t with freed := Tbl.modify 0 t.freed i (fun n => (n + cdiv (16 + p.data.length) 1008) % 1024) }) }

/-- A whole packet leaves router r: at its port, or into the queue of an edge side. -/
def State.meshLeave (s : State) (c r : Nat) (e : MeshEnt) : State :=
  let n := meshNext r (meshGoal c e.pkt)
  if n ≠ r then s.freeInbound e.via e.pkt
  else if e.pkt.chest = c then (s.freeInbound e.via e.pkt).emit (.meshEject c r e.pkt.port e.pkt)
  else { s with sides := Tbl.modify SideSt.zero s.sides (c * 2 + s.routeOf c e.pkt.chest - 1) (fun t =>
    { t with flow := t.flow ++ [⟨e.pkt, e.via, 0⟩] }) }

/-- n beats of a packet move on from router r. -/
def State.meshMove (s : State) (c r : Nat) (e : MeshEnt) (n : Nat) : State :=
  let d := meshNext r (meshGoal c e.pkt)
  let last := e.gone + n == meshBeats e.pkt
  let s1 := s.setMesh c r (changeFirst (fun q => q == e) (fun q => if last then none else some { q with gone := q.gone + n }) (s.meshAt c r))
  let s2 :=
    if d = r then s1
    else if e.gone = 0 then s1.setMesh c d (s1.meshAt c d ++ [⟨e.pkt, n, 0, 0⟩])
    else s1.setMesh c d (changeFirst (fun q => q.pkt == e.pkt && q.got == e.gone) (fun q => some { q with got := q.got + n }) (s1.meshAt c d))
  if last then s2.meshLeave c r e else s2

/-- Is this a part of a packet that is spread over several routers? -/
def meshPiece (p : MeshPkt) (e : MeshEnt) : Bool := e.pkt == p && (decide (e.got < meshBeats p) || decide (0 < e.gone))

/-- R357: an uncorrectable beat discards the packet, its parts at other routers too; a request receives an error response. -/
def State.meshDiscard (s : State) (c r : Nat) (e : MeshEnt) : State :=
  let p := e.pkt
  let s1 := s.setMesh c r (changeFirst (fun q => q == e) (fun _ => none) (s.meshAt c r))
  let s2 := s1.each (List.range 10) (fun s' q => s'.setMesh c q ((s'.meshAt c q).filter (fun x => !meshPiece p x)))
  let s3 := s2.freeInbound (((s.meshAt c 9).find? (fun x => x == e || meshPiece p x)).elim 0 (fun x => x.via)) p
  let s4 := (s3.incSat (R.LNK_MESH_UE.count c) 1).logE c 3 r 0x0D 1 false 0 (p.master % 256 + p.vc % 4 * 256) 1
  if p.request then s4.respond (.master p.master) 1 [] else s4

/-- R370, R449: is the packet bound for a die that is in reset? -/
def State.meshAbsorbs (s : State) (c r : Nat) (p : MeshPkt) : Bool := r == 9 && p.chest == c && decide (p.dst < 9) && s.chestInReset c

/-- R357, R388: the head of a buffer moves on by the beats there is room for, as its router's arbiter grants; corrected beats
are counted. -/
def State.meshStep (s : State) (c r : Nat) (p : MeshPkt) (e : MeshEnt) : State :=
  let n := s.meshRoom c r e
  let a := s.meshArb c r p
  match s.winner a with
  | none => s
  | some w =>
    s.guard (decide (0 < n) && w.1 == meshBuf c r p) (fun s =>
      let errs := (p.beats.drop e.gone).take n
      let s1 := s.incSat (R.LNK_MESH_CE.count c) ((errs.filter (· == 1)).length)
      if errs.any (fun b => decide (2 ≤ b)) then s1.meshDiscard c r e else (s1.noteGrant a w).meshMove c r e n)

/-- A packet is at a router of a die or of a plinth, its beats as they arrived there; it moves on as far as there is room. -/
def meshPacketOp (s : State) (c r : Nat) (p : MeshPkt) : State :=
  s.guard (decide (c < 4) && decide (r < 10) && meshFits p && (r == 9 || (s.chestUp c && !s.chestInReset c))) (fun s =>
    let s1 := s.meshEnter c r p
    match s1.meshHead c r p with
    | none => s1
    | some e =>
      if e.pkt ≠ meshClean p then s1
      else if s1.meshAbsorbs c r p then
        ((s1.setMesh c r (changeFirst (fun q => q == e) (fun _ => none) (s1.meshAt c r))).freeInbound e.via p).absorbMesh c [p]
      else s1.meshStep c r p e)

def execMeshPacket (chest router : Nat) (p : MeshPkt) (s : State) : Host.Outcome State Fault Refusal :=
  whenUp s (fun s => meshPacketOp s chest router p)

/-! ### Edge sides -/

def State.side (s : State) (k : Nat) : SideSt := Tbl.get SideSt.zero s.sides k

def State.setSide (s : State) (k : Nat) (f : SideSt → SideSt) : State := { s with sides := Tbl.modify SideSt.zero s.sides k f }

def State.edgeMod (s : State) (k m : Nat) : ModSt := Tbl.get ModSt.zero (s.side k).mods m

def State.setMod (s : State) (k m : Nat) (f : ModSt → ModSt) : State :=
  s.setSide k (fun t => { t with mods := Tbl.modify ModSt.zero t.mods m f })

/-- LNK_Sn_STATUS.state: 0 up, 1 training, 2 held by disagreement, 3 full retrain, 4 retired. -/
def State.sideState (s : State) (k : Nat) : Nat := s.getF (R.LNK_S_STATUS.state k)

/-- A side leaves service to train. -/
def State.sideTrains (s : State) (k : Nat) : State :=
  if s.sideState k = 0 then s.sideTakes k 1 else s

/-- R363: a module replays, or the edge retrains after 8 replays without progress. -/
def State.replayMod (s : State) (k m : Nat) : State :=
  let t := s.edgeMod k m
  if 8 ≤ t.replays then s.sideTrains k
  else ((s.incSat (R.LNK_S_REPLAYS.count k) 1).flag (R.LNK_S_FLAGS.replay k)).setMod k m (fun t =>
    { t with replays := t.replays + 1, progressAt := s.now })

/-! ### What a side sends (R361-R363, R368, R369) -/

/-- Modules that carry flits. -/
def State.modsOn (s : State) (k : Nat) : List Nat :=
  (List.range 16).filter (fun m => bits (s.getF (R.LNK_S_WIDTH.width k)) (2 * m + 1) (2 * m) != 0)

/-- R362: the module whose turn is next. -/
def State.nextMod (s : State) (k : Nat) : Nat :=
  let l := s.modsOn k
  (l.find? (fun m => decide ((s.side k).lastMod ≤ m))).getD (l.headD 0)

/-- Credits of a VC and class, from 256. -/
def sideCredit (t : SideSt) (i : Nat) : Nat := 256 - (Tbl.get 0 t.sent i + 1024 - Tbl.get 0 t.peerFreed i) % 1024

/-- Table 12-3: a header that is dropped as a protocol error. -/
def edgeHdrBad (h : EdgeHdr) : Bool := h.cls == 3 || h.len8 == 127 || h.crCls == 3

/-- The number by which a flit's VC and class are counted. -/
def vcClass (vc cls : Nat) : Nat := vc * 3 + cls

/-- R361: the class of a packet on its next edge: the edges it has crossed. (DEDUCED, log entry 93.) -/
def ringClass (p : MeshPkt) : Nat := min 2 p.crossed

/-- Bytes of a packet on an edge: header and data. -/
def ringSize (p : MeshPkt) : Nat := 16 + p.data.length

/-- The packet of a VC that side k sends from next. -/
def State.edgeNext (s : State) (k vc : Nat) : Option RingPkt :=
  (s.side k).flow.find? (fun x => x.pkt.vc == vc && decide (x.sent < ringSize x.pkt))

/-- R362: the bytes of its next flit, filled up to whole 8 bytes. (DEDUCED, log entry 93.) -/
def ringChunk (x : RingPkt) : List Byte :=
  let b := ((meshBytes x.pkt).drop x.sent).take 1008
  padTo (8 * cdiv b.length 8) b

/-- R369: VC1 to VC3 need a credit of their class. -/
def State.edgeReady (s : State) (k vc : Nat) : Bool :=
  match s.edgeNext k vc with
  | none => false
  | some x => vc == 0 || decide (0 < sideCredit (s.side k) (vcClass vc (ringClass x.pkt)))

/-- R368: VC0 takes seven of every eight flit times, the other VCs the eighth; either takes what the other leaves. -/
def State.edgeMay (s : State) (k vc : Nat) : Bool :=
  let eighth := (s.side k).phase % 8 == 7
  s.edgeReady k vc && (if vc = 0 then !eighth || !([1, 2, 3].any (s.edgeReady k)) else eighth || !s.edgeReady k 0)

/-- R369: the count a flit of side k carries next. -/
def State.edgeCount (s : State) (k : Nat) : Nat × Nat × Nat :=
  let t := s.side k
  (t.rot / 3 + 1, t.rot % 3, Tbl.get 0 t.freed (vcClass (t.rot / 3 + 1) (t.rot % 3)))

def State.turnCount (s : State) (k : Nat) : State := s.setSide k (fun t => { t with rot := (t.rot + 1) % 9 })

/-- Side k keeps a new flit for replay on module m and numbers it. -/
def State.keepFlit (s : State) (k m : Nat) (f : EdgeFlit) : State :=
  let o := (s.side k).ordOut
  (s.setMod k m (fun t => { t with
    txNext := (t.txNext + 1) % 1024, replay := t.replay ++ [(o, f)], progressAt := if t.replay.isEmpty then s.now else t.progressAt })).setSide k
    (fun t => { t with ordOut := o + 1, lastMod := m + 1, phase := (t.phase + 1) % 8 })

/-- The packet x gives up its next flit: a credit is spent; once it has gone out whole its inbound buffer is free (R361). -/
def State.spendPacket (s : State) (k : Nat) (x : RingPkt) : State :=
  let i := vcClass x.pkt.vc (ringClass x.pkt)
  let y : RingPkt := { x with sent := x.sent + 1008 }
  let whole := decide (ringSize x.pkt ≤ y.sent)
  let s1 := s.setSide k (fun t => { t with
    flow := changeFirst (fun z => z == x) (fun _ => some (if whole then { y with via := 0 } else y)) t.flow
    sent := if x.pkt.vc = 0 then t.sent else Tbl.modify 0 t.sent i (fun n => (n + 1) % 1024) })
  if whole then s1.freeInbound x.via x.pkt else s1

/-- Is f the next new flit that side k may send on module m from packet x? -/
def State.edgeIsNext (s : State) (k m : Nat) (f : EdgeFlit) (x : RingPkt) : Bool :=
  m == s.nextMod k && s.edgeMay k f.hdr.vc && f.hdr.cls == ringClass x.pkt && f.payload == ringChunk x && 8 * f.hdr.len8 == f.payload.length

/-- What side j has done when flit f of its module m is on its way: a new one is kept for replay and spends its credit; one
it still keeps is a replay; an idle one only carries its counts. Any other flit cannot come, but for one whose header
Table 12-3 does not allow. (DEDUCED, log entry 93.) -/
def State.edgeSent (s : State) (j m : Nat) (f : EdgeFlit) : Option State :=
  let t := s.edgeMod j m
  let fresh := f.hdr.seq == t.txNext && decide (t.replay.length < 512)
  if edgeHdrBad f.hdr then (if f.hdr.seqd && fresh then some (s.keepFlit j m f) else some s)
  else if (f.hdr.crVc, f.hdr.crCls, f.hdr.crTotal) ≠ s.edgeCount j then none
  else if !f.hdr.seqd then some (s.turnCount j)
  else if t.replay.any (fun g => g.2.hdr.seq == f.hdr.seq && g.2.hdr.vc == f.hdr.vc && g.2.hdr.cls == f.hdr.cls && g.2.payload == f.payload) then
    some (s.turnCount j)
  else match s.edgeNext j f.hdr.vc with
    | none => none
    | some x => if fresh && s.edgeIsNext j m f x then some (((s.keepFlit j m f).spendPacket j x).turnCount j) else none

/-! ### What a side receives (R361-R363, R369) -/

/-- R363, R338: the ack field; outside its range it is a protocol error, and the edge retrains. -/
def State.edgeAck (s : State) (k m : Nat) (f : EdgeFlit) : State :=
  let t := s.edgeMod k m
  let oldest := (t.txNext + 1024 - t.replay.length % 1024) % 1024
  let d := (f.hdr.ack + 1 + 1024 - oldest) % 1024
  if t.replay.length < d then (s.flag (R.LNK_S_FLAGS.protocol k)).sideTrains k
  else if d = 0 then s
  else s.setMod k m (fun t => { t with replay := t.replay.drop d, replays := 0, progressAt := s.now })

/-- R363: the nak field; the same nak is ignored for 1 us. -/
def State.edgeNak (s : State) (k m : Nat) (f : EdgeFlit) : State :=
  let t := s.edgeMod k m
  if !f.hdr.nak || t.replay.isEmpty || (t.nakAck == f.hdr.ack && decide (s.now < t.nakAt + 1000)) then s
  else (s.replayMod k m).setMod k m (fun t => { t with nakAck := f.hdr.ack, nakAt := s.now })

/-- R369: the count of freed buffer that a flit carries. -/
def State.edgeCredit (s : State) (k : Nat) (f : EdgeFlit) : State :=
  if f.hdr.crVc % 4 = 0 ∨ 2 < f.hdr.crCls then s
  else s.setSide k (fun t => { t with peerFreed := Tbl.set 0 t.peerFreed (vcClass (f.hdr.crVc % 4) f.hdr.crCls) (f.hdr.crTotal % 1024) })

/-- R361: a packet that is whole at side k waits in the plinth, its inbound buffer held; the other side's queue is rid of
it. -/
def State.edgePacket (s : State) (k : Nat) (p : MeshPkt) : State :=
  let s1 := s.setSide (peerSide k) (fun t => { t with flow := changeFirst (fun x => x.pkt.vc == p.vc) (fun _ => none) t.flow })
  s1.setMesh (k / 2) 9 (s1.meshAt (k / 2) 9 ++ [⟨p, meshBeats p, 0, k + 1⟩])

/-- R362: a flit's payload joins the packet that arrives on its VC, which leaves the edge in the next hop class (R361); a header
of Table 12-3 that is not allowed drops it. -/
def State.edgeJoin (s : State) (k : Nat) (f : EdgeFlit) : State :=
  if edgeHdrBad f.hdr then s.flag (R.LNK_S_FLAGS.protocol k)
  else
    let b := Tbl.get [] (s.side k).part f.hdr.vc ++ f.payload.take (8 * f.hdr.len8)
    let p := { meshOf b with crossed := f.hdr.cls + 1, vc := f.hdr.vc }
    if b.length < ringSize p ∨ (fieldAt b 0 16 / 2 ^ 66) % 2 ^ 32 ≠ p.data.length then s.setSide k (fun t => { t with part := Tbl.set [] t.part f.hdr.vc b })
    else (s.setSide k (fun t => { t with part := Tbl.set [] t.part f.hdr.vc [] })).edgePacket k p

/-- R362: flits accepted are taken in the order in which they were sent. -/
def State.edgeDrain : Nat → State → Nat → State
  | 0, s, _ => s
  | fuel + 1, s, k =>
    let t := s.side k
    match t.parked.find? (fun x => x.1 == t.ordIn) with
    | none => s
    | some x => State.edgeDrain fuel
        ((s.setSide k (fun t => { t with parked := t.parked.filter (fun y => y.1 != t.ordIn), ordIn := t.ordIn + 1 })).edgeJoin k x.2) k

/-- R363: the flit that is expected on a module is accepted. -/
def State.edgeAccept (s : State) (k m : Nat) (f : EdgeFlit) : State :=
  let s1 := s.setMod k m (fun t => { t with rxLast := f.hdr.seq, nak := false })
  match (s1.edgeMod (peerSide k) m).replay.find? (fun g => g.2.hdr.seq == f.hdr.seq) with
  | none => s1
  | some g =>
    let s2 := s1.setSide k (fun t => { t with parked := t.parked ++ [(g.1, f)] })
    State.edgeDrain (s2.side k).parked.length s2 k

/-- R362, R363: a flit with a good CRC. (DEDUCED, log entry 93.) -/
def State.edgeTake (s : State) (k m : Nat) (f : EdgeFlit) : State :=
  let s1 := ((s.edgeAck k m f).edgeNak k m f).edgeCredit k f
  if !f.hdr.seqd then (if edgeHdrBad f.hdr then s1.flag (R.LNK_S_FLAGS.protocol k) else s1)
  else if f.hdr.seq = ((s.edgeMod k m).rxLast + 1) % 1024 then s1.edgeAccept k m f
  else s1.setMod k m (fun t => { t with nak := true })

/-- A flit of the other side arrives at side k on module m, some of its bits changed on the way. -/
def edgeFlitOp (s : State) (k m : Nat) (f : EdgeFlit) (err : BitVec 8192) : State :=
  s.guard (decide (k < 8) && decide (m < 16) && s.sideState k == 0 && s.sideState (peerSide k) == 0 && (s.modsOn k).contains m) (fun s =>
    match s.edgeSent (peerSide k) m f with
    | none => s
    | some s1 =>
      match edgeArrives f err with
      | some g => s1.edgeTake k m g
      | none => (s1.incSat (R.LNK_S_CRC.count k) 1).setMod k m (fun t => { t with nak := true }))

def execEdgeFlitReceive (k m : Nat) (f : EdgeFlit) (err : BitVec 8192) (s : State) : Host.Outcome State Fault Refusal :=
  whenUp s (fun s => edgeFlitOp s k m f err)

/-- R363: 1 us without ack progress. -/
def edgeReplayTimeoutOp (s : State) (k m : Nat) : State :=
  s.guard (decide (k < 8) && decide (m < 16) && s.sideState k == 0 && !(s.edgeMod k m).replay.isEmpty &&
    decide ((s.edgeMod k m).progressAt + 1000 ≤ s.now)) (fun s => s.replayMod k m)

def execEdgeReplayTimeout (k m : Nat) (s : State) : Host.Outcome State Fault Refusal := whenUp s (fun s => edgeReplayTimeoutOp s k m)

/-! ### Training and retirement (R364-R367) -/

/-- R364: the width a module's mask allows: x64, x32 low, x32 high, off. -/
def maskWidth (x : Word64) : Nat :=
  if x = 0xFFFFFFFFFFFFFFFF#64 then 3 else if x.toNat % 2 ^ 32 = 2 ^ 32 - 1 then 1 else if x.toNat / 2 ^ 32 = 2 ^ 32 - 1 then 2 else 0

/-- The width vector of a side, from the masks it holds and those the other side sent. -/
def widthVector (own peerSent : Nat → Word64) : Nat :=
  (List.range 16).foldl (fun v m => v + maskWidth (own m &&& peerSent m) * 4 ^ m) 0

/-- R366: the packets of a retired edge that the other side does not have whole are sent first on their new route, in their
order, behind what that route has begun to send. (DEDUCED, log entry 94.) -/
def State.rerouteSide (s : State) (k : Nat) : State :=
  let c := k / 2
  let moved := (s.side k).flow.map (fun x => { x with sent := 0 })
  let s1 := s.setSide k (fun t => { t with flow := [], parked := [], part := [] })
  let s2 := s1.each (List.range 16) (fun s' m => s'.setMod k m (fun t => { t with replay := [] }))
  let s3 := s2.each [1, 2] (fun s' r =>
    let l := moved.filter (fun x => s'.routeOf c x.pkt.chest == r)
    if l.isEmpty then s' else s'.setSide (c * 2 + r - 1) (fun t =>
      { t with flow := t.flow.filter (fun x => x.sent != 0) ++ l ++ t.flow.filter (fun x => x.sent == 0) }))
  let wait := moved.filter (fun x => s3.routeOf c x.pkt.chest == 3)
  if wait.isEmpty then s3
  else s3.setMesh c 9 (wait.map (fun x => ⟨x.pkt, meshBeats x.pkt, 0, x.via⟩) ++ s3.meshAt c 9)

/-- R366, Table 17-7: side k retires the edge (why: 0 attempts, 1 firmware). Routes go the other way round at both ends,
scheduled traffic is demoted from the next boundary. (DEDUCED, log entry 94.) -/
def State.retireSide (s : State) (k why : Nat) : State :=
  if s.sideState k = 4 then s
  else
    let s1 := (((s.setF (R.LNK_S_STATUS.state k) 4).flagC (R.LNK_S_FLAGS.retired k) 14).logE (k / 2) 4 (k % 2) 0x15 1 false 0 why 1).updateRoutes
    let s2 := (s1.rerouteSide k).rerouteSide (peerSide k)
    let s3 : State := { s2 with lay := { s2.lay with invalidDue := true } }
    (if s3.runsEpochs then s3 else s3.invalidate).updateService

/-- R366: an attempt fails at side k; the third retires the edge. -/
def State.attemptFails (s : State) (k : Nat) : State :=
  let n := s.getF (R.LNK_S_STATUS.attempts k) + 1
  let s1 := s.setF (R.LNK_S_STATUS.attempts k) (min 3 n)
  if 3 ≤ n then s1.retireSide k 0 else s1

/-- R365: the vectors differ: side k holds the edge down. -/
def State.disagree (s : State) (k own other : Nat) : State :=
  let s1 := ((s.setF (R.LNK_S_STATUS.state k) 2).flagC (R.LNK_S_FLAGS.width_disagree k) 14).logE (k / 2) 4 (k % 2) 0x14 2 false
    (own + other * 2 ^ 32) (min 3 (s.getF (R.LNK_S_STATUS.attempts k) + 1)) 1
  s1.attemptFails k

/-- Does the other side lack the flit that side k numbered o? -/
def State.edgeLacks (s : State) (k o : Nat) : Bool :=
  let t := s.side (peerSide k)
  decide (t.ordIn ≤ o) && !t.parked.any (fun x => x.1 == o)

/-- What a module that is now off has kept, and the other side lacks, goes to the modules that are on, in order.
(DESIGN CHOICE, log entry 135.) -/
def State.moveKept (s : State) (k m : Nat) : State :=
  let l := (s.edgeMod k m).replay.filter (fun x => s.edgeLacks k x.1)
  (s.setMod k m (fun t => { t with replay := [] })).each l (fun s' x =>
    let n := s'.nextMod k
    (s'.setMod k n (fun t => { t with
      txNext := (t.txNext + 1) % 1024, replay := t.replay ++ [(x.1, { x.2 with hdr := { x.2.hdr with seq := t.txNext } })] })).setSide k
      (fun t => { t with lastMod := n + 1 }))

/-- The edge is up at side k: the confirmed vector, and replay of what is not acknowledged. -/
def State.sideUp (s : State) (k v : Nat) : State :=
  let s1 := (s.sideTakes k 0).setF (R.LNK_S_WIDTH.width k) v
  let s2 := s1.each ((List.range 16).filter (fun m => !(s1.modsOn k).contains m)) (fun s' m => s'.moveKept k m)
  s2.each (List.range 16) (fun s' m =>
    let s'' := s'.setMod k m (fun t => { t with replays := 0, progressAt := s.now })
    if (s''.edgeMod k m).replay.isEmpty then s'' else s''.replayMod k m)

/-- The masks of a side after a training: lanes once bad stay bad (R367); what the other side sent. -/
def State.takeMasks (s : State) (k : Nat) (own peerSent : Nat → Word64) : State :=
  s.each (List.range 16) (fun s' m => s'.setMod k m (fun t => { t with lmask := own m, rmask := peerSent m }))

def trainable (st : Nat) : Bool := st == 1 || st == 3

/-- R364-R366: both ends have exchanged masks and vectors. -/
def edgeTrainingEndOp (s : State) (k : Nat) (ms : EdgeMasks) : State :=
  let j := peerSide k
  s.guard (decide (k < 8) && trainable (s.sideState k) && trainable (s.sideState j)) (fun s =>
    let at_ := fun (l : List Word64) (u m : Nat) => l.getD m 0xFFFFFFFFFFFFFFFF#64 &&& (s.edgeMod u m).lmask
    let own := at_ ms.own k
    let peer := at_ ms.peer j
    let v := widthVector own (at_ ms.peerSent j)
    let w := widthVector peer (at_ ms.sent k)
    let s1 := (s.takeMasks k own (at_ ms.peerSent j)).takeMasks j peer (at_ ms.sent k)
    if v ≠ w then (s1.disagree k v w).disagree j w v
    else if v = 0 then ((((s1.sideTakes k 1).sideTakes j 1).attemptFails k).attemptFails j)
    else ((s1.sideUp k v).sideUp j w))

def execEdgeTrainingEnd (k : Nat) (ms : EdgeMasks) (s : State) : Host.Outcome State Fault Refusal :=
  whenUp s (fun s => edgeTrainingEndOp s k ms)

/-- R364: LNK_Sn_CTRL.retrain; ignored when retired, and while the edge is held down (R365). -/
def execEdgeRetrain (k : Nat) (s : State) : Host.Outcome State Fault Refusal :=
  whenUp s (fun s => s.guard (decide (k < 8)) (fun s => s.sideTrains k))

/-- R364. -/
def execEdgeFramingLoss (k : Nat) (s : State) : Host.Outcome State Fault Refusal :=
  whenUp s (fun s => s.guard (decide (k < 8)) (fun s => s.sideTrains k))

/-- R365: this end goes to the start of training; ignored when retired. (DEDUCED, log entry 94.) -/
def edgeFullRetrainOp (s : State) (k : Nat) : State :=
  s.guard (decide (k < 8) && s.sideState k != 4) (fun s => s.sideTakes k 3)

def execEdgeFullRetrain (k : Nat) (s : State) : Host.Outcome State Fault Refusal := whenUp s (fun s => edgeFullRetrainOp s k)

/-- R365, R366: no training within 20 us, or no partner within 100 us of a full retrain; the end tries again. -/
def edgeAttemptTimeoutOp (s : State) (k : Nat) : State :=
  let wait := if s.sideState k = 3 then 100000 else 20000
  s.guard (decide (k < 8) && trainable (s.sideState k) && decide ((s.side k).since + wait ≤ s.now)) (fun s =>
    (s.sideTakes k (s.sideState k)).attemptFails k)

def execEdgeAttemptTimeout (k : Nat) (s : State) : Host.Outcome State Fault Refusal := whenUp s (fun s => edgeAttemptTimeoutOp s k)

/-- R366: firmware retires the edge. -/
def execEdgeRetire (k : Nat) (s : State) : Host.Outcome State Fault Refusal :=
  whenUp s (fun s => s.guard (decide (k < 8)) (fun s => s.retireSide k 1))

/-- R366: up for 1 s. -/
def execEdgeStable (k : Nat) (s : State) : Host.Outcome State Fault Refusal :=
  whenUp s (fun s => s.guard (decide (k < 8) && s.sideState k == 0 && decide ((s.side k).since + 1000000000 ≤ s.now)) (fun s =>
    s.setF (R.LNK_S_STATUS.attempts k) 0))

/-- R364, R367: lane repair changes a module's mask; the side retrains. -/
def edgeLaneRepairOp (s : State) (k m : Nat) (mask : Word64) : State :=
  s.guard (decide (k < 8) && decide (m < 16) && ((s.edgeMod k m).lmask &&& mask) != (s.edgeMod k m).lmask) (fun s =>
    (s.setMod k m (fun t => { t with lmask := t.lmask &&& mask })).sideTrains k)

def execEdgeLaneRepair (k m : Nat) (mask : Word64) (s : State) : Host.Outcome State Fault Refusal :=
  whenUp s (fun s => edgeLaneRepairOp s k m mask)

end Sys2Proof.Machine
end

