-- ==== Sys2Proof/Machine/Pins.lean ====
section
/-!
DEFINITION. Supplies, PERST_N and the resets that reach the whole part (R399, R438, R543-R545, R549).
-/

namespace Sys2Proof.Machine

open Sys2Proof

/-- R543: the rails rise. Out of order, the part waits for a new assertion of PERST_N; in order, PERST_N is still held
low. (DEDUCED, log entry 43.) -/
def powerUpOp (s : State) (inOrder : Bool) : State :=
  if s.pins.vaon && s.pins.vio && s.pins.vin then s
  else { s with up := false, pins := { s.pins with vaon := true, vio := true, vin := true, perstN := !inOrder } }

def execPowerUp (inOrder : Bool) (s : State) : Host.Outcome State Fault Refusal := always s (fun s => powerUpOp s inOrder)

/-- R544: the rails are removed: nothing is kept but the fuses, and a burn that was running is cut. -/
def powerRemovalOp (s : State) : State :=
  let s1 := s.cutBurn
  { State.reset with
    pending := s.pending, out := s.out, fresh := s.fresh, fuse := s1.fuse, up := false
    pins := { s.pins with vaon := false, vio := false, vin := false, thermtrip := false, brownOut := false } }

def execPowerRemoval (s : State) : Host.Outcome State Fault Refusal := always s powerRemovalOp

/-- R545: the dies and drawers lose power, the floor domains run on; event 0x18 and ALERT_N. (DEDUCED, log entry 50.) -/
def brownOutOp (s : State) : State :=
  let tier := s.getF R.GLB_SERVICE.tier
  let s1 := { s with
    pins := { s.pins with brownOut := true }, mem := [], bad := [], memLost := s.fresh + 1, fresh := s.fresh + 1 }
  let s3 := s1.each (List.range 4) (fun s' c => s'.chestLost c)
  if tier = 1 then (s3.updateService).logE 0 0xC 0 0x18 1 false 0 (1 + 4) 1 else s3.updateService

def execBrownOut (s : State) : Host.Outcome State Fault Refusal := whenUp s brownOutOp

/-- R545, R399: the link goes down with VIO; the part resets whole. -/
def execVioExcursion (s : State) : Host.Outcome State Fault Refusal := whenUp s State.wholeReset

/-- R545: as power removal, with the rails back in range; the part waits for PERST_N. -/
def vaonExcursionOp (s : State) : State := { powerRemovalOp s with pins := { s.pins with thermtrip := false, brownOut := false } }

def execVaonExcursion (s : State) : Host.Outcome State Fault Refusal := always s vaonExcursionOp

/-- R549: ten low samples of PERST_N: a whole-device reset that lasts while the pin is low. (DEDUCED, log entry 43.) -/
def perstAssertOp (s : State) : State :=
  let low := fun (s : State) => { s with up := false, pins := { s.pins with perstN := false } }
  if s.up then low s.wholeReset else low s

def execPerstNAssert (s : State) : Host.Outcome State Fault Refusal := always s perstAssertOp

/-- R438, R543: bring-up step 1, with every rail in range: BEHAV_SEL is sampled and time starts. -/
def perstReleaseOp (s : State) (behavSel : Bool) : State :=
  if s.pins.perstN then s
  else
    let s1 := { s with pins := { s.pins with perstN := true, behavSel := behavSel } }
    if s.pins.vaon && s.pins.vio && s.pins.vin then { s1.wholeReset with now := 0 } else s1

def execPerstNRelease (behavSel : Bool) (s : State) : Host.Outcome State Fault Refusal := always s (fun s => perstReleaseOp s behavSel)

/-- R399. -/
def execHotReset (s : State) : Host.Outcome State Fault Refusal := whenUp s State.wholeReset

/-- R399. -/
def execLinkDown (s : State) : Host.Outcome State Fault Refusal := whenUp s State.wholeReset

end Sys2Proof.Machine
end

