-- ==== Sys2Proof/Machine/Puppet.lean ====
section
/-!
DEFINITION. Runs, cues and puppet instructions (chapter 08).
-/

namespace Sys2Proof.Machine

open Sys2Proof

/-! ### Submitting a run (R237, R238, R247) -/

/-- Does the puppeteer refuse a run record? -/
def State.runRefused (s : State) (u : Nat) (rec_ : List Byte) : Bool :=
  let t := s.pup u
  t.lost || (runCues rec_).any (fun i => decide (1023 < i) || (Tbl.get [] t.cues i).isEmpty) || runRepeats rec_ == 0 ||
    (List.range 16).any (fun c => bit (runClaims rec_) c && (Tbl.get none t.claims c).isNone) ||
    decide (16 ≤ t.queue.length) || decide (16 < runBcastSlots rec_) || (!runNoRecords rec_ && runRecUnits rec_ == 0)

/-- A run record is refused and counted. -/
def State.refuseRun (s : State) (u : Nat) : State := s.incSat (R.PUP_REFUSED.refused u) 1

/-- A run record joins the queue. -/
def State.acceptRun (s : State) (u : Nat) (rec_ : List Byte) (b : Submitter) : State :=
  (s.setPup u (fun t => { t with queue := t.queue ++ [(rec_, b)] })).showPup u

/-- The error response of a refused record: a control core sees it, the work item of a core or a pass ends (Table 17-5). -/
def State.refusedTo (s : State) : Submitter → State
  | .cc i => s.respond (.master (Master.cc i).id) 1 []
  | b => s.submitterFails b

/-- R276: index in the snapshot of its pass of the decode run that a walker's record is. -/
def State.passRun (s : State) (u : Nat) (rec_ : List Byte) (jid : Nat) : Option Nat :=
  (s.kv.passes.find? (fun p => p.jid == jid)).bind (fun p => s.kvGeo.bind (fun g =>
    s.decodeRun g p u ((List.range 4).map (runArgBase rec_)) (runLanding rec_)
      ((runCues rec_).map (fun i => cueMask (Tbl.get [] (s.pup u).cues i)))))

/-- May the submitter submit? A core does so as part of a work item, a pass the decode runs it builds.
(DEDUCED, log entry 32.) -/
def State.maySubmit (s : State) (u : Nat) (rec_ : List Byte) : Submitter → Bool
  | .core v => (s.core v).work.isSome
  | .walker _ jid => (s.passRun u rec_ jid).isSome
  | .cc i => s.ccRuns i
  | .host => false

/-- R276: a decode run is noted in its pass. -/
def State.noteSubmit (s : State) (u : Nat) (rec_ : List Byte) : Submitter → State
  | .walker _ jid => (s.passRun u rec_ jid).elim s (fun k => s.noteRun jid k (runLanding rec_))
  | _ => s

def runSubmitOp (s : State) (u : Nat) (rec_ : List Byte) (b : Submitter) : State :=
  s.guard (decide (u < 36) && decide (rec_.length = 64) && s.chestUp (u / 9) && !s.chestInReset (u / 9) && s.maySubmit u rec_ b) (fun s =>
    if s.runRefused u rec_ then (s.refuseRun u).refusedTo b else (s.noteSubmit u rec_ b).acceptRun u rec_ b)

def execRunSubmit (u : Nat) (rec_ : List Byte) (by_ : Submitter) (s : State) : Host.Outcome State Fault Refusal :=
  whenUp s (fun s => runSubmitOp s u rec_ by_)

/-- The record in PUP_RUN0-15. -/
def State.hostRun (s : State) (u : Nat) : List Byte := (List.range 16).flatMap (fun i => leBytes 4 (s.getW (R.PUP_RUN u i)))

/-- R238: the host submits only while the slice is offline. (DEDUCED, log entry 32.) -/
def pupRunGoOp (s : State) (u : Nat) (m : Master) : State :=
  s.guard (decide (u < 36) && s.chestUp (u / 9) && !s.chestInReset (u / 9)) (fun s =>
    let rec_ := s.hostRun u
    let no := fun (s : State) => s.setF (R.PUP_STATUS.host_refused u) 1
    match m with
    | .host _ =>
      if !s.isSet (R.SLC_STATUS.offline u) then no s
      else if s.runRefused u rec_ then no (s.refuseRun u)
      else (s.setF (R.PUP_STATUS.host_refused u) 0).acceptRun u rec_ .host
    | .cc i =>
      if s.runRefused u rec_ then no (s.refuseRun u)
      else (s.setF (R.PUP_STATUS.host_refused u) 0).acceptRun u rec_ (.cc i))

def execPupRunGo (u : Nat) (m : Master) (s : State) : Host.Outcome State Fault Refusal := whenUp s (fun s => pupRunGoOp s u m)

/-! ### A run (R239-R241) -/

/-- Local master id of a puppeteer (Table 13-3). -/
def pupMid (u : Nat) : Nat := u / 9 * 64 + 0x0D + u % 9

/-- R239, steps 2 and 3: the claims are held and the registers clear. -/
def State.beginRun (s : State) (u : Nat) (buf : List Byte) : State :=
  (s.setPup u (fun t => { t with
    bcast := Tbl.setList 0 [] 0 buf, pv := [], ps := [], strays := 0, firstStray := none
    run := t.run.map (fun r => settlePart 3 { r with started := true }) })).showPup u

/-- R239: the next queued run fetches its broadcast operand and starts, or ends without records (R556). After a bank was
lost it is refused (R247). -/
def runStartOp (s : State) (u : Nat) : State :=
  match (s.pup u).run, (s.pup u).queue with
  | none, (rec_, b) :: rest =>
    s.guard (s.chestUp (u / 9) && !s.chestInReset (u / 9)) (fun s =>
      if (s.pup u).lost then (((s.setPup u (fun t => { t with queue := rest })).showPup u).refuseRun u).refusedTo b else
      let src := runBcast rec_
      let n := runBcastSlots rec_ * 256
      let r := if bit src 63 || n == 0 then (s, 0, List.replicate n 0) else s.unitRead (pupMid u) (bits src 38 0) n
      if r.2.1 = 0xF then s
      else
        let s1 := r.1.setPup u (fun t => { t with
          queue := rest, run := some ⟨rec_, b, 0, 0, 0, 0, 0, false, false, [], 0, r.1.runPuppets u rec_, false⟩ })
        if r.2.1 = 0 then s1.beginRun u r.2.2 else s1.runFails u 2 (bits src 38 0))
  | _, _ => s

def execRunStart (u : Nat) (s : State) : Host.Outcome State Fault Refusal := whenUp s (fun s => runStartOp s u)

/-- May the next cue of a slice be dispatched: nothing holds it at its gap (R225, R248, R493), and its cue share lets
puppets run at all (R384)? (DEDUCED, log entry 39.) -/
def State.cueMayRun (s : State) (u : Nat) : Bool :=
  s.isSet (R.PUP_STATUS.prog_valid u) && !s.isSet (R.PUP_CTRL.halt u) && !s.paused &&
    s.cueShare (u / 9 * 9 + s.logicalSlice u) != 0

/-- Owed refreshes of some banks are served. -/
def State.refreshBanks (s : State) (u : Nat) (banks : List Nat) : State :=
  let due := banks.filter (fun b => Tbl.get 0 (s.slice u).owed b != 0)
  if due.isEmpty then s else s.setSlice u (fun t => { t with owed := due.foldl (fun m b => Tbl.set 0 m b 0) t.owed })

/-- The banks of a cue. -/
def State.cueBanks (s : State) (u i : Nat) : List Nat :=
  (List.range 256).filter (bit (cueMask (Tbl.get [] (s.pup u).cues i)))

/-- R235: the next cue of the run starts at its first instruction. The first cue of a run, which no gap precedes, waits for
the refreshes its banks owe (R202). -/
def cueDispatchOp (s : State) (u : Nat) : State :=
  match (s.pup u).run, (s.pup u).cue with
  | some r, none =>
    s.guard (r.started && r.part != 3 && s.cueMayRun u) (fun s =>
      let i := r.cueIdx
      let cue := Tbl.get [] (s.pup u).cues i
      let s1 := if (s.pup u).gap.isNone then s.refreshBanks u (s.cueBanks u i) else s
      (s1.setPup u (fun t => { t with
        cue := some i, gap := none, run := some { r with pc := cueStart cue, iter := 0, done := false } })).showPup u)
  | _, _ => s

def execCueDispatch (u : Nat) (s : State) : Host.Outcome State Fault Refusal := whenUp s (fun s => cueDispatchOp s u)

/-! ### A gap (R245) -/

/-- Owed refreshes of the banks of the cue that ended and of the next one. -/
def State.gapRefresh (s : State) (u : Nat) (banks : List Nat) : State :=
  if banks.any (fun b => Tbl.get 0 (s.slice u).owed b != 0) then (s.refreshBanks u banks).incSat (R.PUP_GAP_REFRESH.value u) 1 else s

/-- R200: patrol bursts the cue held: those that have waited 1 ms, or the others. -/
def State.gapScrub (s : State) (u : Nat) (late : Bool) : State :=
  let mine := fun (x : Nat × Nat) => decide (x.1 + 1000000 ≤ s.now) == late
  let due := (s.slice u).scrubHeld.filter mine
  if due.isEmpty then s
  else (s.setSlice u (fun t => { t with scrubHeld := t.scrubHeld.filter (fun x => !mine x) })).each (due.map (fun x => x.2)) (fun s' ch =>
    s'.scrubNow u ch)

/-- R206: rows of those banks that wait for their remap. -/
def State.gapRemaps (s : State) (u : Nat) (banks : List Nat) : State :=
  s.each ((s.slice u).badRows.filter (fun k => banks.contains (k / 4096))) (fun s' k =>
    if s'.sparesLeft u (k / 4096) = 0 then
      (s'.setSlice u (fun t => { t with badRows := t.badRows.filter (· != k) })).rowStays u k
    else s'.remapRow u k)

/-- R198: write-backs of those banks that were held. -/
def State.gapWriteBacks (s : State) (u : Nat) (banks : List Nat) : State :=
  s.each (banks.filter (fun b => !(s.bankBacks u b).isEmpty)) (fun s' b => s'.writeBacksDone u b)

/-- The cue that follows a gap of a run, if one does. -/
def RunSt.follows (r : RunSt) : Option Nat := if r.part = 3 then none else some r.cueIdx

/-- R245: what a gap serves, in order, for the banks of the cue that ended and of the next one. -/
def State.gapServes (s : State) (u : Nat) (banks next : List Nat) : State :=
  let s1 := ((s.gapRefresh u (banks ++ next)).gapScrub u true).gapRemaps u banks
  ((s1.gapWriteBacks u banks).gapScrub u false).gapHeld u

/-- A cue ends: it is counted, its strays are logged, and its gap serves what waited. From then on the gap keeps the banks
of the next cue (Table 8-8). -/
def cueEndOp (s : State) (u : Nat) : State :=
  match (s.pup u).run, (s.pup u).cue with
  | some r, some i =>
    s.guard r.done (fun s =>
      let r1 := settlePart 3 { r with idx := r.idx + 1, done := false }
      let s1 := (s.logStrays u).addPair (R.PUP_CUES_LO u) 1
      let s2 := (s1.setPup u (fun t => { t with cue := none, run := some r1 })).showPup u
      let s3 := s2.gapServes u (s.cueBanks u i) (r1.follows.elim [] (s.cueBanks u))
      s3.setPup u (fun t => { t with gap := r1.follows }))
  | _, _ => s

def execCueEnd (u : Nat) (s : State) : Host.Outcome State Fault Refusal := whenUp s (fun s => cueEndOp s u)

/-! ### Records (R240) -/

/-- One record. (DEDUCED, log entry 33.) -/
def recordBytes (r : RunSt) (row j : Nat) : List Byte :=
  (List.range (16 * runRecUnits r.bytes)).flatMap (fun w => leBytes 4 (Tbl.get 0 r.words ((row * 128 + j) * 1024 + w)).toNat)

/-- Bytes [off, off + len) of the records laid end to end. -/
def recordSlice (r : RunSt) (off len : Nat) : List Byte :=
  let size := 64 * runRecUnits r.bytes
  let n := r.puppets.length
  let m := if size = 0 then 1 else size
  let n1 := if n = 0 then 1 else n
  let first := off / m
  (((List.range ((off + len + m - 1) / m - first)).flatMap (fun i =>
    let k := first + i
    if k < r.rows * n then recordBytes r (k / n1) (r.puppets.getD (k % n1) 0) else [])).drop (off - first * m)).take len

/-- The records go to consecutive landing tiles; a tile the act does not declare ends them (R557). (DEDUCED, log entry 33.) -/
def State.sendRecords (u target : Nat) (r : RunSt) : Nat → State → Nat → Nat → State
  | 0, s, _, _ => s
  | fuel + 1, s, idx, off =>
    let total := r.rows * r.puppets.length * (64 * runRecUnits r.bytes)
    if total ≤ off then s
    else match s.landTile target idx with
      | none => s.landRequest ⟨target, idx, 0, recordSlice r off (min 64 (total - off)), true, true, true, .master (pupMid u)⟩
      | some c =>
        let n := min c.len (total - off)
        State.sendRecords u target r fuel
          (s.landRequest ⟨target, idx, 0, recordSlice r off n, true, true, true, .master (pupMid u)⟩) (idx + 1) (off + n)

/-- R240: after the last cue the records are written out. -/
def returnRecordsOp (s : State) (u : Nat) : State :=
  match (s.pup u).run with
  | some r =>
    s.guard (r.started && r.part == 3 && (s.pup u).cue.isNone && !r.written && !runNoRecords r.bytes) (fun s =>
      (State.sendRecords u (s.coreKey (runTarget r.bytes)) r 4096 s (runLanding r.bytes) 0).modRun u (fun x => { x with written := true }))
  | none => s

def execReturnRecords (u : Nat) (s : State) : Host.Outcome State Fault Refusal := whenUp s (fun s => returnRecordsOp s u)

/-- R241: a run ends and releases its claims. -/
def runEndOp (s : State) (u : Nat) : State :=
  match (s.pup u).run with
  | some r =>
    s.guard (r.started && r.part == 3 && (s.pup u).cue.isNone && (r.written || runNoRecords r.bytes)) (fun s =>
      (s.setPup u (fun t => { t with run := none, gap := none })).showPup u)
  | none => s

def execRunEnd (u : Nat) (s : State) : Host.Outcome State Fault Refusal := whenUp s (fun s => runEndOp s u)

/-- R248: a write of PUP_CTRL.halt. -/
def pupHaltOp (s : State) (u : Nat) (halt : Bool) : State :=
  s.guard (decide (u < 36) && s.chestUp (u / 9) && !s.chestInReset (u / 9)) (fun s =>
    (s.setF (R.PUP_CTRL.halt u) (if halt then 1 else 0)).showPup u)

def execPupHalt (u : Nat) (halt : Bool) (s : State) : Host.Outcome State Fault Refusal := whenUp s (fun s => pupHaltOp s u halt)

/-! ### Instructions (R228) -/

/-- The instruction executes when the running cue's program names it next, with its fields and its iteration.
(DEDUCED, log entry 31.) -/
def State.pupIssue (s : State) (u op : Nat) (f : PupF) (iter : Nat) (eff : PNext → State → Nat → State) : State :=
  match s.pupNext u with
  | some n => if n.op = op ∧ n.f = f ∧ n.run.iter = iter then s.pupAll u n (eff n) else s
  | none => s

/-- R228: NOP. -/
def execPNop (u : Nat) (f : PupF) (iter : Nat) (s : State) : Host.Outcome State Fault Refusal :=
  whenUp s (fun s => s.pupIssue u 0x00 f iter (fun _ s _ => s))

/-- R228, R230-R232: LDC. -/
def execPLdc (u : Nat) (f : PupF) (iter : Nat) (s : State) : Host.Outcome State Fault Refusal :=
  whenUp s (fun s => s.pupIssue u 0x01 f iter (fun n s j => s.pupLdc u j f n.cue))

/-- R228, R230, R231: STC. -/
def execPStc (u : Nat) (f : PupF) (iter : Nat) (s : State) : Host.Outcome State Fault Refusal :=
  whenUp s (fun s => s.pupIssue u 0x02 f iter (fun n s j => s.pupStc u j f n.cue))

/-- R228, R230-R232: CMUL. -/
def execPCmul (u : Nat) (f : PupF) (iter : Nat) (s : State) : Host.Outcome State Fault Refusal :=
  whenUp s (fun s => s.pupIssue u 0x03 f iter (fun n s j => s.pupCmul u j f n.cue))

/-- R228, R230-R232: CFMA. -/
def execPCfma (u : Nat) (f : PupF) (iter : Nat) (s : State) : Host.Outcome State Fault Refusal :=
  whenUp s (fun s => s.pupIssue u 0x04 f iter (fun n s j => s.pupCfma u j f n.cue))

/-- R228, R230-R232: CFMB. -/
def execPCfmb (u : Nat) (f : PupF) (iter : Nat) (s : State) : Host.Outcome State Fault Refusal :=
  whenUp s (fun s => s.pupIssue u 0x05 f iter (fun n s j => s.pupCfmb u j f iter n.cue))

/-- R228, R231, R232: LDS. -/
def execPLds (u : Nat) (f : PupF) (iter : Nat) (s : State) : Host.Outcome State Fault Refusal :=
  whenUp s (fun s => s.pupIssue u 0x06 f iter (fun n s j => s.pupLds u j f n.cue))

/-- R236: SACC. -/
def execPSacc (u : Nat) (f : PupF) (iter : Nat) (s : State) : Host.Outcome State Fault Refusal :=
  whenUp s (fun s => s.pupIssue u 0x07 f iter (fun n s j => s.pupSacc u j f n.cue))

/-- R228, R239: BCV. -/
def execPBcv (u : Nat) (f : PupF) (iter : Nat) (s : State) : Host.Outcome State Fault Refusal :=
  whenUp s (fun s => s.pupIssue u 0x08 f iter (fun _ s j => s.pupBcv u j f))

/-- R228: ADD. -/
def execPAdd (u : Nat) (f : PupF) (iter : Nat) (s : State) : Host.Outcome State Fault Refusal :=
  whenUp s (fun s => s.pupIssue u 0x09 f iter (fun _ s j => s.pupAdd u j f))

/-- R228: MUL. -/
def execPMul (u : Nat) (f : PupF) (iter : Nat) (s : State) : Host.Outcome State Fault Refusal :=
  whenUp s (fun s => s.pupIssue u 0x0A f iter (fun _ s j => s.pupMul u j f))

/-- R228: FMA. -/
def execPFma (u : Nat) (f : PupF) (iter : Nat) (s : State) : Host.Outcome State Fault Refusal :=
  whenUp s (fun s => s.pupIssue u 0x0B f iter (fun _ s j => s.pupFma u j f))

/-- R228: MAX. -/
def execPMax (u : Nat) (f : PupF) (iter : Nat) (s : State) : Host.Outcome State Fault Refusal :=
  whenUp s (fun s => s.pupIssue u 0x0C f iter (fun _ s j => s.pupMax u j f))

/-- R228: LIM. -/
def execPLim (u : Nat) (f : PupF) (iter : Nat) (s : State) : Host.Outcome State Fault Refusal :=
  whenUp s (fun s => s.pupIssue u 0x0D f iter (fun _ s j => s.pupLim u j f))

/-- R228, R229: RSUM. -/
def execPRsum (u : Nat) (f : PupF) (iter : Nat) (s : State) : Host.Outcome State Fault Refusal :=
  whenUp s (fun s => s.pupIssue u 0x0E f iter (fun _ s j => s.pupRsum u j f iter))

/-- R228, R229: RMAX. -/
def execPRmax (u : Nat) (f : PupF) (iter : Nat) (s : State) : Host.Outcome State Fault Refusal :=
  whenUp s (fun s => s.pupIssue u 0x0F f iter (fun _ s j => s.pupRmax u j f))

/-- R229: EXP2. -/
def execPExp2 (u : Nat) (f : PupF) (iter : Nat) (s : State) : Host.Outcome State Fault Refusal :=
  whenUp s (fun s => s.pupIssue u 0x10 f iter (fun _ s j => s.pupExp2 u j f))

/-- R229: EXP2R. -/
def execPExp2r (u : Nat) (f : PupF) (iter : Nat) (s : State) : Host.Outcome State Fault Refusal :=
  whenUp s (fun s => s.pupIssue u 0x11 f iter (fun _ s j => s.pupExp2r u j f))

/-- Table 8-5, R233: SOP. -/
def execPSop (u : Nat) (f : PupF) (iter : Nat) (s : State) : Host.Outcome State Fault Refusal :=
  whenUp s (fun s => s.pupIssue u 0x12 f iter (fun n s j => s.pupSop u j f (runArg n.run n.cue)))

/-- R240: PUTS. -/
def execPPuts (u : Nat) (f : PupF) (iter : Nat) (s : State) : Host.Outcome State Fault Refusal :=
  whenUp s (fun s => s.pupIssue u 0x13 f iter (fun _ s j => s.pupPuts u j f))

/-- R240: PUTV. -/
def execPPutv (u : Nat) (f : PupF) (iter : Nat) (s : State) : Host.Outcome State Fault Refusal :=
  whenUp s (fun s => s.pupIssue u 0x14 f iter (fun _ s j => s.pupPutv u j f))

/-- R228: END. -/
def execPEnd (u : Nat) (f : PupF) (iter : Nat) (s : State) : Host.Outcome State Fault Refusal :=
  whenUp s (fun s => match s.pupNext u with
    | some n => if n.op = 0x15 ∧ n.f = f ∧ n.run.iter = iter then s.pupEnd u n else s
    | none => s)

end Sys2Proof.Machine
end

