-- ==== Sys2Proof/Machine/Qos.lean ====
section
/-!
DEFINITION. Traffic classes, token buckets, levels, arbiters, commits and starvation (chapter 13).
-/

namespace Sys2Proof.Machine

open Sys2Proof

/-! ### Buckets (R379, R381, R386, R387) -/

/-- The class of the work item on a core: its tray entry's (R373); best effort where none runs. (DEDUCED, log entry 136.) -/
def State.workClass (s : State) (u : Nat) : Nat :=
  match (s.core u).work with
  | some w => ((s.journal.find? (fun (e : JEntry) => e.jid == w.jid)).map (fun e => fieldAt e.bytes 2 1 % 4)).getD 3
  | none => 3

/-- QOS_HOST_CLASS0 and 1: the class of a host function. -/
def State.hostClass (s : State) (f : Nat) : Nat :=
  if f < 16 then qosWord s.qos.active R.QOS_HOST_CLASS0 / 4 ^ f % 4 else qosWord s.qos.active R.QOS_HOST_CLASS1 % 4

/-- Table 13-2, for the unit at a master port (Table 13-3). -/
def State.unitClass (s : State) (m : Nat) : Nat :=
  let l := m % 64
  if l < 9 then s.workClass (m / 64 * 9 + l)
  else if l = 0x16 then 1
  else if l = 0x17 ∨ l = 0x18 then qosWord s.qos.active R.QOS_PORT_CLASS / 4 ^ (m / 64 * 2 + (l - 0x17)) % 4
  else if l = 0x19 then s.hostClass 0
  else match ccOfMid m with
    | some i => (s.cc i).reqclass
    | none => 3

/-- R373: the class of a request. -/
def State.classOf (s : State) (q : PortReq) : Nat :=
  match q.origin with
  | .unit => s.unitClass q.master
  | .host f => s.hostClass f
  | .copy jid => ((s.journal.find? (fun (e : JEntry) => e.jid == jid)).map (fun e => fieldAt e.bytes 2 1 % 4)).getD 3
  | .run (.core u) => s.workClass u
  | .run (.walker _ _) => 1
  | .run (.cc i) => (s.cc i).reqclass
  | .run .host => s.hostClass 0
  | .sched => 0

/-- R376: the entry a request uses: the first valid one, in index order, of its master, class and target. -/
def State.entryFor (s : State) (q : PortReq) : Option QEnt :=
  ((List.range 16).filterMap (fun i => qosEntry s.qos.active (q.master * 16 + i))).find? (fun e =>
    e.cls == s.classOf q && qosCovers e q.chest q.slice)

/-- R386, R387: the factor, × 256, that scales an entry's minimum at its port. -/
def State.entryFactor (s : State) (e : QEnt) : Nat :=
  if e.any then (List.range 36).foldl (fun m i => min m (s.portFactor (e.key / 16) i)) 256
  else s.portFactor (e.key / 16) (e.chest * 9 + e.slice)

/-- R379: both buckets of an entry refill up to now: r MB/s fills 64 r of 1/64,000 byte in a ns; a minimum fills at
m × f. (DEDUCED, log entry 69.) -/
def State.refill (s : State) (e : QEnt) : State :=
  let dt : Int := s.now - Tbl.get 0 s.qos.at_ e.key
  let down := fun (d rate : Int) => max 0 (d - rate * dt)
  { s with qos := { s.qos with
    at_ := Tbl.set 0 s.qos.at_ e.key s.now
    capDef := Tbl.modify 0 s.qos.capDef e.key (fun d => down d (64 * e.cap))
    minDef := Tbl.modify 0 s.qos.minDef e.key (fun d => down d (64 * 64 * e.param * s.entryFactor e / 256)) } }

/-- R379: does a bucket that is d below its full depth hold min(bytes, D), in whole steps of 1/64 byte?
(DEDUCED, log entry 69.) -/
def bucketHolds (depth bytes : Nat) (d : Int) : Bool := decide ((64 * min bytes depth : Int) ≤ 64 * depth - Int.ediv (d + 999) 1000)

def charge (t : Tbl Int) (k bytes : Nat) : Tbl Int := Tbl.modify 0 t k (fun d => d + 64000 * bytes)

/-- R382: the entry's measured latency after the responses that have arrived. -/
def State.takeSamples (s : State) (e : QEnt) (l : List Nat) : State :=
  { s with qos := { s.qos with lat := Tbl.modify 0 s.qos.lat e.key (fun a => l.foldl latencyStep a) } }

/-- R381, Table 13-4: the level of a request that leaves under an entry, and whether its minimum bucket is charged. -/
def State.levelOf (s : State) (e : QEnt) (bytes : Nat) : Nat × Bool :=
  if e.cls = 0 then (6, false)
  else if e.cls = 1 then (1 + urgency (Tbl.get 0 s.qos.lat e.key) e.param, false)
  else if e.cls = 2 then (if bucketHolds e.depth bytes (Tbl.get 0 s.qos.minDef e.key) then (5, true) else (1, false))
  else (0, false)

/-- A request leaves under its entry: tokens are charged, the level stamped. -/
def State.leaveUnder (s : State) (q : PortReq) (e : QEnt) : State :=
  let lv := s.levelOf e q.bytes
  let s1 : State := { s with qos := { s.qos with
    capDef := if e.cap = 0 then s.qos.capDef else charge s.qos.capDef e.key q.bytes
    minDef := if lv.2 then charge s.qos.minDef e.key q.bytes else s.qos.minDef } }
  s1.emit (.stamped q (s.classOf q) lv.1)

/-- The same request at its port, whatever responses came meanwhile. -/
def sameReq (q r : PortReq) : Bool := { q with samples := [] } == { r with samples := [] }

/-- R380: the requests that were issued before q at its port. -/
def State.issuedBefore (s : State) (q : PortReq) : List PortReq := (Tbl.get [] s.qos.held q.master).takeWhile (fun r => !sameReq q r)

/-- q no longer waits. -/
def State.unhold (s : State) (q : PortReq) : State :=
  { s with qos := { s.qos with held := Tbl.modify [] s.qos.held q.master (fun l => l.eraseP (sameReq q)) } }

/-- q waits at its port, in its place. -/
def State.holdReq (s : State) (q : PortReq) : State :=
  if (Tbl.get [] s.qos.held q.master).any (sameReq q) then s
  else { s with qos := { s.qos with held := Tbl.modify [] s.qos.held q.master (· ++ [{ q with samples := [] }]) } }

/-- R376-R381: a request at its master port leaves, or is held by its cap bucket or by an earlier one of its entry.
(DEDUCED, log entry 72.) -/
def requestLeaveOp (s : State) (q : PortReq) : State :=
  s.guard (decide (q.master < 256) && decide (q.chest < 4) && decide (q.slice < 9)) (fun s =>
    match s.entryFor q with
    | none => ((if s.classOf q = 3 then s else s.incSat R.QOS_UNMATCHED.count 1).unhold q).emit (.stamped q (s.classOf q) 0)
    | some e =>
      let s1 := (s.refill e).takeSamples e q.samples
      if (e.cap = 0 || bucketHolds e.depth q.bytes (Tbl.get 0 s1.qos.capDef e.key)) &&
          !(s.issuedBefore q).any (fun r => s.entryFor r == some e) then (s1.unhold q).leaveUnder q e
      else s1.holdReq q)

def execRequestLeave (q : PortReq) (s : State) : Host.Outcome State Fault Refusal := whenUp s (fun s => requestLeaveOp s q)

/-- R386: the factor of slice chest * 9 + logical slice reaches a master port; until now its buckets filled at the old one. -/
def scaleArriveOp (s : State) (master slice : Nat) : State :=
  s.guard (decide (master < 256) && decide (slice < 36)) (fun s =>
    let es := ((List.range 16).filterMap (fun i => qosEntry s.qos.active (master * 16 + i))).filter (fun e => e.cls == 2)
    let s1 := s.each es (fun s' e => s'.refill e)
    { s1 with qos := { s1.qos with arrived := Tbl.set 256 s1.qos.arrived (master * 64 + slice) (s1.getF (R.QOS_SHORT.factor slice)) } })

def execScaleFactorArrive (master slice : Nat) (s : State) : Host.Outcome State Fault Refusal :=
  whenUp s (fun s => scaleArriveOp s master slice)

/-! ### Arbiters (R388, R389, R392) -/

/-- R392: the inputs that were ready and did not win have waited on; the winner's count restarts. -/
def State.countWaits (s : State) (a : ArbReq) (win : Nat) : State :=
  let k := fun (i : Nat) => arbKey a * 64 + i
  let waits := a.ready.foldl (fun t r => if r.1 = win then Tbl.set (0, 0, 0) t (k r.1) (0, 0, 0)
    else Tbl.modify (0, 0, 0) t (k r.1) (fun w => (w.1 + a.waited, r.2.1, r.2.2))) s.qos.waits
  { s with qos := { s.qos with waits := waits, episode := Tbl.set false s.qos.episode (k win) false } }

/-- R388, R389: the arbiter decides when its resource is free or at a break point. (DESIGN CHOICE, log entry 71.) -/
def arbiterGrantOp (s : State) (a : ArbReq) : State :=
  s.guard (decide (a.kind < 3) && decide (a.chest < 4) && decide (a.pos < 16) && decide (a.res < 64) && a.free &&
    a.ready.all (fun r => decide (r.1 < 64) && decide (r.2.1 < 7))) (fun s =>
    match s.winner a with
    | none => s
    | some w =>
      let s1 := s.countWaits a w.1
      (s1.noteGrant a w).emit (.granted (arbKey a) w.1))

def execArbiterGrant (a : ArbReq) (s : State) : Host.Outcome State Fault Refusal := whenUp s (fun s => arbiterGrantOp s a)

/-- R392: an input's wait has passed QOS_STARVE_LIMIT; reported once per episode. -/
def starvationOp (s : State) (arb input : Nat) : State :=
  let w := Tbl.get (0, 0, 0) s.qos.waits (arb * 64 + input)
  let limit := max 1 (s.getF R.QOS_STARVE_LIMIT.limit)
  s.guard (decide (limit < w.1) && !Tbl.get false s.qos.episode (arb * 64 + input)) (fun s =>
    let s1 : State := { s with qos := { s.qos with episode := Tbl.set false s.qos.episode (arb * 64 + input) true } }
    let s2 := (((s1.setF R.QOS_STARVE_WHO.level w.2.1).setF R.QOS_STARVE_WHO.kind (arb / 4096)).setF R.QOS_STARVE_WHO.chest (arb / 1024)).setF
      R.QOS_STARVE_WHO.position (arb / 64)
    (s2.setF R.QOS_STARVE_WHO.master w.2.2).flagC R.QOS_FLAGS.starvation 4)

def execStarvation (arb input : Nat) (s : State) : Host.Outcome State Fault Refusal := whenUp s (fun s => starvationOp s arb input)

/-! ### Commit (R390) -/

/-- The shadow values: every RWS register of the block. -/
def State.qosShadow (s : State) : Tbl Word32 :=
  Tbl.keep s.regs (fun k => (decide (0x710000 ≤ k) && decide (k < 0x718000)) || k == R.QOS_HOST_CLASS0 || k == R.QOS_HOST_CLASS1 ||
    k == R.QOS_PORT_CLASS)

/-- R383, Table 13-7: why a set of values is refused; 0 when it is not. The floor is checked for the slices that the acts
of the layout in force use. (DEDUCED, log entry 70.) -/
def State.qosRefused (s : State) (t : Tbl Word32) : Nat :=
  let es := qosEntries t
  let floorBad := match s.lay.force with
    | some i => (actList i).any (fun a => !(s.floorExceeded es i a s.cueShare).isEmpty)
    | none => false
  if floorBad then 1 else if qosDuplicate es then 2 else if qosMinAboveCap es then 3 else if qosL0NoCap es then 4 else 0

/-- R390: a write of QOS_COMMIT. (DEDUCED, log entry 70.) -/
def qosCommitOp (s : State) (v : Nat) : State :=
  s.guard (bit v 0) (fun s =>
    let t := s.qosShadow
    let c := s.qosRefused t
    if c ≠ 0 then (s.setF R.QOS_STATUS.refuse_code c).flag R.QOS_FLAGS.commit_refused
    else if s.defers then ({ s with qos := { s.qos with pend := some t } } : State).setF R.QOS_STATUS.pending 1
    else s.qosApply t)

def execQosCommit (v : Nat) (s : State) : Host.Outcome State Fault Refusal := whenUp s (fun s => qosCommitOp s v)

end Sys2Proof.Machine
end

