-- ==== Sys2Proof/Machine/Reset.lean ====
section
/-!
DEFINITION. Partial resets and failed cores (R448-R459), and the failure of a plinth floor (R32).
-/

namespace Sys2Proof.Machine

open Sys2Proof

/-! ### Requests through GLB_RESET_CTRL (R450, R452, R453) -/

/-- Why a request is refused (Table 16-14): 1 busy, 2 level 0x3, 3 target out of range, 4 a load runs.
(DEDUCED, log entry 46.) -/
def State.resetRefusal (s : State) (level target : Nat) : Nat :=
  if level = 3 then 2
  else if (level = 0 ∧ 8 < target) ∨ (level = 1 ∧ 2 < target) then 3
  else if s.isSet R.GLB_RESET_STATUS.busy then 1
  else if s.loading then 4
  else 0

/-- A write of GLB_RESET_CTRL: its fields, and a reset of the level a row names, or the refusal. (DEDUCED, log entry 46.) -/
def State.resetWrite (s : State) (v level : Nat) : State :=
  let s1 := (((s.setF R.GLB_RESET_CTRL.secure_erase (bits v 10 10)).setF R.GLB_RESET_CTRL.target (bits v 7 4)).setF
    R.GLB_RESET_CTRL.chest (bits v 3 2)).setF R.GLB_RESET_CTRL.level (bits v 1 0)
  if !bit v 8 || bits v 1 0 != level then s1
  else
    let why := s1.resetRefusal level (bits v 7 4)
    if why ≠ 0 then s1.setF R.GLB_RESET_STATUS.refuse_code why
    else if s1.chestUp (bits v 3 2) then s1.resetBegin level (bits v 3 2) (bits v 7 4)
    else s1

/-- R450: a core reset. -/
def execResetCore (v : Nat) (s : State) : Host.Outcome State Fault Refusal := whenUp s (fun s => s.resetWrite v 0)

/-- R450: a cluster reset. -/
def execResetCluster (v : Nat) (s : State) : Host.Outcome State Fault Refusal := whenUp s (fun s => s.resetWrite v 1)

/-- R452: a partition reset. -/
def execResetPartition (v : Nat) (s : State) : Host.Outcome State Fault Refusal := whenUp s (fun s => s.resetWrite v 2)

/-- R459, Table 16-14: level 0x3 is refused. -/
def execResetLevelRefused (v : Nat) (s : State) : Host.Outcome State Fault Refusal := whenUp s (fun s => s.resetWrite v 3)

/-! ### Started by hardware (R448) -/

/-- An uncorrectable error in core-island state resets the core, one in the die network or the cache tags the chest. -/
def unitResetOp (s : State) (level chest target : Nat) : State :=
  s.guard ((level == 0 && decide (target < 9) || level == 2) && decide (chest < 4) && s.chestUp chest) (fun s =>
    s.resetBegin level chest target)

def execUnitUncorrectableReset (level chest target : Nat) (s : State) : Host.Outcome State Fault Refusal :=
  whenUp s (fun s => unitResetOp s level chest target)

/-- R450, R452: the end of a reset that runs; bit p of `badCores`: physical core p fails its reset-exit check. -/
def resetEndOp (s : State) (level chest target badCores : Nat) : State :=
  match s.rst.running.find? (fun r => r.level == level && r.chest == chest && (level == 2 || r.target == target)) with
  | some r => s.resetEnd r badCores
  | none => s

def execPartialResetEnd (level chest target badCores : Nat) (s : State) : Host.Outcome State Fault Refusal :=
  whenUp s (fun s => resetEndOp s level chest target badCores)

/-- R455: an island regulator reports a fault; the chest control core declares the core failed. -/
def regulatorFaultOp (s : State) (u : Nat) : State :=
  s.guard (decide (u < 36) && s.chestUp (u / 9) && s.ccRuns (1 + u / 9)) (fun s => s.declareFailed u)

def execIslandRegulatorFault (u : Nat) (s : State) : Host.Outcome State Fault Refusal := whenUp s (fun s => regulatorFaultOp s u)

/-! ### A plinth floor fails (R32) -/

/-- The floor domain of plinth c fails: its chest and both its edges go; without plinth 0 the part gives no service. -/
def floorFailureOp (s : State) (c : Nat) : State :=
  s.guard (decide (c < 4) && s.floorOk c) (fun s =>
    let s1 := { s with boot := { s.boot with floorLost := setBit s.boot.floorLost c true } }
    let sides := [c * 2, c * 2 + 1, peerSide (c * 2), peerSide (c * 2 + 1)]
    let s2 := s1.each (sides.filter (fun k => s1.getF (R.LNK_S_STATUS.state k) != 4)) (fun s' k => s'.sideTakes k 1)
    let s3 := (s2.chestLost c).updateRoutes.updateService
    if c = 0 then { s3 with up := false } else s3)

def execPlinthFloorFailure (c : Nat) (s : State) : Host.Outcome State Fault Refusal := whenUp s (fun s => floorFailureOp s c)

end Sys2Proof.Machine
end

