-- ==== Sys2Proof/Machine/ParkOps.lean ====
section
/-!
DEFINITION. A park: its tests in order and the record it writes (R504-R514).
-/

namespace Sys2Proof.Machine

open Sys2Proof

/-- Table 19-2. -/
def State.suppliesOk (s : State) (x : Supplies) : Bool :=
  decide (1764 ≤ x.vin) && decide (x.vin ≤ 1836) && decide (1164 ≤ x.vio) && decide (x.vio ≤ 1236) && decide (873 ≤ x.vaon) &&
  decide (x.vaon ≤ 927) && decide (x.refPpm ≤ 300) && decide (x.frefPpm ≤ 100) &&
  (s.isSet R.THM_COOLANT.stale || decide (s.getF R.THM_COOLANT.inlet ≤ 450))

/-- Key of an outcome. -/
def parkKey (x : Nat × Nat) : Nat := x.1 * 4 + x.2

/-- The kinds a park runs (BST_CTRL.select). -/
def State.parkKinds (s : State) : List Nat := [1, 2].filter (fun k => s.getBit R.BST_CTRL.select (k - 1))

/-- Was a kind run on every tested chest, and passed? -/
def State.parkRan (s : State) (chests : List Nat) (k : Nat) : Bool :=
  s.parkKinds.contains k && chests.all (fun c => let o := Tbl.get 0 s.park.outcomes (parkKey (c, k)); o == 1 || o == 2)
def State.parkPassed (s : State) (chests : List Nat) (k : Nat) : Bool :=
  s.parkKinds.contains k && chests.all (fun c => Tbl.get 0 s.park.outcomes (parkKey (c, k)) == 1)

/-- R511: the trained section. -/
def State.trainedBytes (s : State) : List Byte :=
  (List.range 4).flatMap (fun c => (List.range 81).flatMap (fun i =>
    let key := c * 81 + i
    let b := if s.park.parkTrained.contains key then (s.park.acceptedTrained.drop (key * 2048)).take 2048
      else Config.trainedValues key s.park.trainedEpoch
    (b ++ List.replicate 2048 0).take 2048))

/-- R511: the results section: 1 KiB per chest; per kind the outcome and the count of failing items. -/
def State.resultBytes (s : State) : List Byte :=
  (List.range 4).flatMap (fun c =>
    (([1, 2].flatMap (fun k => leBytes 4 (Tbl.get 0 s.park.outcomes (parkKey (c, k))) ++ leBytes 4 (Tbl.get 0 s.park.counts (parkKey (c, k))))) ++
      List.replicate 1024 0).take 1024)

def pad64 (b : List Byte) : List Byte := b ++ List.replicate ((64 - b.length % 64) % 64) 0

/-- R511, R513: the record. -/
def State.parkRecord (s : State) (chests : List Nat) : List Byte :=
  let defects := pad64 (s.park.frozen.flatMap (leBytes 8))
  let n := s.park.frozen.length
  let tOff := 256 + defects.length
  let rOff := tOff + 663552
  let len := rOff + 4096 + 64
  let kinds := (if s.parkRan chests 1 then 1 else 0) + (if s.parkRan chests 2 then 2 else 0) +
    (if s.parkPassed chests 1 then 4 else 0) + (if s.parkPassed chests 2 then 8 else 0)
  let head := leBytes 8 parkMagic ++ leBytes 2 1 ++ leBytes 2 kinds ++ leBytes 4 len ++ leBytes 8 s.fuse.serial ++
    leBytes 4 s.fuse.version ++ leBytes 4 (if s.park.accepted.isSome then s.park.acceptedCount + 1 else 0) ++
    leBytes 32 s.challenge.toNat ++ leBytes 64 (match s.park.accepted with | some d => d.toNat | none => 0) ++
    leBytes 8 s.park.parkTime ++ leBytes 4 256 ++ leBytes 4 n ++ leBytes 4 tOff ++ leBytes 4 663552 ++ leBytes 4 rOff ++
    leBytes 4 4096 ++ List.replicate 96 0
  let body := head ++ defects ++ s.trainedBytes ++ s.resultBytes
  body ++ deviceSign body

/-- R507, steps 4 and 5: the record is assembled, signed and written, or lost with its host write (R510). -/
def State.parkFinish (s : State) (lost : Bool) : State :=
  let chests := (List.range 4).filter (fun c => s.getBit R.GLB_BOOT_CTRL.chests c && s.chestUp c)
  let rec_ := s.parkRecord chests
  let s1 := (s.setF R.BST_STATUS.kind 0)
  if lost then s1.setF R.BST_STATUS.state 4
  else
    (((s1.emit (.hostWrite (s.getPair R.BST_DST_LO) rec_)).setF R.BST_REC_LEN.units (rec_.length / 64)).setF R.BST_STATUS.state 3).raise 1

/-- The drawers of the chests that are not under test refresh themselves (R508); those that leave self-refresh owe no refresh
(R203). -/
def State.parkDrawers (s : State) (c : Nat) : State :=
  s.each ((List.range 36).filter (fun u => s.chestUp (u / 9))) (fun s' u => s'.setSlice u (fun t =>
    { t with selfRefresh := u / 9 != c, owed := if u / 9 = c then [] else t.owed }))

/-- The next kind begins, or the park ends. -/
def State.parkNext (s : State) (lost : Bool) : State :=
  match s.park.todo with
  | [] => ({ s with park := { s.park with current := none } }).parkFinish lost
  | x :: rest =>
    (((({ s with park := { s.park with current := some x, todo := rest } }).parkDrawers x.1).setF R.BST_STATUS.state 1).setF
      R.BST_STATUS.chest x.1).setF R.BST_STATUS.kind x.2

/-- R506: the code with which a park is refused; 0 accepted. -/
def State.parkRefusal (s : State) (x : Supplies) : Nat :=
  if s.layState ≠ 0 ∨ s.anyOutstanding = true ∨ s.park.current.isSome = true then 1
  else if s.stepState 4 < 2 then 2
  else if s.getF R.BST_CTRL.select = 0 then 3
  else if !s.suppliesOk x then 4
  else if s.getW R.BST_DST_LO % 64 ≠ 0 then 5
  else 0

/-- R507, steps 1 to 3: an accepted park. (DEDUCED, log entry 99.) -/
def State.parkBegins (s : State) : State :=
  let chests := (List.range 4).filter (fun c => s.getBit R.GLB_BOOT_CTRL.chests c && s.chestUp c)
  let s1 := { s with
    memLost := s.fresh + 1, fresh := s.fresh + 1, mem := [], bad := [], lines := []
    park := { s.park with
      off := true, todo := chests.flatMap (fun c => s.parkKinds.map (fun k => (c, k))), outcomes := [], counts := []
      frozen := s.park.bootDefects ++ s.park.runDefects, parkTime := s.stamp.1 } }
  ((s1.setF R.BST_STATUS.refuse_code 0).setW R.BST_RESULT 0).updateService.parkNext false

/-- A kind of the chest under test ends with an outcome and a count of failing items. -/
def State.parkKindEnds (s : State) (outcome fails : Nat) (found : List Nat) (lost : Bool) : State :=
  match s.park.current with
  | none => s
  | some x =>
    let s1 := { s with park := { s.park with
      outcomes := Tbl.set 0 s.park.outcomes (parkKey x) outcome, counts := Tbl.set 0 s.park.counts (parkKey x) (fails % 2 ^ 32)
      frozen := s.park.frozen ++ (found.filter (fun d => !s.park.frozen.contains d)).eraseDups } }
    let s2 := s1.setOutcome x.1 x.2 outcome
    (if outcome = 2 then s2.flag R.BST_FLAGS.item_fail else s2).parkNext lost

end Sys2Proof.Machine
end

