-- ==== Sys2Proof/Machine/Security.lean ====
section
/-!
DEFINITION. Tokens, owner keys and debug (R522-R529), the SPDM responder and IDE keys (R520, R532-R534).
-/

namespace Sys2Proof.Machine

open Sys2Proof

/-! ### Tokens (R522-R525) -/

/-- The token in SEC_TOKEN0-47. (DEDUCED, log entry 77.) -/
def State.token (s : State) : List Byte := (List.range 48).flatMap (fun w => leBytes 4 (s.getW (R.SEC_TOKEN w)))

/-- "DSKTOKE4". -/
def tokMagic : Nat := leNat ([0x44, 0x53, 0x4B, 0x54, 0x4F, 0x4B, 0x45, 0x34].map (BitVec.ofNat 8))

def tokKind (b : List Byte) : Nat := fieldAt b 8 1
def tokSlot (b : List Byte) : Nat := fieldAt b 9 1
def tokSigner (b : List Byte) : Nat := fieldAt b 0xA 1
def tokScope (b : List Byte) : Nat := fieldAt b 0xB 1

/-- Does the token carry the magic and a kind of Table 20-2? -/
def tokKnown (b : List Byte) : Bool := fieldAt b 0 8 == tokMagic && decide (1 ≤ tokKind b) && decide (tokKind b ≤ 3)

/-- Table 20-3, check 2. -/
def tokFormatOk (b : List Byte) : Bool :=
  tokKnown b && fieldAt b 0xC 4 == 0 && fieldAt b 0x38 8 == 0 && fieldAt b 0x60 32 == 0 &&
  (if tokKind b = 3 then tokSlot b == 0 && decide (tokScope b < 4)
   else decide (1 ≤ tokSlot b) && decide (tokSlot b ≤ 4) && tokScope b == 0)

/-- R524, R527: may the signer sign the kind? -/
def State.signerAllowed (s : State) (b : List Byte) : Bool :=
  if tokKind b = 3 then ([1, 2, 3, 4].any (fun k => s.ownerState k == 1)) == (tokSigner b != 0) else true

/-- Table 20-3: the first check that fails, or 0. -/
def State.tokenRefusal (s : State) (b : List Byte) (supplies : Bool) : Nat :=
  if s.isSet R.SEC_STATUS.busy then 1
  else if !tokFormatOk b then 2
  else if !(match s.signerKey (tokSigner b) with | some k => edOk k (b.take 0x80) (b.drop 0x80) | none => false) then 3
  else if fieldAt b 0x10 8 ≠ s.fuse.serial ∨ (tokKind b = 3 ∧ fieldAt b 0x18 32 ≠ s.challenge.toNat) then 4
  else if !s.signerAllowed b then 5
  else if (tokKind b = 1 ∧ s.ownerState (tokSlot b) ≠ 0) ∨ (tokKind b = 2 ∧ s.ownerState (tokSlot b) ≠ 1) then 6
  else if tokKind b = 3 then
    (if bit (tokScope b) 1 && (s.layState != 0 || s.anyOutstanding) then 7 else 0)
  else if !supplies || s.isSet R.THM_STATUS.paused then 7
  else 0

/-- R523: a refused token changes only its code and flag. -/
def State.refuseToken (s : State) (code : Nat) : State := (s.setF R.SEC_STATUS.refuse_code code).flag R.SEC_FLAGS.refused

/-- A submission of a token of one kind: its checks, then its effect. (DEDUCED, log entry 77.) -/
def State.submitToken (s : State) (kind : Nat) (supplies : Bool) (eff : State → List Byte → State) : State :=
  let b := s.token
  if tokKnown b = false ∨ tokKind b ≠ kind then s
  else
    let why := s.tokenRefusal b supplies
    if why ≠ 0 then s.refuseToken why else eff (s.setF R.SEC_STATUS.refuse_code 0) b

/-- R525: fuses of a slot begin to burn. -/
def State.startBurn (s : State) (b : List Byte) : State :=
  ({ s with sec := { s.sec with burn := some (tokKind b, tokSlot b, BitVec.ofNat 256 (fieldAt b 0x40 32)) } }).setF R.SEC_STATUS.busy 1

def execTokenRegisterOwnerKey (x : Supplies) (s : State) : Host.Outcome State Fault Refusal :=
  whenUp s (fun s => s.submitToken 1 (s.suppliesOk x) State.startBurn)

def execTokenRevokeOwnerKey (x : Supplies) (s : State) : Host.Outcome State Fault Refusal :=
  whenUp s (fun s => s.submitToken 2 (s.suppliesOk x) State.startBurn)

/-- R527, R528: the scopes of a debug token; invasive debug opens after its zeroing. -/
def State.openDebug (s : State) (b : List Byte) : State :=
  let s1 := if bit (tokScope b) 0 then (s.setF R.SEC_STATUS.non_invasive 1).flag R.SEC_FLAGS.debug_opened else s
  if bit (tokScope b) 1 then ({ s1 with sec := { s1.sec with zeroing := true } }).setF R.SEC_STATUS.busy 1 else s1

def execTokenDebugUnlock (s : State) : Host.Outcome State Fault Refusal :=
  whenUp s (fun s => s.submitToken 3 true State.openDebug)

/-- R523, Table 20-3: a token of no known magic and kind. -/
def tokenRefusedKindOp (s : State) : State :=
  if tokKnown s.token then s else s.refuseToken (if s.isSet R.SEC_STATUS.busy then 1 else 2)

def execTokenRefusedKind (s : State) : Host.Outcome State Fault Refusal := whenUp s tokenRefusedKindOp

/-- R525: the burn ends; `ok`: the read-back matches. -/
def fuseBurnEndOp (s : State) (ok : Bool) : State :=
  match s.sec.burn with
  | none => s
  | some (kind, slot, key) =>
    let st := if !ok then 3 else kind
    let s1 := { s with
      sec := { s.sec with burn := none }
      fuse := { s.fuse with
        ownerState := Tbl.set 0 s.fuse.ownerState slot st
        ownerKey := if ok && kind == 1 then Tbl.set 0 s.fuse.ownerKey slot key else s.fuse.ownerKey } }
    let s2 := (s1.setF R.SEC_STATUS.busy 0).flag R.SEC_FLAGS.fuse_written
    if ok then s2 else s2.setF R.SEC_STATUS.refuse_code 8

def execFuseBurnEnd (ok : Bool) (s : State) : Host.Outcome State Fault Refusal := whenUp s (fun s => fuseBurnEndOp s ok)

/-- R528: slices, tile stores, sideboard cache with its exact reduction slots, and journal are zero; invasive debug opens. -/
def debugZeroEndOp (s : State) : State :=
  s.guard s.sec.zeroing (fun s =>
    let s1 := { s with
      mem := [], bad := [], memLost := 0, lines := [], journal := [], slots := (s.slots.map (fun (e : Nat × Slot) => (e.1, slotCleared e.2))).filter (fun e => e.2 != Slot.zero)
      sec := { s.sec with zeroing := false }
      cores := s.cores.map (fun (e : Nat × CoreSt) => (e.1, { e.2 with tile := [], tileLost := 0 })) }
    ((s1.setF R.SEC_STATUS.busy 0).setF R.SEC_STATUS.invasive 1).flag R.SEC_FLAGS.debug_opened)

def execDebugZeroEnd (s : State) : Host.Outcome State Fault Refusal := whenUp s debugZeroEndOp

/-! ### JTAG (R529) -/

/-- An instruction reaches the port, which runs on VIO; the data register it selects is captured: 0 bypass, 1 IDCODE,
2 boundary, 3 a private one. (DEDUCED, log entry 78.) -/
def State.jtagSelect (s : State) (j : Jtag) : State :=
  if !s.pins.vio then s
  else
    let s1 := { s with jtag := j }
    match j with
    | .bypass | .clamp => s1.emit (.jtag 0 0)
    | .idcode => s1.emit (.jtag 1 s.fuse.idcode)
    | .sample | .extest => s1.tick.emit (.jtag 2 (Config.freeBits (s.fresh + 1) 4096).toNat)
    | .priv _ => s1.tick.emit (.jtag 3 (Config.freeBits (s.fresh + 1) 4096).toNat)

def execJtagBypass (s : State) : Host.Outcome State Fault Refusal := always s (fun s => s.jtagSelect .bypass)

def execJtagIdcode (s : State) : Host.Outcome State Fault Refusal := always s (fun s => s.jtagSelect .idcode)

def execJtagSamplePreload (s : State) : Host.Outcome State Fault Refusal := always s (fun s => s.jtagSelect .sample)

/-- Accepted only while PERST_N is asserted; otherwise BYPASS. -/
def execJtagExtest (s : State) : Host.Outcome State Fault Refusal := always s (fun s => s.jtagSelect (if s.pins.perstN then .bypass else .extest))

/-- Accepted only while PERST_N is asserted; otherwise BYPASS. -/
def execJtagClamp (s : State) : Host.Outcome State Fault Refusal := always s (fun s => s.jtagSelect (if s.pins.perstN then .bypass else .clamp))

/-- Every other instruction: BYPASS until invasive debug is open (R528). -/
def execJtagPrivate (ir : Nat) (s : State) : Host.Outcome State Fault Refusal :=
  always s (fun s => s.jtagSelect (if s.up && s.isSet R.SEC_STATUS.invasive then .priv ir else .bypass))

/-! ### SPDM (R532) -/

/-- A response: SPDM 1.2 header and body. (PRESUMED, log entry 73.) -/
def State.spdmRsp (s : State) (code p1 p2 : Nat) (body : List Byte) : State :=
  s.emit (.spdm code ([0x12, BitVec.ofNat 8 code, BitVec.ofNat 8 p1, BitVec.ofNat 8 p2] ++ body))

/-- ERROR of DSP0274: 0x01 InvalidRequest, 0x02 InvalidSession, 0x04 UnexpectedRequest, 0x06 DecryptError,
0x07 UnsupportedRequest, 0x0A SessionLimitExceeded. (PRESUMED, log entry 73.) -/
def State.spdmError (s : State) (err data : Nat) : State := s.spdmRsp 0x7F err data []

/-- The part of a response that DSP0274 gives and the spec does not spell out; the counter advances. -/
def State.spdmOpen (s : State) (code p1 p2 : Nat) (before after : List Byte) : State :=
  s.tick.spdmRsp code p1 p2 (before ++ Config.spdmBody code (s.fresh + 1) ++ after)

/-- The same with a signature of the device key over what the requester sent and the response so far. -/
def State.spdmSigned (s : State) (code p1 p2 : Nat) (nonce before : List Byte) : State :=
  let body := before ++ Config.spdmBody code (s.fresh + 1)
  s.tick.spdmRsp code p1 p2 (body ++ deviceSign (nonce ++ body))

/-- A request that needs the connection of DSP0274 to have come to a stage. (PRESUMED, log entry 75.) -/
def State.spdmAt (s : State) (stage : Nat) (f : State → State) : State := if stage ≤ s.sec.conn then f s else s.spdmError 4 0

def State.setConn (s : State) (n : Nat) : State := { s with sec := { s.sec with conn := n } }

/-- GET_VERSION: version 1.2. -/
def getVersionOp (s : State) : State := (s.setConn 1).emit (.spdm 4 [0x10, 4, 0, 0, 0, 1, 0x00, 0x12])

def execGetVersion (s : State) : Host.Outcome State Fault Refusal := whenUp s getVersionOp

def execGetCapabilities (s : State) : Host.Outcome State Fault Refusal :=
  whenUp s (fun s => s.spdmAt 1 (fun s => (s.setConn 2).spdmOpen 0x61 0 0 [] []))

/-- NEGOTIATE_ALGORITHMS: `common`: the requester offers the part's algorithms. -/
def execNegotiateAlgorithms (common : Bool) (s : State) : Host.Outcome State Fault Refusal :=
  whenUp s (fun s => s.spdmAt 2 (fun s => if common then (s.setConn 3).spdmOpen 0x63 0 0 [] [] else s.spdmError 1 0))

/-- GET_DIGESTS: slot 0 holds the chain; slots 1-7 are empty. -/
def execGetDigests (s : State) : Host.Outcome State Fault Refusal :=
  whenUp s (fun s => s.spdmAt 3 (fun s => s.spdmRsp 1 0 1 (digestBytes Config.certChain)))

/-- GET_CERTIFICATE (R520): a portion of the chain of slot 0. -/
def getCertificateOp (s : State) (slot offset length : Nat) : State :=
  s.spdmAt 3 (fun s =>
    let total := Config.certChain.length
    if slot ≠ 0 ∨ total < offset then s.spdmError 1 0
    else
      let part := (Config.certChain.drop offset).take length
      s.spdmRsp 2 0 0 (leBytes 2 part.length ++ leBytes 2 (total - offset - part.length) ++ part))

def execGetCertificate (slot offset length : Nat) (s : State) : Host.Outcome State Fault Refusal :=
  whenUp s (fun s => getCertificateOp s slot offset length)

/-- CHALLENGE: the digest of the chain, and the device key's signature. -/
def execChallenge (slot : Nat) (nonce : List Byte) (s : State) : Host.Outcome State Fault Refusal :=
  whenUp s (fun s => s.spdmAt 3 (fun s =>
    if slot = 0 then s.spdmSigned 3 0 1 nonce (digestBytes Config.certChain) else s.spdmError 1 0))

/-! ### Measurements (R533) -/

/-- Table 20-7, index 3: what the digest covers. -/
def State.measuredIdentity (s : State) : List Byte :=
  leBytes 4 s.fuse.version ++ leBytes 8 s.fuse.serial ++ leBytes 1 s.ownerSlots ++
  [1, 2, 3, 4].flatMap (fun k => leBytes 32 (Tbl.get 0 s.fuse.ownerKey k).toNat) ++ leBytes 1 (s.getF R.GLB_BEHAVIOUR.level) ++
  leBytes 1 (s.getF R.SEC_STATUS.non_invasive + 2 * s.getF R.SEC_STATUS.invasive)

/-- The digest of measurement block 1-6. -/
def State.measurement (s : State) (i : Nat) : List Byte :=
  match i with
  | 1 => digestBytes Config.bootRom
  | 2 => leBytes 64 s.sec.fwDigest.toNat
  | 3 => digestBytes s.measuredIdentity
  | 4 => digestBytes s.boot.licences.flatten
  | 5 => (match s.lay.force with | some l => digestBytes (leBytes 64 l.digest.toNat ++ leBytes 8 (imgId l)) | none => List.replicate 64 0)
  | _ => leBytes 64 (match s.park.accepted with | some d => d.toNat | none => 0)

/-- A block in DMTF measurement format: index, format, size, value type (0 ROM, 1 firmware, 2 hardware configuration,
3 firmware configuration), value size, value. (PRESUMED, log entry 76.) -/
def State.measurementBlock (s : State) (i : Nat) : List Byte :=
  leBytes 1 i ++ leBytes 1 1 ++ leBytes 2 67 ++ leBytes 1 ([0, 0, 1, 2, 3, 3, 3].getD i 3) ++ leBytes 2 64 ++ s.measurement i

/-- GET_MEASUREMENTS: index 0 asks for the number of blocks, 0xFF for all. -/
def getMeasurementsOp (s : State) (index : Nat) (signed_ : Bool) (nonce : List Byte) : State :=
  s.spdmAt 3 (fun s =>
    if 6 < index ∧ index ≠ 0xFF then s.spdmError 1 0
    else
      let is := if index = 0 then [] else if index = 0xFF then [1, 2, 3, 4, 5, 6] else [index]
      let rec_ := is.flatMap s.measurementBlock
      let body := leBytes 1 is.length ++ leBytes 3 rec_.length ++ rec_
      let p1 := if index = 0 then 6 else 0
      if signed_ then s.spdmSigned 0x60 p1 0 nonce body else s.spdmOpen 0x60 p1 0 body [])

def execGetMeasurements (index : Nat) (signed_ : Bool) (nonce : List Byte) (s : State) : Host.Outcome State Fault Refusal :=
  whenUp s (fun s => getMeasurementsOp s index signed_ nonce)

/-! ### Sessions -/

/-- SEC_SPDM.sessions. -/
def State.setSessions (s : State) (l : List (Nat × Bool × Nat)) : State :=
  ({ s with sec := { s.sec with sessions := l } }).setF R.SEC_SPDM.sessions l.length

/-- KEY_EXCHANGE opens a session; four at most. -/
def keyExchangeOp (s : State) (slot : Nat) : State :=
  s.spdmAt 3 (fun s =>
    if slot ≠ 0 then s.spdmError 1 0
    else if 4 ≤ s.sec.sessions.length then s.spdmError 0xA 4
    else
      let id := s.sec.nextSession
      (({ s with sec := { s.sec with nextSession := id + 1 } }).setSessions (s.sec.sessions ++ [(id, false, 0)])).spdmSigned 0x64 0 0 []
        (leBytes 2 id))

def execKeyExchange (slot : Nat) (s : State) : Host.Outcome State Fault Refusal := whenUp s (fun s => keyExchangeOp s slot)

/-- PRESUMED, log entry 75. -/
def State.inSession (s : State) (id : Nat) (done : Bool) : Bool := s.sec.sessions.any (fun x => x.1 == id && x.2.1 == done)

/-- FINISH: `ok`: the requester's verification data hold; otherwise the session is dropped. -/
def finishSpdmOp (s : State) (id : Nat) (ok : Bool) : State :=
  if !s.inSession id false then s.spdmError 2 0
  else if ok then
    (s.setSessions (s.sec.sessions.map (fun x => if x.1 = id then (x.1, true, x.2.2) else x))).spdmOpen 0x65 0 0 [] []
  else (s.setSessions (s.sec.sessions.filter (fun x => x.1 != id))).spdmError 6 0

def execFinishSpdm (session : Nat) (ok : Bool) (s : State) : Host.Outcome State Fault Refusal :=
  whenUp s (fun s => finishSpdmOp s session ok)

def execSpdmHeartbeat (session : Nat) (s : State) : Host.Outcome State Fault Refusal :=
  whenUp s (fun s => if s.inSession session true then s.spdmRsp 0x68 0 0 [] else s.spdmError 2 0)

/-- KEY_UPDATE: the session's keys move on by one generation. -/
def keyUpdateOp (s : State) (id : Nat) : State :=
  if s.inSession id true then
    (s.setSessions (s.sec.sessions.map (fun x => if x.1 = id then (x.1, x.2.1, x.2.2 + 1) else x))).spdmOpen 0x69 0 0 [] []
  else s.spdmError 2 0

def execKeyUpdate (session : Nat) (s : State) : Host.Outcome State Fault Refusal := whenUp s (fun s => keyUpdateOp s session)

def endSessionOp (s : State) (id : Nat) : State :=
  if s.inSession id true then (s.setSessions (s.sec.sessions.filter (fun x => x.1 != id))).spdmRsp 0x6C 0 0 [] else s.spdmError 2 0

def execEndSession (session : Nat) (s : State) : Host.Outcome State Fault Refusal := whenUp s (fun s => endSessionOp s session)

/-- R532: any other request. -/
def execSpdmUnsupported (code : Nat) (s : State) : Host.Outcome State Fault Refusal := whenUp s (fun s => s.spdmError 7 (code % 256))

/-! ### IDE (R534) -/

/-- A stream is established when each of its three sub-streams has a key set in use. -/
def ideUp (t : IdeSt) : Bool := [0, 1, 2].all (fun j => Tbl.get 0 t.active j != 0)

/-- An IDE_KM message in an open session: 0 KEY_PROG programs a key, 1 K_SET_GO puts a set in use, 2 K_SET_STOP takes it
out of use. (PRESUMED, log entry 76.) -/
def ideKmOp (s : State) (session stream msg sub keySet : Nat) (key : BitVec 256) : State :=
  s.guard (s.inSession session true && decide (stream < 4) && decide (sub < 3) && decide (keySet < 2)) (fun s =>
    let t := Tbl.get IdeSt.zero s.sec.ide stream
    let t1 : IdeSt :=
      if msg = 0 then { t with keys := Tbl.set 0 t.keys (sub * 2 + keySet) key }
      else if msg = 1 then { t with active := Tbl.set 0 t.active sub (keySet + 1) }
      else if msg = 2 ∧ Tbl.get 0 t.active sub = keySet + 1 then { t with active := Tbl.set 0 t.active sub 0 }
      else t
    ({ s with sec := { s.sec with ide := Tbl.set IdeSt.zero s.sec.ide stream t1 } }).putBit R.SEC_SPDM.ide_streams stream (ideUp t1))

def execIdeKm (session stream msg sub keySet : Nat) (key : BitVec 256) (s : State) : Host.Outcome State Fault Refusal :=
  whenUp s (fun s => ideKmOp s session stream msg sub keySet key)

end Sys2Proof.Machine
end

