-- ==== Sys2Proof/Machine/SelfTest.lean ====
section
/-!
DEFINITION. Parks (chapter 19).
-/

namespace Sys2Proof.Machine

open Sys2Proof

/-- R506: a write of BST_CTRL: its field, and a park, or its refusal. -/
def bstParkOp (s : State) (v : Nat) (x : Supplies) : State :=
  let s1 := s.setF R.BST_CTRL.select (bits v 2 1)
  if !bit v 0 then s1
  else
    let why := s1.parkRefusal x
    if why = 0 then s1.parkBegins else (s1.setF R.BST_STATUS.refuse_code why).logP 0xC 0 0x1A 0 (why * 256)

def execBstPark (v : Nat) (x : Supplies) (s : State) : Host.Outcome State Fault Refusal := whenUp s (fun s => bstParkOp s v x)

/-- R505: what failing items of the chest under test put into the defect list. -/
def State.parkFound (s : State) (c : Nat) (chans : List (Nat × Nat)) (cores : List Nat) : List Nat :=
  (chans.filter (fun x => x.1 / 9 == c)).filterMap (fun x =>
    ((List.range 8).find? (fun ch => physChan (s.slice x.1) ch == x.2)).map (fun ch => defChan c (x.1 % 9) ch)) ++
  (cores.filter (fun u => u / 9 == c)).map (fun u => defCore c (u % 9))

/-- R507: a kind ends with `fails` failing items; channels (slice key, physical channel) and cores among them. During a
pause the test does not run (R510). After the last kind the record is written; `lost`: its host write fails.
(DEDUCED, log entry 99.) -/
def parkTestEndOp (s : State) (fails : Nat) (chans : List (Nat × Nat)) (cores : List Nat) (lost : Bool) : State :=
  match s.park.current with
  | none => s
  | some x => s.guard (!s.paused) (fun s =>
      s.parkKindEnds (if fails = 0 then 1 else 2) fails (if fails = 0 then [] else s.parkFound x.1 chans cores) lost)

def execParkTestEnd (fails : Nat) (chans : List (Nat × Nat)) (cores : List Nat) (lost : Bool) (s : State) :
    Host.Outcome State Fault Refusal := whenUp s (fun s => parkTestEndOp s fails chans cores lost)

/-- R509: a sample outside Table 19-2 makes the running kind inconclusive. -/
def supplySampleOp (s : State) (x : Supplies) : State :=
  s.guard (s.park.current.isSome && !s.suppliesOk x) (fun s => (s.flag R.BST_FLAGS.excursion).parkKindEnds 3 0 [] false)

def execSupplySample (x : Supplies) (s : State) : Host.Outcome State Fault Refusal := whenUp s (fun s => supplySampleOp s x)

end Sys2Proof.Machine
end

