-- ==== Sys2Proof/Machine/ThmSense.lean ====
section
/-!
DEFINITION. Sensors, limits, fallbacks and governors (R479, R482, R488, R491, R496-R499).
-/

namespace Sys2Proof.Machine

open Sys2Proof

/-! ### Sensors (R479) -/

/-- Table 18-2: the column of a drawer or die sensor. -/
def sensorCol (i : Nat) : Nat := if i < 72 then i % 9 else (i - 72) / 4

/-- Table 18-2: the hotspot of a paired sensor; 18-21 are the plinth's. -/
def sensorSpot (i : Nat) : Nat := if i < 108 then (i - 72) / 2 else 18 + (i - 108) / 2

/-- Member 0 of a hotspot. -/
def spotFirst (h : Nat) : Nat := if h < 18 then 72 + 2 * h else 108 + 2 * (h - 18)

/-- The other sensor of the pair. -/
def sensorPartner (i : Nat) : Nat := if i % 2 = 0 then i + 1 else i - 1

/-- R482: soft limit in 0.1 °C. -/
def State.softLimit (s : State) (i : Nat) : Int :=
  if i < 72 then 10 * (s.getF R.THM_LIMITS.drawer_soft : Int)
  else if i < 108 then 10 * (max 85 (min 105 (s.getF R.THM_LIMITS.junction_soft)) : Nat)
  else 1050

/-- R482: hard limit in 0.1 °C. -/
def hardLimit (i : Nat) : Int := if i < 72 then 1050 else 1100

def sensorKey (c i : Nat) : Nat := c * 116 + i

/-! ### Fallbacks (R482, R491, R499) -/

/-- Is the hard-limit fallback of a sensor in force, or is it broken? -/
def State.sensorOver (s : State) (c i : Nat) : Bool := Tbl.get false s.thm.overSensor (sensorKey c i)

def State.columnOver (s : State) (c p : Nat) : Bool :=
  (List.range 108).any (fun i => sensorCol i == p && (s.sensorOver c i || s.sensorBroken c i))

/-- A plinth sensor over its limit, or both of a pair broken. -/
def State.chestOver (s : State) (c : Nat) : Bool :=
  [108, 110, 112, 114].any (fun i => s.sensorOver c i || s.sensorOver c (i + 1) || (s.sensorBroken c i && s.sensorBroken c (i + 1)))

/-- The fallbacks of chest c, shown and in force; a column that enters fallback starts from its chest's governor. -/
def State.showFallbacks (s : State) (c : Nat) : State :=
  let cols := (List.range 9).filter (s.columnOver c)
  let s1 := s.each (cols.filter (fun p => !s.columnFalls (c * 9 + p))) (fun s' p => s'.setGov (4 + c * 9 + p) (fun _ => s.gov c))
  let s2 := s1.setF (R.CHS_GOV.fallback c) (cols.foldl (fun m p => m + 2 ^ p) 0)
  let s3 := s2.setF (R.CHS_GOV.chest_fallback c) (if s.chestOver c then 1 else 0)
  (s3.putBit R.THM_STATUS.fallback c (!cols.isEmpty || s.chestOver c)).showGov c

def State.setOver (s : State) (c i : Nat) (b : Bool) : State :=
  ({ s with thm := { s.thm with overSensor := Tbl.set false s.thm.overSensor (sensorKey c i) b } } : State).showFallbacks c

/-- R482: a reading over the hard limit places its column or chest under fallback. -/
def State.hardLimitCheck (s : State) (c i : Nat) : State :=
  if hardLimit i < s.reading c i ∧ s.sensorOver c i = false then
    let s1 := (s.flag R.THM_FLAGS.over_limit).setOver c i true
    s1.logT c i 0x46 (unsigned 12 (s.reading c i)) (s1.getF (R.CHS_GOV.fallback c))
  else s

/-! ### Refresh bands (R201, R386) -/

/-- Table 7-5: the band of a reading in 0.1 °C. -/
def bandOf (x : Int) : Nat := if x ≤ 850 then 0 else if x ≤ 950 then 1 else if x ≤ 1050 then 2 else 3

/-- Lower bound of a band. -/
def bandFloor (b : Nat) : Int := if b = 1 then 850 else if b = 2 then 950 else 1050

/-- One band down, where the reading is 2 °C below the bound of the band it is in. -/
def bandDown (x : Int) (b : Nat) : Nat := if 0 < b ∧ x ≤ bandFloor b - 20 then b - 1 else b

/-- R201: the band after a reading, from the band before it. (DEDUCED, log entry 66.) -/
def nextBand (old : Nat) (x : Int) : Nat :=
  if old < bandOf x then bandOf x else bandDown x (bandDown x (bandDown x old))

/-- R201: the region of drawer sensor i takes its band; its slice recomputes its floor. (DEDUCED, log entry 66.) -/
def State.bandTakes (s : State) (c i : Nat) (x : Int) : State :=
  let u := c * 9 + i % 9
  let w := s.getF (R.SLC_BANDS.band u)
  let old := bits w (2 * (i / 9) + 1) (2 * (i / 9))
  let new := nextBand old x
  if new = old then s
  else (s.setF (R.SLC_BANDS.band u) (putBits w (2 * (i / 9) + 1) (2 * (i / 9)) new)).rescale (c * 9 + s.logicalSlice u)

/-! ### THERMTRIP_N (R496, R497) -/

/-- Is a working sensor of a pair at 120 °C, its partner too or broken? -/
def State.spotTrips (s : State) (c i : Nat) : Bool :=
  let hot := fun j => s.sensorWorks c j && decide (1200 ≤ s.reading c j)
  hot i && (hot (sensorPartner i) || s.sensorBroken c (sensorPartner i))

/-- R497: the part pauses, then asserts THERMTRIP_N. -/
def State.tripCheck (s : State) (c i : Nat) : State :=
  if 72 ≤ i ∧ s.isSet R.THM_STATUS.tripped = false ∧ s.spotTrips c i = true then
    let s1 := (s.pauseBegins false (sensorKey c i)).setF R.THM_STATUS.tripped 1
    ({ s1 with pins := { s1.pins with thermtrip := true } } : State).logT c i 0x47 (unsigned 12 (s.reading c i)) 0
  else s

/-! ### Sensors that fail or disagree (R498, R499) -/

def State.model (s : State) (c i : Nat) : Int := signed 16 (s.getF (R.CHS_TEMP.model c i))

/-- THM_HOT. -/
def State.showHot (s : State) : State :=
  match s.hottest with
  | some x => ((s.setF R.THM_HOT.chest x.1).setF R.THM_HOT.sensor x.2.1).setF R.THM_HOT.temp (unsigned 12 x.2.2)
  | none => s.setW R.THM_HOT 0

/-- R499: a sensor is declared broken (0 by the model, 1 out of range, 2 no conversion). -/
def State.declareBroken (s : State) (c i code : Nat) : State :=
  if s.sensorBroken c i then s
  else
    let s1 := (s.putBit (R.CHS_BROKEN.broken c (i / 32)) (i % 32) true).flag R.THM_FLAGS.broken
    let s2 := s1.logT c i 0x45 (unsigned 12 (s.reading c i) + unsigned 12 (s.model c i) * 2 ^ 16) code
    let s3 := s2.setOver c i false
    let s4 := if i < 72 then s3.bandTakes c i 1050 else s3.tripCheck c (sensorPartner i)
    s4.showHot

/-- CHS_DISAGREE of a hotspot. -/
def State.disagrees (s : State) (c h : Nat) : Bool :=
  if h < 18 then s.getBit (R.CHS_DISAGREE.die c) h else s.getBit (R.CHS_DISAGREE.plinth c) (h - 18)

def State.setDisagrees (s : State) (c h : Nat) (b : Bool) : State :=
  if h < 18 then s.putBit (R.CHS_DISAGREE.die c) h b else s.putBit (R.CHS_DISAGREE.plinth c) (h - 18) b

def spotKey (c h : Nat) : Nat := c * 22 + h

/-- Both sensors of a hotspot work. -/
def State.spotWorks (s : State) (c h : Nat) : Bool := s.sensorWorks c (spotFirst h) && s.sensorWorks c (spotFirst h + 1)

/-- They differ by more than 5 °C. -/
def State.spotDiffers (s : State) (c h : Nat) : Bool :=
  decide (50 < (s.reading c (spotFirst h) - s.reading c (spotFirst h + 1)).natAbs)

/-- Is the window of a hotspot one in which the model arbitrates? -/
def State.arbitrates (s : State) (c h : Nat) : Bool := Tbl.get false s.thm.winBad (spotKey c h * 2 + 1)

/-- A window of 50 ms starts; it arbitrates when the pair differs. -/
def State.newWindow (s : State) (c h : Nat) (arb : Bool) : State :=
  let k := spotKey c h
  { s with thm := { s.thm with
    winAt := Tbl.set 0 s.thm.winAt k s.now, winSum := Tbl.set (0, 0) s.thm.winSum k (0, 0), winModel := Tbl.set (0, 0) s.thm.winModel k (0, 0)
    winCount := Tbl.set 0 (Tbl.set 0 s.thm.winCount (k * 2) 0) (k * 2 + 1) 0
    winBad := Tbl.set false (Tbl.set false s.thm.winBad (k * 2) arb) (k * 2 + 1) arb } }

/-- One conversion of member m counts in the window. (DEDUCED, log entry 65.) -/
def State.windowTakes (s : State) (c h m : Nat) (differs : Bool) : State :=
  let k := spotKey c h
  let x := s.reading c (spotFirst h + m)
  let y := s.model c (spotFirst h + m)
  let add := fun (p : Int × Int) (v : Int) => if m = 0 then (p.1 + v, p.2) else (p.1, p.2 + v)
  { s with thm := { s.thm with
    winSum := Tbl.modify (0, 0) s.thm.winSum k (fun p => add p x), winModel := Tbl.modify (0, 0) s.thm.winModel k (fun p => add p y)
    winCount := Tbl.modify 0 s.thm.winCount (k * 2 + m) (· + 1)
    winBad := if differs then Tbl.set false s.thm.winBad (k * 2) true else s.thm.winBad } }

/-- R498: the pair of a conversion is compared. (DEDUCED, log entry 65.) -/
def State.pairCheck (s : State) (c i : Nat) : State :=
  let h := sensorSpot i
  if i < 72 ∨ s.spotWorks c h = false then s
  else
    let d := s.spotDiffers c h
    let s1 :=
      if d && !s.disagrees c h then
        let s' := (s.setDisagrees c h true).flag R.THM_FLAGS.disagree
        (s'.logT c (spotFirst h) 0x44 (unsigned 12 (s.reading c (spotFirst h)) + unsigned 12 (s.reading c (spotFirst h + 1)) * 2 ^ 16)
          (if h < 18 then h else 32 + (h - 18))).newWindow c h true
      else if d && !s.arbitrates c h then s.newWindow c h true
      else s
    if s1.disagrees c h then s1.windowTakes c h (i % 2) d else s1

/-- R498: is the average of member m in its window more than 8 °C off the average of its model values? -/
def State.windowOff (s : State) (c h m : Nat) : Bool :=
  let k := spotKey c h
  let pick := fun (p : Int × Int) => if m = 0 then p.1 else p.2
  decide (80 * Tbl.get 0 s.thm.winCount (k * 2 + m) < (pick (Tbl.get (0, 0) s.thm.winSum k) - pick (Tbl.get (0, 0) s.thm.winModel k)).natAbs)

/-- R498: a window ends. -/
def State.windowEnds (s : State) (c h : Nat) : State :=
  let off := if s.arbitrates c h then [0, 1].filter (s.windowOff c h) else []
  if !off.isEmpty then s.each off (fun s' m => s'.declareBroken c (spotFirst h + m) 0)
  else if s.spotDiffers c h then s.newWindow c h true
  else if Tbl.get false s.thm.winBad (spotKey c h * 2) then s.newWindow c h false
  else s.setDisagrees c h false

/-- R499: a drawer sensor, which has no partner, against its model value. -/
def State.loneCheck (s : State) (c i : Nat) : State :=
  let k := sensorKey c i
  if 72 ≤ i ∨ s.sensorWorks c i = false then s
  else if (s.reading c i - s.model c i).natAbs ≤ 80 then { s with thm := { s.thm with offSince := Tbl.set 0 s.thm.offSince k 0 } }
  else
    let t := Tbl.get 0 s.thm.offSince k
    if t = 0 then { s with thm := { s.thm with offSince := Tbl.set 0 s.thm.offSince k (s.now + 1) } }
    else if t + 50000000 ≤ s.now + 1 then s.declareBroken c i 0
    else s

/-- R493: a die sensor's rise is judged. -/
def State.riseCheck (s : State) (c i : Nat) (x : SensorIn) : State :=
  if i < 72 ∨ 108 ≤ i then s
  else
    let s1 := if 50 < x.rise2 then (s.flag R.THM_FLAGS.rise_warn).logT c i 0x40 (min 0xFFFF x.rise2.toNat) (unsigned 12 x.reading) else s
    if 300 < x.rise then (s1.flag R.THM_FLAGS.rise_emerg).pauseBegins false (sensorKey c i) else s1

/-- Is there power and a floor for a sensor to convert with? -/
def State.sensorThere (s : State) (c i : Nat) : Bool :=
  decide (c < 4) && decide (i < 116) && (if i < 108 then s.chestUp c else s.floorOk c)

/-- R482, R495, R499: what a conversion says of the intervals that count: its moment, a reading at or over the soft limit, and
what forbids a resume (a reading less than 10 °C below it, or a rise over 3 °C per ms). -/
def State.noteReading (s : State) (c i : Nat) (x : SensorIn) : State :=
  let k := sensorKey c i
  let warm := decide (s.softLimit i ≤ x.reading)
  let stirs := decide (s.softLimit i < x.reading + 100) || decide (300 < x.rise)
  { s with thm := { s.thm with
    convAt := Tbl.set 0 s.thm.convAt k s.now, warmAt := if warm then Tbl.set 0 s.thm.warmAt k s.now else s.thm.warmAt
    stirAt := if stirs && !s.sensorBroken c i then s.now else s.thm.stirAt } }

/-- R479, R482, R493, R496-R499: one conversion. -/
def State.conversion (s : State) (c i : Nat) (x : SensorIn) : State :=
  let s1 := (s.noteReading c i x).setF (R.CHS_TEMP.reading c i) (unsigned 16 x.reading)
  if s1.sensorBroken c i then s1
  else if x.reading < -200 ∨ 1500 < x.reading then s1.declareBroken c i 1
  else
    let s2 := s1.hardLimitCheck c i
    let s3 := if i < 72 then s2.bandTakes c i x.reading else s2
    ((((s3.riseCheck c i x).pairCheck c i).loneCheck c i).tripCheck c i).showHot

/-! ### Governors (R487-R491) -/

/-- R487: the limit of chest c, in W. (DEDUCED, log entry 61.) -/
def State.chestLimit (s : State) (c : Nat) : Nat := min (s.getF (R.CHS_BUDGET.active c)) (s.getF (R.CHS_POWER.ceiling c))

/-- Power and limit of governor k, in mW: a chest's, 60 % of it under fallback; a fallback column's islands against its
share. (DEDUCED, log entry 61.) -/
def State.govLoad (s : State) (k : Nat) : Nat × Nat :=
  if k < 4 then
    (Tbl.get 0 s.thm.pwrNow k, s.chestLimit k * (if s.isSet (R.CHS_GOV.chest_fallback k) then 600 else 1000))
  else
    let c := (k - 4) / 9
    let p := (k - 4) % 9
    (Tbl.get 0 s.thm.island (c * 64 + p) + Tbl.get 0 s.thm.island (c * 64 + 9 + p), s.chestLimit c * 600 / 9)

/-- R488: one step down, while power is over the limit. Times are kept as ns + 1; 0 is never. -/
def govDown (now : Nat) (g : GovSt) : GovSt :=
  if 32 < g.duty then { g with duty := g.duty - 4, steps := false :: g.steps }
  else if g.aclk < 5 ∧ (g.clkAt = 0 ∨ g.clkAt + 1000000 ≤ now + 1) then
    { g with aclk := g.aclk + 1, clkAt := now + 1, steps := true :: g.steps }
  else if 8 < g.duty then { g with duty := g.duty - 4, steps := false :: g.steps }
  else g

/-- R488: one step is undone, in reverse order, up to the top rung and duty 64. -/
def govUp (top now : Nat) (g : GovSt) : GovSt :=
  match (if g.aclk ≤ top then g.steps.filter (fun b => !b) else g.steps) with
  | true :: r => { g with aclk := g.aclk - 1, steps := r, undoAt := now + 1, clkAt := now + 1 }
  | false :: r => { g with duty := min 64 (g.duty + 4), steps := r, undoAt := now + 1 }
  | [] =>
    if top < g.aclk then { g with aclk := g.aclk - 1, steps := [], undoAt := now + 1, clkAt := now + 1 }
    else if g.duty < 64 then { g with duty := min 64 (g.duty + 4), steps := [], undoAt := now + 1 }
    else { g with steps := [] }

/-- R488: one update of a governor. -/
def govNext (top now power limit : Nat) (g0 : GovSt) : GovSt :=
  let g := if 97 * limit ≤ 100 * power then { g0 with overAt := now } else g0
  if limit < power then govDown now g
  else if 100 * power < 97 * limit ∧ g.overAt + 1000000 ≤ now ∧ (g.undoAt = 0 ∨ g.undoAt + 1000000 ≤ now + 1) then govUp top now g
  else g

/-- R488, R490: governor k takes its update, in steady timing at the next epoch boundary unless it serves a fallback. -/
def State.govUpdate (s : State) (k : Nat) : State :=
  let c := if k < 4 then k else (k - 4) / 9
  let l := s.govLoad k
  let g := govNext s.topRung s.now l.1 l.2 (Tbl.get (s.gov k) s.thm.govPend k)
  if s.defers && decide (k < 4) && !s.isSet (R.CHS_GOV.chest_fallback k) then
    { s with thm := { s.thm with govPend := Tbl.set GovSt.absent s.thm.govPend k g } }
  else s.govTakes c k g

end Sys2Proof.Machine
end

