-- ==== Sys2Proof/Machine/Thermal.lean ====
section
/-!
DEFINITION. Power, temperature and cooling (chapter 18).
-/

namespace Sys2Proof.Machine

open Sys2Proof

/-! ### Measured power (R476, R487) -/

/-- R476: one sample every 10 us, in mW; islands by number chest * 64 + island, where island p is core island p and
9 + p slice island p. (DEDUCED, log entry 60.) -/
def State.takeSample (s : State) (pkg : Nat) (chests : List Nat) (islands : List (Nat × Nat)) : State :=
  let vals := (List.range 4).map (fun c => chests.getD c 0) ++ [pkg]
  let put := fun (t : Tbl Nat) (f : Nat → Nat) => (List.range 5).foldl (fun t' k => Tbl.set 0 t' k (f k)) t
  { s with thm := { s.thm with
    island := islands.foldl (fun t e => Tbl.set 0 t (e.1 % 256) e.2) s.thm.island
    pwrNow := put s.thm.pwrNow (fun k => vals.getD k 0)
    pwrSum := put s.thm.pwrSum (fun k => Tbl.get 0 s.thm.pwrSum k + vals.getD k 0)
    pwrN := s.thm.pwrN + 1 } }

/-- R476: a millisecond of samples is whole: PWR_PKG and CHS_POWER show their averages. Outside a Sprint window a package
above 1,200 W starts the rest of R484 again. (DEDUCED, log entry 60.) -/
def State.msEnds (s : State) : State :=
  let avg := fun k => min 0xFFF (Tbl.get 0 s.thm.pwrSum k / 100000)
  let s1 := s.each (List.range 4) (fun s' c => s'.setF (R.CHS_POWER.power c) (avg c))
  let s2 := (s1.setF R.PWR_PKG.power (avg 4)).setF R.PWR_PKG.peak (max (s.getF R.PWR_PKG.peak) (avg 4))
  let hot := !s.sprintOpen && decide (1200 * 100000 < Tbl.get 0 s.thm.pwrSum 4)
  { s2 with thm := { s2.thm with pwrLast := s2.thm.pwrSum, pwrSum := [], pwrN := 0, sprintEnd := if hot then s.now else s2.thm.sprintEnd } }

def powerSampleOp (s : State) (pkg : Nat) (chests : List Nat) (islands : List (Nat × Nat)) : State :=
  let s1 := s.takeSample pkg chests islands
  if 100 ≤ s1.thm.pwrN then s1.msEnds else s1

def execPowerSample (pkg : Nat) (chests : List Nat) (islands : List (Nat × Nat)) (s : State) : Host.Outcome State Fault Refusal :=
  whenUp s (fun s => powerSampleOp s pkg chests islands)

/-- R487: the floor of plinth 0 lowers every active budget by one fraction when the package average has exceeded the cap
by more than 2 % in two milliseconds in a row. (DEDUCED, log entry 64.) -/
def packageCheckOp (s : State) : State :=
  let sum := Tbl.get 0 s.thm.pwrLast 4
  let above := decide (s.capActive * 102000 < sum)
  let excess := (sum + 99999) / 100000 - s.capActive
  let total := (List.range 4).foldl (fun n c => n + s.getF (R.CHS_BUDGET.active c)) 0
  let s1 := { s with thm := { s.thm with overCap := if above then 1 else 0 } }
  if above && s.thm.overCap == 1 then
    s1.each (List.range 4) (fun s' c => s'.setF (R.CHS_BUDGET.active c) (s.getF (R.CHS_BUDGET.active c) * (total - excess) / total))
  else s1

def execPackageCheck (s : State) : Host.Outcome State Fault Refusal :=
  whenUp s (fun s => s.guard (s.floorOk 0) packageCheckOp)

/-! ### The model (R480, R481) -/

/-- R480: what a model update of chest c computed is shown; a forecast over its soft limit closes a Sprint window; sensors
without a partner are held against their new model values (R499). (DESIGN CHOICE, log entry 67.) -/
def thermalModelOp (s : State) (c : Nat) (md : ModelOut) : State :=
  s.guard (decide (c < 4) && s.ccRuns (1 + c)) (fun s =>
    let s1 := s.each (md.model.filter (fun e => decide (e.1 < 116))) (fun s' e => s'.setF (R.CHS_TEMP.model c e.1) (unsigned 16 e.2))
    let s2 := ((s1.setF (R.CHS_POWER.ceiling c) (min 0xFFF md.ceiling)).setF (R.CHS_FORECAST.sensor c) md.fcSensor).setF
      (R.CHS_FORECAST.temp c) (unsigned 12 md.fcTemp)
    let s3 := { s2 with thm := { s2.thm with
      estimate := Tbl.set 0 s2.thm.estimate c (min 0xFFFF md.estimate), sprintOk := Tbl.set false s2.thm.sprintOk c md.sprintOk } }
    let s4 := s3.setF R.THM_RTH.estimate ((List.range 4).foldl (fun m k => max m (Tbl.get 0 s3.thm.estimate k)) 0)
    let est := s4.getF R.THM_RTH.estimate
    let since := fun (b : Bool) (t : Nat) => if b then (if t = 0 then s.now + 1 else t) else 0
    let s4 : State := { s4 with thm := { s4.thm with
      rthOver := since (decide (s4.getF R.THM_RTH.limit < est)) s.thm.rthOver
      rthUnder := since (decide (est < s4.getF R.THM_RTH.limit)) s.thm.rthUnder } }
    let s5 := if md.crosses then s4.endSprint true s4.sprintMs else s4
    s5.each (List.range 72) (fun s' i => s'.loneCheck c i))

def execThermalModelUpdate (c : Nat) (md : ModelOut) (s : State) : Host.Outcome State Fault Refusal :=
  whenUp s (fun s => thermalModelOp s c md)

/-- R481: inlet and flow. -/
def thmCoolantOp (s : State) (v : Nat) : State :=
  ((({ s with thm := { s.thm with coolantAt := s.now } } : State).setW R.THM_COOLANT (bits v 23 0)).setF R.THM_COOLANT.stale 0).setF R.THM_STATUS.coolant_stale 0

def execThmCoolantWrite (v : Nat) (s : State) : Host.Outcome State Fault Refusal := whenUp s (fun s => thmCoolantOp s v)

/-- R481: five seconds without a write. -/
def coolantStaleOp (s : State) : State :=
  s.guard (!s.isSet R.THM_COOLANT.stale && decide (s.thm.coolantAt + 5000000000 ≤ s.now)) (fun s =>
    ((s.setF R.THM_COOLANT.stale 1).setF R.THM_STATUS.coolant_stale 1).logT 0 0x3FF 0x4B 0 0)

def execCoolantStale (s : State) : Host.Outcome State Fault Refusal := whenUp s coolantStaleOp

/-! ### Sensors (R482, R493, R498, R499) -/

def execSensorSample (c i : Nat) (x : SensorIn) (s : State) : Host.Outcome State Fault Refusal :=
  whenUp s (fun s => s.guard (s.sensorThere c i) (fun s => s.conversion c i x))

/-- R499: no conversion for 1 ms. -/
def execSensorNoConversion (c i : Nat) (s : State) : Host.Outcome State Fault Refusal :=
  whenUp s (fun s => s.guard (s.sensorThere c i && decide (Tbl.get 0 s.thm.convAt (sensorKey c i) + 1000000 ≤ s.now)) (fun s => s.declareBroken c i 2))

/-- R482: the reading has stayed below the soft limit for 100 ms. -/
def fallbackReleaseOp (s : State) (c i : Nat) : State :=
  let cool := fun j => decide (s.reading c j < s.softLimit j) && decide (Tbl.get 0 s.thm.warmAt (sensorKey c j) + 100000000 ≤ s.now)
  let pairCool := decide (i < 72) || !s.disagrees c (sensorSpot i) || cool (sensorPartner i)
  s.guard (s.sensorThere c i && s.sensorOver c i && cool i && pairCool) (fun s => s.setOver c i false)

def execFallbackRelease (c i : Nat) (s : State) : Host.Outcome State Fault Refusal := whenUp s (fun s => fallbackReleaseOp s c i)

/-- R498: 50 ms of a window have passed. -/
def disagreeWindowEndOp (s : State) (c h : Nat) : State :=
  s.guard (decide (c < 4) && decide (h < 22) && s.disagrees c h && s.spotWorks c h && decide (Tbl.get 0 s.thm.winAt (spotKey c h) + 50000000 ≤ s.now)) (fun s => s.windowEnds c h)

def execDisagreeWindowEnd (c h : Nat) (s : State) : Host.Outcome State Fault Refusal := whenUp s (fun s => disagreeWindowEndOp s c h)

/-! ### Budgets (R486) -/

/-- Chest d as chest c knows it: its demand and ceiling. (DEDUCED, log entry 64.) -/
def State.budgetOf (s : State) (c d : Nat) : Nat × Nat := Tbl.get (0, 0) s.thm.budgetMsg (c * 4 + d)

/-- R486: what chest d may want; nothing when it is unusable (R32). (DEDUCED, log entry 63.) -/
def State.want (s : State) (c d : Nat) : Nat :=
  if s.chestUsable d then min (s.budgetOf c d).1 (s.budgetOf c d).2 else 0

/-- R486: what the floors, the fabric and PCI Express draw. (DEDUCED, log entry 63.) -/
def State.floorPower (s : State) : Nat :=
  s.getF R.PWR_PKG.power - (List.range 4).foldl (fun n c => n + s.getF (R.CHS_POWER.power c)) 0

/-- R486: the largest level, in W, at which the wants fit. -/
def waterLevel (wants : List Nat) (avail : Nat) : Nat :=
  (List.range 4096).foldl (fun l v => if wants.foldl (fun n w => n + min w v) 0 ≤ avail then v else l) 0

/-- R486: the grants that chest c computes, and its own budget: lowered at once, raised by at most 10 %. -/
def State.computeGrants (s : State) (c : Nat) : State :=
  let wants := (List.range 4).map (s.want c)
  let level := waterLevel wants (s.capActive - s.floorPower)
  let s1 := { s with thm := { s.thm with
    grants := (List.range 4).foldl (fun t d => Tbl.set 0 t (c * 4 + d) (min (wants.getD d 0) level)) s.thm.grants } }
  let cur := s.getF (R.CHS_BUDGET.budget c)
  let b := min (min (wants.getD c 0) level) (cur + cur / 10)
  (s1.setF (R.CHS_BUDGET.budget c) b).setF (R.CHS_BUDGET.active c) b

/-- R486: chest c sends its demand (measured power and what its governor withholds) and ceiling, and computes. -/
def budgetExchangeOp (s : State) (c withheld : Nat) : State :=
  s.guard (decide (c < 4) && s.ccRuns (1 + c)) (fun s =>
    let m := (s.getF (R.CHS_POWER.power c) + withheld, s.getF (R.CHS_POWER.ceiling c))
    let s1 : State := { s with thm := { s.thm with budgetMsg := Tbl.set (0, 0) s.thm.budgetMsg (c * 4 + c) m } }
    (s1.emit (.budget c m.1 m.2)).computeGrants c)

def execBudgetExchange (c withheld : Nat) (s : State) : Host.Outcome State Fault Refusal := whenUp s (fun s => budgetExchangeOp s c withheld)

def State.setBudgetMsg (s : State) (c d : Nat) (m : Nat × Nat) : State :=
  { s with thm := { s.thm with budgetMsg := Tbl.set (0, 0) s.thm.budgetMsg (c * 4 + d) m } }

/-- R486: a message of another chest arrives at chest c. -/
def budgetMessageOp (s : State) (c from_ demand ceiling : Nat) : State :=
  s.guard (decide (c < 4) && decide (from_ < 4) && c != from_ && s.ccRuns (1 + c)) (fun s =>
    let s1 := s.setBudgetMsg c from_ (demand, ceiling)
    { s1 with thm := { s1.thm with msgAt := Tbl.set 0 s1.thm.msgAt (c * 4 + from_) s.now } })

def execBudgetMessage (c from_ demand ceiling : Nat) (s : State) : Host.Outcome State Fault Refusal :=
  whenUp s (fun s => budgetMessageOp s c from_ demand ceiling)

/-- R486: a message has been missing for 3 ms: its chest's last grant stands for its want. -/
def budgetMissingOp (s : State) (c from_ : Nat) : State :=
  s.guard (decide (c < 4) && decide (from_ < 4) && c != from_ && s.ccRuns (1 + c) &&
      decide (Tbl.get 0 s.thm.msgAt (c * 4 + from_) + 3000000 ≤ s.now)) (fun s =>
    (s.setBudgetMsg c from_ (Tbl.get 0 s.thm.grants (c * 4 + from_), 0xFFF)).logT c 0x3FF 0x4A from_ 0)

def execBudgetMissing (c from_ : Nat) (s : State) : Host.Outcome State Fault Refusal := whenUp s (fun s => budgetMissingOp s c from_)

/-! ### Governors and Sprint windows (R484, R488) -/

/-- R484: the chests' demand. -/
def State.demandSum (s : State) : Nat := (List.range 4).foldl (fun n c => n + (s.budgetOf c c).1) 0

/-- R484: may a window open? The demand, the forecasts and the rest allow it, and no lower cap would close it.
(DEDUCED, log entry 62.) -/
def State.sprintMayOpen (s : State) : Bool :=
  s.getF R.PWR_MODE.mode_active == 1 && !s.sprintOpen && s.thm.windowDue.isNone && !s.paused &&
    decide (1200 < s.demandSum) &&
    (List.range 4).all (fun c => !s.chestUsable c || Tbl.get false s.thm.sprintOk c) &&
    decide (s.thm.sprintPrev * 1000000 ≤ s.now - s.thm.sprintEnd) &&
    s.pins.pwrbrkN && decide (1400 ≤ s.getF R.PWR_CAP.cap)

/-- R484: a window opens where it may, in steady timing at the next boundary. (DEDUCED, log entry 62.) -/
def State.tryOpen (s : State) : State :=
  if !s.sprintMayOpen then s
  else if s.defers then { s with thm := { s.thm with windowDue := some (true, false) } }
  else s.openSprint

/-- R488, R484: the governors of chest c step, but for a test of a park (R508); a window closes when demand has fallen to 1,200 W, or opens. -/
def governorUpdateOp (s : State) (c : Nat) : State :=
  s.guard (decide (c < 4) && s.chestUp c && s.floorOk c && !s.paused && s.park.current.isNone) (fun s =>
    let s1 := s.govUpdate c
    let s2 := s1.each ((List.range 9).filter (fun p => s1.columnFalls (c * 9 + p))) (fun s' p => s'.govUpdate (4 + c * 9 + p))
    let s3 := if s2.demandSum ≤ 1200 then s2.endSprint true s2.sprintMs else s2
    s3.tryOpen)

def execGovernorUpdate (c : Nat) (s : State) : Host.Outcome State Fault Refusal := whenUp s (fun s => governorUpdateOp s c)

/-- R484: the window's 250 ms end, or it closes early after `ms`. -/
def sprintWindowCloseOp (s : State) (early : Bool) (ms : Nat) : State :=
  s.guard (s.sprintOpen && (early || decide (s.thm.sprintAt + 250000000 ≤ s.now))) (fun s => (s.endSprint early (if early then min ms 250 else 250)).tryOpen)

def execSprintWindowClose (early : Bool) (ms : Nat) (s : State) : Host.Outcome State Fault Refusal :=
  whenUp s (fun s => sprintWindowCloseOp s early ms)

/-! ### Modes and caps (R483, R485) -/

/-- R483: mode 0x3, and Sprint without its licence, are ignored and set refused. -/
def pwrModeOp (s : State) (v : Nat) : State :=
  let m := bits v 1 0
  let st := bit v 4
  if m = 3 ∨ (m = 1 ∧ s.licensed 0 = false) then s.setF R.PWR_MODE.refused 1
  else
    let s1 := ((s.setF R.PWR_MODE.refused 0).setF R.PWR_MODE.mode m).setF R.PWR_MODE.steady (if st then 1 else 0)
    if s1.defers then { s1 with thm := { s1.thm with modeDue := some (m, if st then 1 else 0) } } else s1.setMode m st

def execPwrModeWrite (v : Nat) (s : State) : Host.Outcome State Fault Refusal := whenUp s (fun s => pwrModeOp s v)

def execPwrCapWrite (v : Nat) (s : State) : Host.Outcome State Fault Refusal :=
  whenUp s (fun s => (s.setF R.PWR_CAP.cap (bits v 11 0)).capChanged)

def pwrbrkOp (s : State) (high : Bool) : State :=
  let s1 := { s with pins := { s.pins with pwrbrkN := high } }
  if s1.up then s1.capChanged else s1

/-- R485. -/
def execPwrbrkNAssert (s : State) : Host.Outcome State Fault Refusal := always s (fun s => pwrbrkOp s false)

/-- R485. -/
def execPwrbrkNRelease (s : State) : Host.Outcome State Fault Refusal := always s (fun s => pwrbrkOp s true)

/-! ### Cooling (R492-R495) -/

/-- R492: the estimate has been above its limit for 100 ms. -/
def coolingDegradedOp (s : State) : State :=
  let lim := s.getF R.THM_RTH.limit
  let est := s.getF R.THM_RTH.estimate
  s.guard (lim != 0 && decide (lim < est) && s.thm.rthOver != 0 && decide (s.thm.rthOver + 100000000 ≤ s.now + 1) && !s.isSet R.THM_STATUS.degraded) (fun s =>
    ((s.flagC R.THM_FLAGS.degraded 6).setF R.THM_STATUS.degraded 1).logT 0 0x3FF 0x43 est s.hotDetail)

def execCoolingDegraded (s : State) : Host.Outcome State Fault Refusal := whenUp s coolingDegradedOp

/-- R492: it has been below it for 1 s. -/
def coolingRecoveredOp (s : State) : State :=
  s.guard (decide (s.getF R.THM_RTH.estimate < s.getF R.THM_RTH.limit) && s.thm.rthUnder != 0 &&
      decide (s.thm.rthUnder + 1000000000 ≤ s.now + 1)) (fun s => s.setF R.THM_STATUS.degraded 0)

def execCoolingRecovered (s : State) : Host.Outcome State Fault Refusal := whenUp s coolingRecoveredOp

def coolAssertOp (s : State) : State :=
  let s1 := { s with pins := { s.pins with coolFaultN := false } }
  if s.up && s.pins.coolFaultN then s1.coolFault else s1

/-- R493: COOL_FAULT_N is low at two samples. -/
def execCoolFaultNAssert (s : State) : Host.Outcome State Fault Refusal := always s coolAssertOp

def coolReleaseOp (s : State) : State :=
  let s1 := { s with pins := { s.pins with coolFaultN := true } }
  if s.up then s1.stir.setF R.THM_STATUS.cool_fault 0 else s1

/-- R495. -/
def execCoolFaultNRelease (s : State) : Host.Outcome State Fault Refusal := always s coolReleaseOp

/-- Table 18-4: cues in progress have ended, every drawer is in self-refresh, the pause is reported.
(DEDUCED, log entry 68.) -/
def pauseCompleteOp (s : State) : State :=
  s.guard s.thm.pausing (fun s =>
    let pin := s.thm.pauseByPin
    let s1 := (s.each (List.range 36) (fun s' u => (s'.finishCue 192 u).logStrays u)).drawersSleep true
    let s2 := { s1 with thm := { s1.thm with pausing := false } }
    let s3 := (s2.setF R.THM_STATUS.paused 1).flagC R.THM_FLAGS.paused 7
    (if pin then s3.logT 0 0x3FF 0x41 1 s.hotDetail
     else s3.logT (s.thm.pauseSensor / 116) (s.thm.pauseSensor % 116) 0x41 0 s.hotDetail).showHolds)

def execPauseComplete (s : State) : Host.Outcome State Fault Refusal := whenUp s pauseCompleteOp

/-- R494: does a held request come from outside the part? -/
def reqExternal (q : MemReq) : Bool := q.host || (match q.src with | .fabric _ _ _ => true | .master _ => false | .gone => false)

/-- R494: the oldest external request has been held for 5 ms: an error response and event 0x4C.
-/
def pausedTimeoutOp (s : State) : State :=
  match s.thm.held.find? (fun (h : Nat × MemReq) => reqExternal h.2) with
  | none => s
  | some h => s.guard (decide (h.1 + 5000000 ≤ s.now)) (fun s =>
    let s1 := { s with thm := { s.thm with held := s.thm.held.erase h } }
    (s1.answer h.2 1 []).logE (addrChest h.2.addr) 0xB 0x3FF 0x4C 3 true h.2.addr (h.2.mid % 256) 1)

def execPausedRequestTimeout (s : State) : Host.Outcome State Fault Refusal := whenUp s pausedTimeoutOp

/-- R495: is every working sensor 10 °C below its soft limit, and COOL_FAULT_N high? -/
def State.coolEnough (s : State) : Bool :=
  s.pins.coolFaultN && (List.range 4).all (fun c => (List.range 116).all (fun i =>
    !s.sensorWorks c i || decide (s.reading c i + 100 ≤ s.softLimit i)))

/-- R495, R510: the conditions have held for 100 ms: the drawers wake; the holds lift at the next epoch boundary, or at
once where no epochs run, and at the boundary in progress where its switch waits for the resumption. (DEDUCED, log entry 130.) A pause of more than 1 s leaves the kind under test in a park inconclusive. -/
def resumeOp (s : State) : State :=
  s.guard (s.isSet R.THM_STATUS.paused && !s.isSet R.THM_STATUS.resuming && s.coolEnough && decide (s.thm.stirAt + 100000000 ≤ s.now)) (fun s =>
    let s1 := (s.setF R.THM_STATUS.resuming 1).drawersSleep false
    let s1 := match s1.park.current with | some x => s1.parkDrawers x.1 | none => s1
    let s2 := if s1.thm.pauseAt + 1000000000 < s1.now && s1.park.current.isSome then s1.parkKindEnds 3 0 [] false else s1
    if !s2.runsEpochs || (s2.lay.switchDue && s2.isSet R.LAY_STATUS.switching) then s2.pauseLifts
    else
      let s3 := { s2 with thm := { s2.thm with resumeDue := true } }
      if s3.lay.switchDue then s3.boundaryChanges else s3)

def execResume (s : State) : Host.Outcome State Fault Refusal := whenUp s resumeOp

end Sys2Proof.Machine
end

