-- ==== Sys2Proof/Machine/Tray.lean ====
section
/-!
DEFINITION. Trays and the work guarantee (chapter 14): enable, doorbell, fetch, acceptance, dispatch, the end of work items
and copies, completion records, Function Level Reset.
-/

namespace Sys2Proof.Machine

open Sys2Proof

/-! ### Enable, disable, Function Level Reset (R399, R401) -/

/-- R399 for one tray: no fetching; what was dispatched runs to its end, the rest of its journal entries are freed. -/
def State.stopTray (s : State) (t : Nat) : State :=
  let s1 := s.setTray t { s.tray t with fetched := [] }
  let gone := fun (e : JEntry) => e.tray == t && (e.st == 2 || (e.st == 0 && e.replays == 0))
  ((({ s1 with journal := s1.journal.filter (fun e => !gone e) }).setF (R.HQ_T_CTRL.enable t) 0).setF (R.HQ_T_STATUS.state t) 4).discard t

/-- R399, R435: an FLR of function f; one of the PF is one of every VF, clears VF Enable and resets the host as a
receiver of pigeonholes. (DEDUCED, log entry 84.) -/
def flrOp (s : State) (f : Nat) : State :=
  s.guard (decide (f < 17)) (fun s =>
    let s1 := s.each (if f = 0 then allTrays else (List.range 64).map (fun i => f * 64 + i)) State.stopTray
    if f = 0 then { s1.receiverReset 0 with vfEnable := false } else s1)

def execFunctionLevelReset (f : Nat) (s : State) : Host.Outcome State Fault Refusal := whenUp s (fun s => flrOp s f)

/-- The read-write fields of HQ_Tn_CTRL but for enable. (DEDUCED, log entry 81.) -/
def State.trayCtrl (s : State) (t v : Nat) : State :=
  ((s.setF (R.HQ_T_CTRL.vector t) (bits v 25 16)).setF (R.HQ_T_CTRL.size_log2 t) (bits v 8 4)).setF (R.HQ_T_CTRL.int_enable t) (bits v 1 1)

/-- Table 14-9: a write of HQ_Tn_CTRL with enable = 1. On a tray that is not disabled it starts nothing.
(DEDUCED, log entry 81.) -/
def trayEnableOp (s : State) (t v : Nat) : State :=
  s.guard (decide (t < 1088) && bit v 0) (fun s =>
    let n := bits v 8 4
    let s1 := s.trayCtrl t v
    if s.trayState t ≠ 0 ∨ s.stepState 6 ≠ 2 ∨ n < 4 ∨ 16 < n then s1
    else
      let s2 := s1.each [R.HQ_T_DOORBELL t, R.HQ_T_ACCEPT t, R.HQ_T_DONE t, R.HQ_T_CQ_HEAD t] (fun s' r => s'.setW r 0)
      ((s2.setF (R.HQ_T_CTRL.enable t) 1).setW (R.HQ_T_STATUS t) 1).setTray t
        ⟨s.getPair (R.HQ_T_SQ_BASE_LO t), s.getPair (R.HQ_T_CQ_BASE_LO t), s.getPair (R.HQ_T_IDX_BASE_LO t), n, bits v 25 16, []⟩)

def execTrayEnable (t v : Nat) (s : State) : Host.Outcome State Fault Refusal := whenUp s (fun s => trayEnableOp s t v)

/-- Table 14-9: a write of HQ_Tn_CTRL with enable = 0. -/
def trayDisableOp (s : State) (t v : Nat) : State :=
  s.guard (decide (t < 1088) && !bit v 0) (fun s =>
    let s1 := s.trayCtrl t v
    if s.trayState t = 0 ∨ s.trayState t = 4 then s1 else s1.stopTray t)

def execTrayDisable (t v : Nat) (s : State) : Host.Outcome State Fault Refusal := whenUp s (fun s => trayDisableOp s t v)

/-! ### Counts (R401, R402) -/

/-- Distance from count b up to count a, modulo 2^32. -/
def countDist (a b : Nat) : Nat := (a % 2 ^ 32 + 2 ^ 32 - b % 2 ^ 32) % 2 ^ 32

/-- Is count a behind count b? -/
def countBehind (a b : Nat) : Bool := decide (2 ^ 31 ≤ countDist a b)

/-- R402. -/
def doorbellOp (s : State) (t v : Nat) : State :=
  s.guard (decide (t < 1088) && s.trayState t == 1) (fun s =>
    if countBehind v (s.getW (R.HQ_T_DOORBELL t)) ∨ 2 ^ (s.tray t).n < countDist v (s.getW (R.HQ_T_CQ_HEAD t)) then s.trayError t 1
    else s.setW (R.HQ_T_DOORBELL t) v)

def execDoorbell (t v : Nat) (s : State) : Host.Outcome State Fault Refusal := whenUp s (fun s => doorbellOp s t v)

/-- Table 14-12: H never passes D. -/
def cqHeadOp (s : State) (t v : Nat) : State :=
  s.guard (decide (t < 1088) && (s.trayState t == 1 || s.trayState t == 3)) (fun s =>
    if countBehind (s.getW (R.HQ_T_DONE t)) v then s else s.setW (R.HQ_T_CQ_HEAD t) v)

def execCqHead (t v : Nat) (s : State) : Host.Outcome State Fault Refusal := whenUp s (fun s => cqHeadOp s t v)

/-! ### Fetch and acceptance (R403-R406) -/

/-- Has the tray entries to fetch? -/
def State.trayWants (s : State) (t : Nat) : Bool :=
  s.trayState t == 1 && decide ((s.tray t).fetched.length < countDist (s.getW (R.HQ_T_DOORBELL t)) (s.getW (R.HQ_T_ACCEPT t)))

/-- R403: trays are served in round robin, the PF's first and then each VF's. -/
def State.trayNext (s : State) : Option Nat :=
  let l := (s.trays.map (fun x => x.1)).filter s.trayWants
  (l.find? (fun t => decide (s.trayTurn ≤ t))).or l.head?

/-- R403, R404: one read of up to 32 entries, from the first one not yet fetched; each comes with its bytes or fails.
(DEDUCED, log entry 82.) -/
def trayFetchOp (s : State) (t : Nat) (data : List HostRead) : State :=
  let x := s.tray t
  s.guard (decide (t < 1088) && s.trayNext == some t && !s.fetchPaused && !s.park.off && decide (data.length ≤ 32) &&
      decide (x.fetched.length + data.length ≤ countDist (s.getW (R.HQ_T_DOORBELL t)) (s.getW (R.HQ_T_ACCEPT t)))) (fun s =>
    let good := (data.takeWhile (fun r => r.isSome)).filterMap id
    let s1 := { s with trayTurn := t + 1 }.setTray t { x with fetched := x.fetched ++ good }
    if good.length < data.length then s1.trayError t 2 else s1)

def execTrayFetch (t : Nat) (data : List HostRead) (s : State) : Host.Outcome State Fault Refusal :=
  whenUp s (fun s => trayFetchOp s t data)

/-- R419: does [a, a+n) lie in the window of VF f? (DEDUCED, log entry 83.) -/
def State.inWindow (s : State) (f a n : Nat) : Bool :=
  n == 0 || (decide (s.getF (R.HQ_VF_WIN.base (f - 1)) * 2 ^ 23 ≤ a) && decide (a + n ≤ (s.getF (R.HQ_VF_WIN.limit (f - 1)) + 1) * 2 ^ 23))

def entHostAddr (b : List Byte) : Nat := entBody b 0 8
def entDevAddr (b : List Byte) : Nat := bits (entBody b 8 8) 38 0
def entLen (b : List Byte) : Nat := entBody b 16 4
def entIsCopy (b : List Byte) : Bool := entKind b == 3 || entKind b == 4

/-- R406: the result with which the checks end an entry at acceptance; 0 where they pass. (DEDUCED, log entry 82.) -/
def State.acceptResult (s : State) (t : Nat) (b : List Byte) : Nat :=
  let laid := s.runState == 4 || s.runState == 5
  if s.runState = 6 then 3
  else if !entReservedOk b || entKind b = 0 || 5 < entKind b then 4
  else if (entKind b = 1 || entKind b = 2) && !laid then 5
  else if entKind b = 1 && (decide (s.fromLayout 0 (fun i => (actsOf i).elim 0 (fun x => x.1)) ≤ entAct b) ||
      !s.present (entCore b / 8) (entCore b % 8)) then 5
  else if entIsCopy b && decide (64 ≤ t) && !s.inWindow (trayFn t) (entDevAddr b) (entLen b) then 5
  else 0

/-- R403: the limit on A - H. -/
def State.maxOut (s : State) (t : Nat) : Nat :=
  let m := s.getW (R.HQ_T_MAXOUT t)
  if m = 0 ∨ 2 ^ (s.tray t).n < m then 2 ^ (s.tray t).n else m

/-- R413: the journal fills up. -/
def State.journalFills (s : State) : State := if journalSize ≤ s.journal.length then s.flagC R.HQ_FLAGS.journal_full 11 else s

/-- R403-R408: the next fetched entry is journaled and A is written to the index area; an entry whose checks fail, and a
NOP, have finished. -/
def entryAcceptOp (s : State) (t : Nat) (indexOk : Bool) : State :=
  let x := s.tray t
  let a := s.getW (R.HQ_T_ACCEPT t)
  match x.fetched with
  | [] => s
  | b :: rest =>
    s.guard (decide (s.journal.length < journalSize) && decide (countDist a (s.getW (R.HQ_T_CQ_HEAD t)) < s.maxOut t)) (fun s =>
      let res := s.acceptResult t b
      let fin := res != 0 || entKind b == 5
      let e : JEntry := ⟨s.nextJid, t, a, b, if fin then 2 else 0, statusWord res false 0, 0, 0, 0, 0⟩
      let s1 := ({ s with journal := s.journal ++ [e], nextJid := s.nextJid + 1 } : State).setTray t { x with fetched := rest }
      let s2 := (s1.setW (R.HQ_T_ACCEPT t) (a + 1)).journalFills
      if indexOk then s2.emit (.hostWrite x.idx (leBytes 4 ((a + 1) % 2 ^ 32))) else s2.trayError t 3)

def execEntryAccept (t : Nat) (indexOk : Bool) (s : State) : Host.Outcome State Fault Refusal :=
  whenUp s (fun s => entryAcceptOp s t indexOk)

/-! ### Dispatch (R407, R408) -/

/-- R407: have two entries the same target: a logical core, a sequence, or for a COPY their tray? -/
def sameTarget (x y : JEntry) : Bool :=
  (entKind x.bytes == 1 && entKind y.bytes == 1 && entCore x.bytes == entCore y.bytes) ||
  (entKind x.bytes == 2 && entKind y.bytes == 2 && recSeq (entKv x.bytes) == recSeq (entKv y.bytes)) ||
  (entIsCopy x.bytes && entIsCopy y.bytes && x.tray == y.tray)

/-- R407, R414: does an earlier entry x of the journal hold back the dispatch of e? (DEDUCED, log entry 85.) -/
def holdsBack (e x : JEntry) : Bool :=
  (x.tray == e.tray && entFence e.bytes && x.st != 2) ||
  (sameTarget e x && (x.st == 0 || x.st == 3) && (x.tray == e.tray || x.st == 3 || x.replays != 0))

/-- R307, R316, R407, R427: may a WORK entry start on its core now? A pass waits for another pass of its sequence; an
operation is in progress only within its own step (R268; log entry 36). (DEDUCED, log entry 80.) -/
def State.workMay (s : State) (b : List Byte) : Bool :=
  let u := s.coreKey (entCore b)
  s.present (entCore b / 8) (entCore b % 8) && s.runsEpochs && entAct b == s.act && !s.lay.switchDue && coreIdle (s.core u) &&
  !s.coreInReset u && s.ccRuns (1 + u / 9) &&
  !(entSeqPresent b && s.kv.passes.any (fun p => p.seq == entSeq b))

/-- R275, R408: a WORK entry's chain starts on its core, after the snapshot of the sequence it names.
(DEDUCED, log entry 80.) -/
def State.startWork (s : State) (e : JEntry) : State :=
  let w : WorkSt := ⟨e.jid, some (entDesc e.bytes), 0, 0, false, 0⟩
  let start := fun (s : State) => (s.jSet e.jid (fun e => { e with st := 1 })).setCore (s.coreKey (entCore e.bytes)) (fun t => { t with work := some w })
  if entSeqPresent e.bytes then
    let r := s.pinPass e.jid (entSeq e.bytes)
    if r.2 then start r.1 else r.1.finishEntry e.jid (statusWord 7 false 0) 0 0 0
  else start s

/-- R407: an accepted entry goes to its target. -/
def entryDispatchOp (s : State) (t jid : Nat) : State :=
  match s.jFind jid with
  | none => s
  | some e =>
    let earlier := s.journal.takeWhile (fun x => x.jid != jid)
    if e.tray ≠ t ∨ e.st ≠ 0 ∨ s.paused = true ∨ earlier.any (fun x => holdsBack e x) = true then s
    else if entKind e.bytes = 1 then s.guard (s.workMay e.bytes) (fun s => s.startWork e)
    else
      let s1 := s.jSet jid (fun e => { e with st := 1 })
      if entKind e.bytes = 2 then ({ s1 with kv := { s1.kv with ops := s1.kv.ops ++ [(⟨jid, entKv e.bytes, false⟩ : KvOp)] } }).showKvm else s1

def execEntryDispatch (t jid : Nat) (s : State) : Host.Outcome State Fault Refusal := whenUp s (fun s => entryDispatchOp s t jid)

/-! ### Work items end (R408) -/

/-- R408, R275: the last descriptor and any finish pass are over: the status word is built and the pass unpinned. -/
def workFinishOp (s : State) (u : Nat) : State :=
  let t := s.core u
  match t.work with
  | none => s
  | some w =>
    s.guard (w.next.isNone && t.ops.isEmpty && t.finish.isNone) (fun s =>
      let s1 := s.setCore u (fun t => { t with work := none })
      (s1.unpinPass w.jid).finishEntry w.jid (statusWord w.result w.nothing w.sticky) w.tag 0 0)

def execWorkFinish (u : Nat) (s : State) : Host.Outcome State Fault Refusal := whenUp s (fun s => workFinishOp s u)

/-! ### Copies (R409) -/

/-- A copy under way: bytes moved, its result so far (0xF: an access is held, the copy waits). -/
structure Copy where
  st : State
  moved : Nat
  result : Nat

/-- R409: the result that the status of a device access gives. -/
def copyResult (status : Nat) : Nat := if status = 0 then 0 else if status = 2 then 8 else if status = 0xF then 0xF else 7

/-- The host master's access for a copy; past the last device address nothing answers. (DEDUCED, log entry 83.) -/
def State.copyAccess (s : State) (a n : Nat) (write : Option (List Byte)) : State × Nat × List Byte :=
  if 2 ^ 39 ≤ a then (s, 1, [])
  else
    let r := s.access ⟨.master hostMid, hostMid, true, a, n, write, [], none⟩
    match r.2 with
    | .done st d => (r.1, st, d)
    | _ => (s, 0xF, [])

/-- The parts of [a, a+n) that lie in one sector each, in ascending order. -/
def sectorParts (a n : Nat) : List (Nat × Nat) :=
  (sectorsOf a n).map (fun x => (max a x, min (a + n) (x + 64) - max a x))

/-- Bytes of one host read go to device memory. -/
def Copy.put (c : Copy) (a : Nat) (bytes : List Byte) : Copy :=
  (sectorParts a bytes.length).foldl (fun (c : Copy) p =>
    if c.result ≠ 0 then c
    else
      let r := c.st.copyAccess p.1 p.2 (some ((bytes.drop (p.1 - a)).take p.2))
      if r.2.1 = 0 then ⟨r.1, c.moved + p.2, 0⟩ else ⟨r.1, c.moved, copyResult r.2.1⟩) c

/-- The end of a copy's command: it goes on later, or the entry finishes. -/
def Copy.settle (c : Copy) (e : JEntry) : State :=
  let len := entLen e.bytes
  if c.result = 0xF ∨ (c.result = 0 ∧ c.moved < len) then c.st.jSet e.jid (fun e => { e with detail := c.moved })
  else c.st.finishEntry e.jid (statusWord c.result (len == 0) 0) 0 0 c.moved

/-- The dispatched COPY entry of a kind under a journal number. -/
def State.copyEntry (s : State) (jid kind : Nat) : Option JEntry := (s.jFind jid).filter (fun e => e.st == 1 && entKind e.bytes == kind)

/-- R409: host reads arrive in ascending order, each with its bytes or failed; bytes beyond the length are not taken. -/
def copyInOp (s : State) (jid : Nat) (data : List HostRead) : State :=
  match s.copyEntry jid 3 with
  | none => s
  | some e =>
    (data.foldl (fun (c : Copy) r =>
      if c.result ≠ 0 ∨ entLen e.bytes ≤ c.moved then c
      else match r with
        | none => { c with result := 6 }
        | some b => c.put (entDevAddr e.bytes + c.moved) (b.take (entLen e.bytes - c.moved))) (⟨s, e.detail, 0⟩ : Copy)).settle e

def execCopyIn (jid : Nat) (data : List HostRead) (s : State) : Host.Outcome State Fault Refusal := whenUp s (fun s => copyInOp s jid data)

/-- One sector's part of a COPY_OUT: read, then written to the host, which may reject the write at an offset. -/
def Copy.get (c : Copy) (e : JEntry) (rejectAt : Option Nat) (p : Nat × Nat) : Copy :=
  if c.result ≠ 0 then c
  else
    let r := c.st.copyAccess p.1 p.2 none
    if r.2.1 ≠ 0 then ⟨r.1, c.moved, copyResult r.2.1⟩
    else
      let host := entHostAddr e.bytes + c.moved
      match rejectAt with
      | some k =>
        if k < c.moved + p.2 then
          let n := k - c.moved
          ⟨if n = 0 then r.1 else r.1.emit (.hostWrite host (r.2.2.take n)), c.moved + n, 6⟩
        else ⟨r.1.emit (.hostWrite host r.2.2), c.moved + p.2, 0⟩
      | none => ⟨r.1.emit (.hostWrite host r.2.2), c.moved + p.2, 0⟩

/-- R409: the rest of a COPY_OUT goes to host memory; `rejectAt`: the host rejects the write of the byte at this offset. -/
def copyOutOp (s : State) (jid : Nat) (rejectAt : Option Nat) : State :=
  match s.copyEntry jid 4 with
  | none => s
  | some e =>
    ((sectorParts (entDevAddr e.bytes + e.detail) (entLen e.bytes - e.detail)).foldl (fun c p => c.get e rejectAt p)
      (⟨s, e.detail, 0⟩ : Copy)).settle e

def execCopyOut (jid : Nat) (rejectAt : Option Nat) (s : State) : Host.Outcome State Fault Refusal :=
  whenUp s (fun s => copyOutOp s jid rejectAt)

/-! ### Completion records (R410) -/

/-- Table 14-7. -/
def completionBytes (e : JEntry) : List Byte :=
  leBytes 8 (entTag e.bytes) ++ leBytes 4 e.count ++ leBytes 2 e.status ++ leBytes 2 e.outTag ++ leBytes 1 (entKind e.bytes) ++
  leBytes 1 (e.kvRes % 16) ++ leBytes 2 0 ++ leBytes 4 e.detail ++ leBytes 8 0

/-- R398, R410: the tray's message; a vector outside the function's tray vectors sends none. (DEDUCED, log entry 86.) -/
def State.trayMessage (s : State) (t : Nat) : State :=
  let v := (s.tray t).vector
  if s.isSet (R.HQ_T_CTRL.int_enable t) && (if t < 64 then decide (64 ≤ v) else decide (v < 64)) then s.sendMsix (trayFn t) v else s

/-- Table 14-13: a record with result 0x3 was written. -/
def State.noteAborted (s : State) (e : JEntry) : State :=
  if bits e.status 15 12 = 3 then (s.flagC R.HQ_FLAGS.aborted 11).incSat R.HQ_ABORTS.count 1 else s

/-- R410, R413: the record of entry D, then D, then a message; the journal entry is free again. (DEDUCED, log entry 79.) -/
def completionOp (s : State) (t : Nat) : State :=
  let d := s.getW (R.HQ_T_DONE t)
  let x := s.tray t
  match s.journal.find? (fun e => e.tray == t && e.count == d && e.st == 2) with
  | none => s
  | some e =>
    s.guard (s.trayState t == 1 || s.trayState t == 3) (fun s =>
      let s1 := s.emit (.hostWrite (x.cq + 32 * (d % 2 ^ x.n)) (completionBytes e))
      let s2 := (s1.setW (R.HQ_T_DONE t) (d + 1)).emit (.hostWrite (x.idx + 4) (leBytes 4 ((d + 1) % 2 ^ 32)))
      let s3 := ({ s2 with journal := s2.journal.filter (fun y => y.jid != e.jid) } : State).noteAborted e
      if entInt e.bytes then s3.trayMessage t else s3)

def execCompletionRecordWrite (t : Nat) (s : State) : Host.Outcome State Fault Refusal := whenUp s (fun s => completionOp s t)

end Sys2Proof.Machine
end

