-- ==== Sys2Proof/Machine/Vector.lean ====
section
/-!
DEFINITION. The vector engine's commands (chapter 04): invocations, the 27 chain instructions, arrivals of sent vectors. An
instruction command takes effect when its word is the next one of an invocation in progress (R112, R113).
-/

namespace Sys2Proof.Machine

open Sys2Proof

/-! ### Invocations (R106-R108, R117) -/

/-- R108: the epilogue that starts next: that of the block that finished its last pass first, once it is drained. -/
def nextEpilogue (t : CoreSt) : Option Drained :=
  t.order.head?.bind (fun x => t.epi.find? (fun e => e.sub == x.1 && e.id == x.2))

/-- R108: epilogues start in the order in which their blocks finished; a block's deferred chain runs before the next one (R160). -/
def epilogueOp (s : State) (u : Nat) : State :=
  let t := s.core u
  match t.ctx, t.defer, nextEpilogue t with
  | none, [], some e =>
    let o := t.op e.id.op
    match chainPtr o.desc.epiChain with
    | none => s
    | some ch =>
      (s.setCore u (fun t => { t with epi := t.epi.filter (· != e), order := t.order.drop 1 })).startInvocation u
        ⟨0, ch, e.id, e.sub, 0, e.id.block * blockRows o.desc, e.rows.length, e.rows, false, 0, 0, 0, []⟩
  | _, _, _ => s

def execEpilogueInvocation (u : Nat) (s : State) : Host.Outcome State Fault Refusal := whenUp s (fun s => epilogueOp s u)

/-- The blocks that the prologues of sub-array i make, in their order: operation, tile, block. -/
def proBlocks (t : CoreSt) (i : Nat) : List (Nat × TilePos × Nat) :=
  (List.range t.ops.length).flatMap (fun k =>
    let o := t.op k
    if (chainPtr o.desc.proChain).isSome && !shapeEmpty o.shape then
      (xTiles o.desc o.shape i).flatMap (fun p => (List.range (blocks o.desc o.shape)).map (fun b => (k, p, b)))
    else [])

/-- R162: the landing tile of a block's scale-and-shift vector. -/
def vectorTile (o : OpSt) (head b : Nat) : Nat := o.desc.definLanding + head * blocks o.desc o.shape + b

/-- R111, R162: the rows of a block as FP32, and whether a value overflowed. -/
def State.proRows (s : State) (u : Nat) (o : OpSt) (i : Nat) (p : TilePos) (b : Nat) : List Vec × Bool :=
  let d := o.desc
  let t := s.core u
  let ab := fun (r w : Nat) => BitVec.ofNat 32 (tileBits t ((s.landTile u (vectorTile o p.head b)).elim 0 (fun c => c.off) + 8 * r + 4 * w) 0 32)
  let cell := fun (r k : Nat) =>
    let e := s.xRaw u o i p b r k
    let v := Num.scaleVal e.2 (Num.decodeElem d.fmtX e.1)
    let x := Num.rne v
    (if d.deferredIn then Num.fmaW x (ab r 0) (ab r 1) else x, Num.isFin v && !Num.isFin (Num.val x))
  let rows := (List.range (rowsOf o b)).map (fun r => (List.range (subK d.mode)).map (cell r))
  (rows.map (fun r => r.map (fun z => z.1)), rows.any (fun r => r.any (fun z => z.2)))

/-- R107: the next block whose prologue sub-array i runs: operation, tile, block. -/
def nextPrologue (t : CoreSt) (i : Nat) : Option (Nat × TilePos × Nat) :=
  (proBlocks t i).find? (fun z => !Tbl.get false t.proDone (copyKey z.1 z.2.1.head z.2.1.kt z.2.2))

/-- R107: the next block of streamed rows of sub-array i starts its prologue once it has arrived (R133) and its
scale-and-shift vector has (R162). -/
def prologueOp (s : State) (u i : Nat) : State :=
  let t := s.core u
  match t.pctx, nextPrologue t i with
  | none, some (k, p, b) =>
    let o := t.op k
    match chainPtr o.desc.proChain with
    | none => s
    | some ch =>
      let rows := List.range (rowsOf o b)
      if !s.unitHere u o.desc.x (xUnit o i p b) || !s.landedAll u (rowRanges o p b false rows) then
        (s.setF (R.COR_VEC_STATUS.wait_input u) 1).incSat (R.COR_VEC_WAIT_IN.wait u) 1
      else if o.desc.deferredIn && !s.arrived u (vectorTile o p.head b) then
        (s.setF (R.COR_FUS_STATUS.wait_vector u) 1).incSat (R.COR_ARR_WAIT_ARRIVE.wait u) 1
      else
        let tr := s.touchScales u o.desc.fmtX o.desc.x (rowScales o p b rows)
        if tr.2 = 2 then s
        else if tr.2 ≠ 0 then tr.1.failWork u 7
        else
          let r := tr.1.proRows u o i p b
          let s1 := ((tr.1.consumeUnit u o.desc.x (xUnit o i p b)).setF (R.COR_VEC_STATUS.wait_input u) 0).setF (R.COR_FUS_STATUS.wait_vector u) 0
          (s1.convFlags u k r.2 false).startInvocation u
            ⟨1, ch, ⟨k, p.head, p.nt, b⟩, i, p.kt, b * blockRows o.desc, rowsOf o b, r.1, false, 0, 0, 0, []⟩
  | _, _ => s

def execPrologueInvocation (u sub : Nat) (s : State) : Host.Outcome State Fault Refusal := whenUp s (fun s => prologueOp s u sub)

/-! ### Arithmetic and moves (R119-R123) -/

def execVNop (u : Nat) (f : VecF) (s : State) : Host.Outcome State Fault Refusal :=
  whenUp s (fun s => s.vecIssue u 0x00 f noWait id)
def execVAdd (u : Nat) (f : VecF) (s : State) : Host.Outcome State Fault Refusal :=
  whenUp s (fun s => s.vecIssue u 0x01 f noWait (fun x => x.map2 Num.addW))
def execVSub (u : Nat) (f : VecF) (s : State) : Host.Outcome State Fault Refusal :=
  whenUp s (fun s => s.vecIssue u 0x02 f noWait (fun x => x.map2 Num.subW))
def execVMul (u : Nat) (f : VecF) (s : State) : Host.Outcome State Fault Refusal :=
  whenUp s (fun s => s.vecIssue u 0x03 f noWait (fun x => x.map2 Num.mulW))
def execVFma (u : Nat) (f : VecF) (s : State) : Host.Outcome State Fault Refusal :=
  whenUp s (fun s => s.vecIssue u 0x04 f noWait (fun x => x.map3 Num.fmaW))
def execVFms (u : Nat) (f : VecF) (s : State) : Host.Outcome State Fault Refusal :=
  whenUp s (fun s => s.vecIssue u 0x05 f noWait (fun x => x.map3 Num.fmsW))
def execVMax (u : Nat) (f : VecF) (s : State) : Host.Outcome State Fault Refusal :=
  whenUp s (fun s => s.vecIssue u 0x06 f noWait (fun x => x.map2 Num.maxW))
def execVMin (u : Nat) (f : VecF) (s : State) : Host.Outcome State Fault Refusal :=
  whenUp s (fun s => s.vecIssue u 0x07 f noWait (fun x => x.map2 Num.minW))

/-- UNA: MOV, ABS, NEG. -/
def unaW (fn : Nat) : Word32 → Word32 := if fn = 0 then Num.canon else if fn = 1 then Num.absW else Num.negW
def execVUna (u : Nat) (f : VecF) (s : State) : Host.Outcome State Fault Refusal :=
  whenUp s (fun s => s.vecIssue u 0x08 f noWait (fun x => x.map1 (unaW f.fn)))

/-- R121: CMP conditions. -/
def cmpW (fn : Nat) (a b : Word32) : Bool :=
  let x := Num.val a
  let y := Num.val b
  let un := Num.isNan x || Num.isNan y
  if fn = 0 then Num.veq x y else if fn = 1 then !Num.veq x y
  else if fn = 2 then Num.lt x y else if fn = 3 then Num.lt x y || Num.veq x y
  else if fn = 4 then Num.lt y x else if fn = 5 then Num.lt y x || Num.veq x y
  else if fn = 6 then un else !un

def VX.cmp (x : VX) : VX :=
  let a := x.v x.f.va
  let b := x.vb
  x.putP x.on (fun l => cmpW x.f.fn (a.getD l 0) (b.getD l 0))

def execVCmp (u : Nat) (f : VecF) (s : State) : Host.Outcome State Fault Refusal :=
  whenUp s (fun s => s.vecIssue u 0x09 f noWait (fun x => x.cmp))

def VX.sel (x : VX) : VX :=
  let pc := x.p (x.f.vc % 16)
  let a := x.v x.f.va
  let b := x.vb
  x.put x.on ((List.range 512).map (fun l => stage x.d (Num.canon (if pc.getLsbD l then a.getD l 0 else b.getD l 0))))

def execVSel (u : Nat) (f : VecF) (s : State) : Host.Outcome State Fault Refusal :=
  whenUp s (fun s => s.vecIssue u 0x0A f noWait (fun x => x.sel))

def VX.cvt (x : VX) : VX :=
  let c := cvtLanes x.d x.f (x.srcLanes x.on)
  (x.put x.on (c.1.map (fun z => z.getD 0))).flags c.2.1 c.2.2

def execVCvt (u : Nat) (f : VecF) (s : State) : Host.Outcome State Fault Refusal :=
  whenUp s (fun s => s.vecIssue u 0x0B f noWait (fun x => x.cvt))
def execVExp2 (u : Nat) (f : VecF) (s : State) : Host.Outcome State Fault Refusal :=
  whenUp s (fun s => s.vecIssue u 0x0C f noWait (fun x => x.map1 Num.exp2W))
def execVLog2 (u : Nat) (f : VecF) (s : State) : Host.Outcome State Fault Refusal :=
  whenUp s (fun s => s.vecIssue u 0x0D f noWait (fun x => x.map1 Num.log2W))
def execVRcp (u : Nat) (f : VecF) (s : State) : Host.Outcome State Fault Refusal :=
  whenUp s (fun s => s.vecIssue u 0x0E f noWait (fun x => x.map1 Num.rcpW))
def execVRsqrt (u : Nat) (f : VecF) (s : State) : Host.Outcome State Fault Refusal :=
  whenUp s (fun s => s.vecIssue u 0x0F f noWait (fun x => x.map1 Num.rsqrtW))

/-- R121: the lane that SHUF brings to lane l of its segment. -/
def shufLane (fn imm w : Nat) (b : Word32) (l : Nat) : Nat :=
  if fn = 0 then (l + imm) % w else if fn = 1 then w - 1 - l else if fn = 2 then imm % w else b.toNat % w

def VX.shuf (x : VX) : VX :=
  let a := x.v x.f.va
  let b := x.vb
  x.put x.on ((List.range 512).map (fun l =>
    a.getD (l / x.w * x.w + shufLane x.f.fn x.f.imm x.w (b.getD l 0) (l % x.w)) 0))

def execVShuf (u : Nat) (f : VecF) (s : State) : Host.Outcome State Fault Refusal :=
  whenUp s (fun s => s.vecIssue u 0x10 f noWait (fun x => x.shuf))

/-! ### Row reductions and statistics (R121, R124-R126) -/

/-- R124: a segment's reduction; an inactive lane is absent. -/
def reduce (fn logW : Nat) (l : List (Option Word32)) : Word32 :=
  if fn = 1 then Num.maxList (l.map (fun z => z.getD Num.nInf))
  else if fn = 2 then Num.minList (l.map (fun z => z.getD Num.pInf))
  else if fn = 3 then Num.treeSum logW (l.map (fun z => match z with | some a => Num.mulW a a | none => 0))
  else Num.treeSum logW (l.map (fun z => z.getD 0))

/-- R124: combine a statistic with a new value. -/
def combine (fn : Nat) (old v : Word32) : Word32 :=
  if fn = 1 then Num.maxW old v else if fn = 2 then Num.minW old v else Num.addW old v

/-- Write statistic j of the row that segment q holds, where that row is below the run-time M. -/
def VX.putStat (x : VX) (q j : Nat) (g : Word32 → Word32) : VX :=
  let row := x.vecIdx * x.segs + q
  if x.c.seg = 1 ∧ row < x.c.rows then
    x.setT (fun t => { t with stats := Tbl.modify 0 t.stats (statKey x.c.sub row j) (fun a => stage x.d (g a)) })
  else x

def VX.rred (x : VX) : VX :=
  let a := x.srcLanes x.onRow
  let res := (List.range x.segs).map (fun q => stage x.d (reduce x.f.fn (Nat.log2 x.w) ((a.drop (q * x.w)).take x.w)))
  let y := x.put x.onRow ((List.range 512).map (fun l => res.getD (l / x.w) 0))
  if bit x.f.imm 3 then
    (List.range x.segs).foldl (fun (y : VX) q => y.putStat q (bits x.f.imm 2 0) (fun old =>
      if bit x.f.imm 4 then combine x.f.fn old (res.getD q 0) else res.getD q 0)) y
  else y

def execVRred (u : Nat) (f : VecF) (s : State) : Host.Outcome State Fault Refusal :=
  whenUp s (fun s => s.vecIssue u 0x11 f noWait (fun x => x.rred))

def VX.strd (x : VX) : VX :=
  x.put x.onRow ((List.range 512).map (fun l =>
    Tbl.get 0 x.t.stats (statKey x.c.sub (laneRow x.d x.c x.vecIdx l) (bits x.f.imm 2 0))))

def execVStrd (u : Nat) (f : VecF) (s : State) : Host.Outcome State Fault Refusal :=
  whenUp s (fun s => s.vecIssue u 0x12 f noWait (fun x => x.strd))

def VX.stwr (x : VX) : VX :=
  let a := x.v x.f.va
  (List.range x.segs).foldl (fun (y : VX) q =>
    if x.onRow (q * x.w) then y.putStat q (bits x.f.imm 2 0) (fun _ => a.getD (q * x.w) 0) else y) x

def execVStwr (u : Nat) (f : VecF) (s : State) : Host.Outcome State Fault Refusal :=
  whenUp s (fun s => s.vecIssue u 0x13 f noWait (fun x => x.stwr))

/-! ### Predicates (R121, R127) -/

/-- R127: a lane of a generated predicate, from its row and column and the two scalars as integers. -/
def pgenLane (fn : Nat) (row col a b : Int) : Bool :=
  if fn = 0 then decide (col ≤ row + a)
  else if fn = 1 then decide (row + a - b < col) && decide (col ≤ row + a)
  else if fn = 2 then decide (a ≤ col) && decide (col < b)
  else fn == 3

/-- R127: the absolute M index of a lane's row. -/
def VX.mIndex (x : VX) (l : Nat) : Nat := (rowAt x.o x.c.id.head (x.foldedRow l)).2.2

def VX.pgen (x : VX) : VX :=
  let a := (x.sc (x.f.va % 32)).toInt
  let b := (x.sc (x.f.vb % 32)).toInt
  x.putP x.onRow (fun l => pgenLane x.f.fn (x.mIndex l) (absCol x.d x.c l) a b)

def execVPgen (u : Nat) (f : VecF) (s : State) : Host.Outcome State Fault Refusal :=
  whenUp s (fun s => s.vecIssue u 0x14 f noWait (fun x => x.pgen))

/-- R121: PLOG. -/
def plogLane (fn : Nat) (a b : Bool) : Bool :=
  if fn = 0 then a && b else if fn = 1 then a || b else if fn = 2 then a && !b else if fn = 3 then xor a b else !a

def VX.plog (x : VX) : VX :=
  let a := x.p (x.f.va % 16)
  let b := x.p (x.f.vb % 16)
  x.putP x.on (fun l => plogLane x.f.fn (a.getLsbD l) (b.getLsbD l))

def execVPlog (u : Nat) (f : VecF) (s : State) : Host.Outcome State Fault Refusal :=
  whenUp s (fun s => s.vecIssue u 0x15 f noWait (fun x => x.plog))

/-! ### Loads, stores, messages (R128-R135) -/

def execVLd (u : Nat) (f : VecF) (s : State) : Host.Outcome State Fault Refusal :=
  whenUp s (fun s => s.vecIssue u 0x16 f ldWait (fun x => x.load))

/-- R130, R143: the three destinations of ST; a score chain's fn 0 goes to the softmax stage. -/
def VX.store (x : VX) : VX :=
  if x.f.fn = 1 then x.storeSide
  else if x.f.fn = 2 then x.storeCopy
  else if x.d.kind = 2 then x.storeScores
  else x.storeOut

def execVSt (u : Nat) (f : VecF) (s : State) : Host.Outcome State Fault Refusal :=
  whenUp s (fun s => s.vecIssue u 0x17 f noWait (fun x => x.store))

/-- R135, R26: the target core, and whether its receive register is full or has a transfer on the way.
(DESIGN CHOICE, log entry 139.) -/
def VX.sendTo (x : VX) : Nat := x.s.coreKey (bits x.f.imm 14 10)

def sendWait (x : VX) : Option Nat :=
  let t := x.s.core x.sendTo
  let r := bits x.f.imm 2 0
  if Tbl.get false t.rrFull r || t.sends.any (fun z => z.1 == r) then some 2 else none

/-- A core inside a reset takes in what is sent to it and loses it (R449). -/
def VX.send (x : VX) : VX :=
  if x.s.coreInReset x.sendTo then { x with s := x.s.absorb (fun r => r.hasCore x.sendTo) true }
  else { x with s := x.s.setCore x.sendTo (fun t => { t with sends := t.sends ++ [(bits x.f.imm 2 0, packVec (x.v x.f.va))] }) }

def execVSend (u : Nat) (f : VecF) (s : State) : Host.Outcome State Fault Refusal :=
  whenUp s (fun s => s.vecIssue u 0x18 f sendWait (fun x => x.send))

/-- R135: the oldest vector on its way to the core stands in its receive register. -/
def sendArrivalOp (s : State) (u : Nat) : State :=
  s.setCore u (fun t => match t.sends with
    | [] => t
    | (r, v) :: rest => { t with sends := rest, rr := Tbl.set [] t.rr r v, rrFull := Tbl.set false t.rrFull r true })

def execSendArrival (u : Nat) (s : State) : Host.Outcome State Fault Refusal := whenUp s (fun s => sendArrivalOp s u)

/-- A receive register that holds nothing is a source that is not ready. -/
def recvWait (x : VX) : Option Nat := if Tbl.get false x.t.rrFull (bits x.f.imm 2 0) then none else some 0

def VX.recv (x : VX) : VX :=
  let r := bits x.f.imm 2 0
  let y := x.put x.on (lanes (Tbl.get [] x.t.rr r))
  y.setT (fun t => { t with rrFull := Tbl.set false t.rrFull r false })

def execVRecv (u : Nat) (f : VecF) (s : State) : Host.Outcome State Fault Refusal :=
  whenUp s (fun s => s.vecIssue u 0x19 f recvWait (fun x => x.recv))

/-- R121: SOP. -/
def VX.sop (x : VX) : VX :=
  let a := x.sc (x.f.va % 32)
  let b := x.sc (x.f.vb % 32)
  let fn := x.f.fn
  x.putS (if fn = 0 then BitVec.ofInt 32 (signed 15 x.f.imm) else if fn = 1 then BitVec.ofNat 32 (x.f.imm % 2 ^ 15 * 2 ^ 17)
    else if fn = 2 then a + b else if fn = 3 then Num.addW a b else if fn = 4 then Num.mulW a b
    else (x.v x.f.va).getD 0 0)

def execVSop (u : Nat) (f : VecF) (s : State) : Host.Outcome State Fault Refusal :=
  whenUp s (fun s => s.vecIssue u 0x1A f noWait (fun x => x.sop))

end Sys2Proof.Machine
end

