-- ==== Sys2Proof/Machine/Dispatch.lean ====
section
/-!
DEFINITION. One arm per command, each a direct call of its meaning.
-/

namespace Sys2Proof.Machine

open Sys2Proof

def exec (cmd : Instr) (s : State) : Host.Outcome State Fault Refusal :=
  match cmd with
  | .bar0BadAccess m write off detail => Sys2Proof.Machine.execBar0BadAccess m write off detail s
  | .reg64LoRead m off => Sys2Proof.Machine.execReg64LoRead m off s
  | .reg64HiWrite m off v => Sys2Proof.Machine.execReg64HiWrite m off v s
  | .rcRead m off => Sys2Proof.Machine.execRcRead m off s
  | .registerWrite m off v hwSet => Sys2Proof.Machine.execRegisterWrite m off v hwSet s
  | .powerUp inOrder => Sys2Proof.Machine.execPowerUp inOrder s
  | .powerRemoval => Sys2Proof.Machine.execPowerRemoval s
  | .brownOut => Sys2Proof.Machine.execBrownOut s
  | .vioExcursion => Sys2Proof.Machine.execVioExcursion s
  | .vaonExcursion => Sys2Proof.Machine.execVaonExcursion s
  | .perstNAssert => Sys2Proof.Machine.execPerstNAssert s
  | .perstNRelease behavSel => Sys2Proof.Machine.execPerstNRelease behavSel s
  | .hotReset => Sys2Proof.Machine.execHotReset s
  | .linkDown => Sys2Proof.Machine.execLinkDown s
  | .functionLevelReset f => Sys2Proof.Machine.execFunctionLevelReset f s
  | .bootStep2 v fw park => Sys2Proof.Machine.execBootStep2 v fw park s
  | .bootStep3 v faulted => Sys2Proof.Machine.execBootStep3 v faulted s
  | .bootStep4 v res => Sys2Proof.Machine.execBootStep4 v res s
  | .bootStep5 v badCores => Sys2Proof.Machine.execBootStep5 v badCores s
  | .bootStep6 v lic => Sys2Proof.Machine.execBootStep6 v lic s
  | .bootStepOutOfOrder v => Sys2Proof.Machine.execBootStepOutOfOrder v s
  | .bootStepEnd timeUs => Sys2Proof.Machine.execBootStepEnd timeUs s
  | .resetCore v => Sys2Proof.Machine.execResetCore v s
  | .resetCluster v => Sys2Proof.Machine.execResetCluster v s
  | .resetPartition v => Sys2Proof.Machine.execResetPartition v s
  | .unitUncorrectableReset level chest target => Sys2Proof.Machine.execUnitUncorrectableReset level chest target s
  | .partialResetEnd level chest target badCores => Sys2Proof.Machine.execPartialResetEnd level chest target badCores s
  | .islandRegulatorFault u => Sys2Proof.Machine.execIslandRegulatorFault u s
  | .arrSlotIssue u sub => Sys2Proof.Machine.execArrSlotIssue u sub s
  | .arrFillRow u sub => Sys2Proof.Machine.execArrFillRow u sub s
  | .arrSlotComplete u sub => Sys2Proof.Machine.execArrSlotComplete u sub s
  | .blockRotation u sub => Sys2Proof.Machine.execBlockRotation u sub s
  | .drain u sub => Sys2Proof.Machine.execDrain u sub s
  | .arrHold u hold => Sys2Proof.Machine.execArrHold u hold s
  | .arrDuty u v => Sys2Proof.Machine.execArrDuty u v s
  | .dutyWindow u => Sys2Proof.Machine.execDutyWindow u s
  | .landingWrite w => Sys2Proof.Machine.execLandingWrite w s
  | .epilogueInvocation u => Sys2Proof.Machine.execEpilogueInvocation u s
  | .prologueInvocation u sub => Sys2Proof.Machine.execPrologueInvocation u sub s
  | .vNop u f => Sys2Proof.Machine.execVNop u f s
  | .vAdd u f => Sys2Proof.Machine.execVAdd u f s
  | .vSub u f => Sys2Proof.Machine.execVSub u f s
  | .vMul u f => Sys2Proof.Machine.execVMul u f s
  | .vFma u f => Sys2Proof.Machine.execVFma u f s
  | .vFms u f => Sys2Proof.Machine.execVFms u f s
  | .vMax u f => Sys2Proof.Machine.execVMax u f s
  | .vMin u f => Sys2Proof.Machine.execVMin u f s
  | .vUna u f => Sys2Proof.Machine.execVUna u f s
  | .vCmp u f => Sys2Proof.Machine.execVCmp u f s
  | .vSel u f => Sys2Proof.Machine.execVSel u f s
  | .vCvt u f => Sys2Proof.Machine.execVCvt u f s
  | .vExp2 u f => Sys2Proof.Machine.execVExp2 u f s
  | .vLog2 u f => Sys2Proof.Machine.execVLog2 u f s
  | .vRcp u f => Sys2Proof.Machine.execVRcp u f s
  | .vRsqrt u f => Sys2Proof.Machine.execVRsqrt u f s
  | .vShuf u f => Sys2Proof.Machine.execVShuf u f s
  | .vRred u f => Sys2Proof.Machine.execVRred u f s
  | .vStrd u f => Sys2Proof.Machine.execVStrd u f s
  | .vStwr u f => Sys2Proof.Machine.execVStwr u f s
  | .vPgen u f => Sys2Proof.Machine.execVPgen u f s
  | .vPlog u f => Sys2Proof.Machine.execVPlog u f s
  | .vLd u f => Sys2Proof.Machine.execVLd u f s
  | .vSt u f => Sys2Proof.Machine.execVSt u f s
  | .vSend u f => Sys2Proof.Machine.execVSend u f s
  | .sendArrival u => Sys2Proof.Machine.execSendArrival u s
  | .vRecv u f => Sys2Proof.Machine.execVRecv u f s
  | .vSop u f => Sys2Proof.Machine.execVSop u f s
  | .merge u req => Sys2Proof.Machine.execMerge u req s
  | .deferredChain u => Sys2Proof.Machine.execDeferredChain u s
  | .finishPass u => Sys2Proof.Machine.execFinishPass u s
  | .operationStart u => Sys2Proof.Machine.execOperationStart u s
  | .shapeRecordRead u bad => Sys2Proof.Machine.execShapeRecordRead u bad s
  | .fetchUnit u op isW => Sys2Proof.Machine.execFetchUnit u op isW s
  | .memoryRead q errs => Sys2Proof.Machine.execMemoryRead q errs s
  | .memoryWrite q => Sys2Proof.Machine.execMemoryWrite q s
  | .partialWrite q errs => Sys2Proof.Machine.execPartialWrite q errs s
  | .correctedWriteBack u => Sys2Proof.Machine.execCorrectedWriteBack u s
  | .scrubBurst u ch errs => Sys2Proof.Machine.execScrubBurst u ch errs s
  | .refreshDue u bank => Sys2Proof.Machine.execRefreshDue u bank s
  | .refresh u bank => Sys2Proof.Machine.execRefresh u bank s
  | .rowRemap u bank row => Sys2Proof.Machine.execRowRemap u bank row s
  | .channelRetire u v => Sys2Proof.Machine.execChannelRetire u v s
  | .channelErrorThreshold u ch => Sys2Proof.Machine.execChannelErrorThreshold u ch s
  | .channelRetrainFail u ch => Sys2Proof.Machine.execChannelRetrainFail u ch s
  | .channelToSpare u => Sys2Proof.Machine.execChannelToSpare u s
  | .rewritePassEnd u => Sys2Proof.Machine.execRewritePassEnd u s
  | .channelCutOff u => Sys2Proof.Machine.execChannelCutOff u s
  | .atomicAdd q => Sys2Proof.Machine.execAtomicAdd q s
  | .atomicFadd q => Sys2Proof.Machine.execAtomicFadd q s
  | .atomicSmax q => Sys2Proof.Machine.execAtomicSmax q s
  | .atomicSmin q => Sys2Proof.Machine.execAtomicSmin q s
  | .atomicUmax q => Sys2Proof.Machine.execAtomicUmax q s
  | .atomicUmin q => Sys2Proof.Machine.execAtomicUmin q s
  | .atomicFmax q => Sys2Proof.Machine.execAtomicFmax q s
  | .atomicFmin q => Sys2Proof.Machine.execAtomicFmin q s
  | .atomicSwap q => Sys2Proof.Machine.execAtomicSwap q s
  | .atomicCas q => Sys2Proof.Machine.execAtomicCas q s
  | .slotFp32Contribution q => Sys2Proof.Machine.execSlotFp32Contribution q s
  | .slotFixedContribution q => Sys2Proof.Machine.execSlotFixedContribution q s
  | .slotZero q => Sys2Proof.Machine.execSlotZero q s
  | .slotRead q => Sys2Proof.Machine.execSlotRead q s
  | .marginTestStart u v => Sys2Proof.Machine.execMarginTestStart u v s
  | .marginTestEnd u errors => Sys2Proof.Machine.execMarginTestEnd u errors s
  | .runSubmit u rec_ by_ => Sys2Proof.Machine.execRunSubmit u rec_ by_ s
  | .pupRunGo u m => Sys2Proof.Machine.execPupRunGo u m s
  | .runStart u => Sys2Proof.Machine.execRunStart u s
  | .cueDispatch u => Sys2Proof.Machine.execCueDispatch u s
  | .cueEnd u => Sys2Proof.Machine.execCueEnd u s
  | .returnRecords u => Sys2Proof.Machine.execReturnRecords u s
  | .runEnd u => Sys2Proof.Machine.execRunEnd u s
  | .pupHalt u halt => Sys2Proof.Machine.execPupHalt u halt s
  | .pNop u f iter => Sys2Proof.Machine.execPNop u f iter s
  | .pLdc u f iter => Sys2Proof.Machine.execPLdc u f iter s
  | .pStc u f iter => Sys2Proof.Machine.execPStc u f iter s
  | .pCmul u f iter => Sys2Proof.Machine.execPCmul u f iter s
  | .pCfma u f iter => Sys2Proof.Machine.execPCfma u f iter s
  | .pCfmb u f iter => Sys2Proof.Machine.execPCfmb u f iter s
  | .pLds u f iter => Sys2Proof.Machine.execPLds u f iter s
  | .pSacc u f iter => Sys2Proof.Machine.execPSacc u f iter s
  | .pBcv u f iter => Sys2Proof.Machine.execPBcv u f iter s
  | .pAdd u f iter => Sys2Proof.Machine.execPAdd u f iter s
  | .pMul u f iter => Sys2Proof.Machine.execPMul u f iter s
  | .pFma u f iter => Sys2Proof.Machine.execPFma u f iter s
  | .pMax u f iter => Sys2Proof.Machine.execPMax u f iter s
  | .pLim u f iter => Sys2Proof.Machine.execPLim u f iter s
  | .pRsum u f iter => Sys2Proof.Machine.execPRsum u f iter s
  | .pRmax u f iter => Sys2Proof.Machine.execPRmax u f iter s
  | .pExp2 u f iter => Sys2Proof.Machine.execPExp2 u f iter s
  | .pExp2r u f iter => Sys2Proof.Machine.execPExp2r u f iter s
  | .pSop u f iter => Sys2Proof.Machine.execPSop u f iter s
  | .pPuts u f iter => Sys2Proof.Machine.execPPuts u f iter s
  | .pPutv u f iter => Sys2Proof.Machine.execPPutv u f iter s
  | .pEnd u f iter => Sys2Proof.Machine.execPEnd u f iter s
  | .kvCreate c => Sys2Proof.Machine.execKvCreate c s
  | .kvFork c => Sys2Proof.Machine.execKvFork c s
  | .kvAppend c => Sys2Proof.Machine.execKvAppend c s
  | .kvVerifyCommit c => Sys2Proof.Machine.execKvVerifyCommit c s
  | .kvFree c => Sys2Proof.Machine.execKvFree c s
  | .kvOpResume c => Sys2Proof.Machine.execKvOpResume c s
  | .kvmHold hold => Sys2Proof.Machine.execKvmHold hold s
  | .layoutLoad v => Sys2Proof.Machine.execLayoutLoad v s
  | .imageFetchEnd img => Sys2Proof.Machine.execImageFetchEnd img s
  | .layoutCommit failAt => Sys2Proof.Machine.execLayoutCommit failAt s
  | .layoutStart v => Sys2Proof.Machine.execLayoutStart v s
  | .layoutUnload v => Sys2Proof.Machine.execLayoutUnload v s
  | .epochStart => Sys2Proof.Machine.execEpochStart s
  | .slotStart i ready => Sys2Proof.Machine.execSlotStart i ready s
  | .sendDataReady i fits => Sys2Proof.Machine.execSendDataReady i fits s
  | .memberReady => Sys2Proof.Machine.execMemberReady s
  | .epochBoundary => Sys2Proof.Machine.execEpochBoundary s
  | .groupBroken => Sys2Proof.Machine.execGroupBroken s
  | .actSwitch => Sys2Proof.Machine.execActSwitch s
  | .flitIdle p f => Sys2Proof.Machine.execFlitIdle p f s
  | .sched p f => Sys2Proof.Machine.execSched p f s
  | .fabricRead p f => Sys2Proof.Machine.execFabricRead p f s
  | .fabricWrite p f => Sys2Proof.Machine.execFabricWrite p f s
  | .fabricAtomic p f => Sys2Proof.Machine.execFabricAtomic p f s
  | .fabricData p f => Sys2Proof.Machine.execFabricData p f s
  | .fabricDone p f => Sys2Proof.Machine.execFabricDone p f s
  | .close p f => Sys2Proof.Machine.execClose p f s
  | .time p f => Sys2Proof.Machine.execTime p f s
  | .assignId p f => Sys2Proof.Machine.execAssignId p f s
  | .setBound p f => Sys2Proof.Machine.execSetBound p f s
  | .init p f => Sys2Proof.Machine.execInit p f s
  | .flitDropped p f => Sys2Proof.Machine.execFlitDropped p f s
  | .flitSend p => Sys2Proof.Machine.execFlitSend p s
  | .replayTimeout p => Sys2Proof.Machine.execReplayTimeout p s
  | .requestTimeout tag => Sys2Proof.Machine.execRequestTimeout tag s
  | .timeSourceLoss p => Sys2Proof.Machine.execTimeSourceLoss p s
  | .portEnable p v => Sys2Proof.Machine.execPortEnable p v s
  | .portRetrain p => Sys2Proof.Machine.execPortRetrain p s
  | .portLoopback p mode => Sys2Proof.Machine.execPortLoopback p mode s
  | .laneRetire p lanes => Sys2Proof.Machine.execLaneRetire p lanes s
  | .laneErrorWindow p lane errors codewords => Sys2Proof.Machine.execLaneErrorWindow p lane errors codewords s
  | .laneSignalLoss p lane => Sys2Proof.Machine.execLaneSignalLoss p lane s
  | .portTrainingEnd p ok remote => Sys2Proof.Machine.execPortTrainingEnd p ok remote s
  | .meshPacket chest router p => Sys2Proof.Machine.execMeshPacket chest router p s
  | .edgeFlitReceive k m f err => Sys2Proof.Machine.execEdgeFlitReceive k m f err s
  | .edgeReplayTimeout k m => Sys2Proof.Machine.execEdgeReplayTimeout k m s
  | .edgeRetrain k => Sys2Proof.Machine.execEdgeRetrain k s
  | .edgeFramingLoss k => Sys2Proof.Machine.execEdgeFramingLoss k s
  | .edgeTrainingEnd k ms => Sys2Proof.Machine.execEdgeTrainingEnd k ms s
  | .edgeFullRetrain k => Sys2Proof.Machine.execEdgeFullRetrain k s
  | .edgeAttemptTimeout k => Sys2Proof.Machine.execEdgeAttemptTimeout k s
  | .edgeRetire k => Sys2Proof.Machine.execEdgeRetire k s
  | .edgeStable k => Sys2Proof.Machine.execEdgeStable k s
  | .requestLeave q => Sys2Proof.Machine.execRequestLeave q s
  | .arbiterGrant a => Sys2Proof.Machine.execArbiterGrant a s
  | .scaleFactorArrive master slice => Sys2Proof.Machine.execScaleFactorArrive master slice s
  | .qosCommit v => Sys2Proof.Machine.execQosCommit v s
  | .starvation arb input => Sys2Proof.Machine.execStarvation arb input s
  | .bar2Read addr len => Sys2Proof.Machine.execBar2Read addr len s
  | .bar2Write addr bytes enables => Sys2Proof.Machine.execBar2Write addr bytes enables s
  | .poisonedWrite addr => Sys2Proof.Machine.execPoisonedWrite addr s
  | .fetchadd addr size v => Sys2Proof.Machine.execFetchadd addr size v s
  | .swapAtomicop addr size v => Sys2Proof.Machine.execSwapAtomicop addr size v s
  | .casAtomicop addr size cmp v => Sys2Proof.Machine.execCasAtomicop addr size cmp v s
  | .doorbell t v => Sys2Proof.Machine.execDoorbell t v s
  | .cqHead t v => Sys2Proof.Machine.execCqHead t v s
  | .trayEnable t v => Sys2Proof.Machine.execTrayEnable t v s
  | .trayDisable t v => Sys2Proof.Machine.execTrayDisable t v s
  | .trayFetch t data => Sys2Proof.Machine.execTrayFetch t data s
  | .entryAccept t indexOk => Sys2Proof.Machine.execEntryAccept t indexOk s
  | .entryDispatch t jid => Sys2Proof.Machine.execEntryDispatch t jid s
  | .workFinish u => Sys2Proof.Machine.execWorkFinish u s
  | .copyIn jid data => Sys2Proof.Machine.execCopyIn jid data s
  | .copyOut jid rejectAt => Sys2Proof.Machine.execCopyOut jid rejectAt s
  | .completionRecordWrite t => Sys2Proof.Machine.execCompletionRecordWrite t s
  | .reqclass i v => Sys2Proof.Machine.execReqclass i v s
  | .wdkick i => Sys2Proof.Machine.execWdkick i s
  | .watchdogExpiry i => Sys2Proof.Machine.execWatchdogExpiry i s
  | .heartbeat answered => Sys2Proof.Machine.execHeartbeat answered s
  | .pigeonholeSend m i => Sys2Proof.Machine.execPigeonholeSend m i s
  | .pigeonholeTake m i => Sys2Proof.Machine.execPigeonholeTake m i s
  | .mbxBindWrite m i v => Sys2Proof.Machine.execMbxBindWrite m i v s
  | .mbxLock m v => Sys2Proof.Machine.execMbxLock m v s
  | .mctpSend bytes => Sys2Proof.Machine.execMctpSend bytes s
  | .mctpOther bytes => Sys2Proof.Machine.execMctpOther bytes s
  | .logPathReturn c => Sys2Proof.Machine.execLogPathReturn c s
  | .logWord0Read m slot => Sys2Proof.Machine.execLogWord0Read m slot s
  | .errInjectArm m v => Sys2Proof.Machine.execErrInjectArm m v s
  | .intEnableWrite v => Sys2Proof.Machine.execIntEnableWrite v s
  | .powerSample pkg chests islands => Sys2Proof.Machine.execPowerSample pkg chests islands s
  | .thermalModelUpdate c md => Sys2Proof.Machine.execThermalModelUpdate c md s
  | .sensorSample c i x => Sys2Proof.Machine.execSensorSample c i x s
  | .fallbackRelease c i => Sys2Proof.Machine.execFallbackRelease c i s
  | .budgetExchange c withheld => Sys2Proof.Machine.execBudgetExchange c withheld s
  | .budgetMessage c from_ demand ceiling => Sys2Proof.Machine.execBudgetMessage c from_ demand ceiling s
  | .budgetMissing c from_ => Sys2Proof.Machine.execBudgetMissing c from_ s
  | .packageCheck => Sys2Proof.Machine.execPackageCheck s
  | .governorUpdate c => Sys2Proof.Machine.execGovernorUpdate c s
  | .sprintWindowClose early ms => Sys2Proof.Machine.execSprintWindowClose early ms s
  | .pwrModeWrite v => Sys2Proof.Machine.execPwrModeWrite v s
  | .pwrCapWrite v => Sys2Proof.Machine.execPwrCapWrite v s
  | .pwrbrkNAssert => Sys2Proof.Machine.execPwrbrkNAssert s
  | .pwrbrkNRelease => Sys2Proof.Machine.execPwrbrkNRelease s
  | .thmCoolantWrite v => Sys2Proof.Machine.execThmCoolantWrite v s
  | .coolantStale => Sys2Proof.Machine.execCoolantStale s
  | .coolingDegraded => Sys2Proof.Machine.execCoolingDegraded s
  | .coolingRecovered => Sys2Proof.Machine.execCoolingRecovered s
  | .coolFaultNAssert => Sys2Proof.Machine.execCoolFaultNAssert s
  | .pauseComplete => Sys2Proof.Machine.execPauseComplete s
  | .pausedRequestTimeout => Sys2Proof.Machine.execPausedRequestTimeout s
  | .resume => Sys2Proof.Machine.execResume s
  | .disagreeWindowEnd c h => Sys2Proof.Machine.execDisagreeWindowEnd c h s
  | .bstPark v x => Sys2Proof.Machine.execBstPark v x s
  | .parkTestEnd fails chans cores lost => Sys2Proof.Machine.execParkTestEnd fails chans cores lost s
  | .supplySample x => Sys2Proof.Machine.execSupplySample x s
  | .tokenRegisterOwnerKey x => Sys2Proof.Machine.execTokenRegisterOwnerKey x s
  | .tokenRevokeOwnerKey x => Sys2Proof.Machine.execTokenRevokeOwnerKey x s
  | .tokenDebugUnlock => Sys2Proof.Machine.execTokenDebugUnlock s
  | .fuseBurnEnd ok => Sys2Proof.Machine.execFuseBurnEnd ok s
  | .debugZeroEnd => Sys2Proof.Machine.execDebugZeroEnd s
  | .jtagBypass => Sys2Proof.Machine.execJtagBypass s
  | .jtagIdcode => Sys2Proof.Machine.execJtagIdcode s
  | .jtagSamplePreload => Sys2Proof.Machine.execJtagSamplePreload s
  | .jtagExtest => Sys2Proof.Machine.execJtagExtest s
  | .jtagClamp => Sys2Proof.Machine.execJtagClamp s
  | .jtagPrivate ir => Sys2Proof.Machine.execJtagPrivate ir s
  | .getVersion => Sys2Proof.Machine.execGetVersion s
  | .getCapabilities => Sys2Proof.Machine.execGetCapabilities s
  | .negotiateAlgorithms common => Sys2Proof.Machine.execNegotiateAlgorithms common s
  | .getDigests => Sys2Proof.Machine.execGetDigests s
  | .getCertificate slot offset length => Sys2Proof.Machine.execGetCertificate slot offset length s
  | .challenge slot nonce => Sys2Proof.Machine.execChallenge slot nonce s
  | .getMeasurements index signed_ nonce => Sys2Proof.Machine.execGetMeasurements index signed_ nonce s
  | .keyExchange slot => Sys2Proof.Machine.execKeyExchange slot s
  | .finishSpdm session ok => Sys2Proof.Machine.execFinishSpdm session ok s
  | .spdmHeartbeat session => Sys2Proof.Machine.execSpdmHeartbeat session s
  | .keyUpdate session => Sys2Proof.Machine.execKeyUpdate session s
  | .endSession session => Sys2Proof.Machine.execEndSession session s
  | .spdmUnsupported code => Sys2Proof.Machine.execSpdmUnsupported code s
  | .ideKm session stream msg sub keySet key => Sys2Proof.Machine.execIdeKm session stream msg sub keySet key s
  | .badFlitReceived p b uncorr => Sys2Proof.Machine.execBadFlitReceived p b uncorr s
  | .edgeLaneRepair k m mask => Sys2Proof.Machine.execEdgeLaneRepair k m mask s
  | .sensorNoConversion c i => Sys2Proof.Machine.execSensorNoConversion c i s
  | .coolFaultNRelease => Sys2Proof.Machine.execCoolFaultNRelease s
  | .controlCoreStart i => Sys2Proof.Machine.execControlCoreStart i s
  | .mctpRouteToBmc => Sys2Proof.Machine.execMctpRouteToBmc s
  | .plinthFloorFailure c => Sys2Proof.Machine.execPlinthFloorFailure c s
  | .tokenRefusedKind => Sys2Proof.Machine.execTokenRefusedKind s
  | .kvUnlistedOp c => Sys2Proof.Machine.execKvUnlistedOp c s
  | .resetLevelRefused v => Sys2Proof.Machine.execResetLevelRefused v s

end Sys2Proof.Machine
end

