-- ==== Sys2Proof/Machine/Step.lean ====
section
/-!
DEFINITION. One step: the command at the front of the queue, or, on an empty queue, one nanosecond of time.
-/

namespace Sys2Proof.Machine

open Sys2Proof

/-- An empty queue: the part idles for 1 ns; fabric time runs on with it (R303, DESIGN CHOICE).
(DESIGN CHOICE, log entry 3.) -/
def idle (s : State) : State := if s.up then s.seal s.timeTick.coresTick else s

/-- Take the command at the front of the queue and run it with the queue's rest. (DESIGN CHOICE, log entry 2.) -/
def step (s : State) : Host.Outcome State Fault Refusal :=
  match s.pending with
  | [] => .next (idle s)
  | c :: rest => exec c { s with pending := rest }

/-- The command a word spells, put at the front of the queue. (DESIGN CHOICE, log entry 10.) -/
def State.withFetchWord (s : State) (nbits w : Nat) : State :=
  match decodeTableWord nbits w with
  | some c => { s with pending := c :: s.pending }
  | none => s

end Sys2Proof.Machine
end

