-- ==== Sys2Proof/WellFormed.lean ====
section
/-!
DEFINITION. Which commands the part can be given: every operand within its field, every number of a unit one that exists.
A command that is not well-formed has a meaning too (meanings are total); nothing sends it.
-/

namespace Sys2Proof

/-- The host's functions are 0 to 16 (R394), the control cores 0 to 16 (Table 15-9). -/
def okMaster : Master → Bool
  | .host f => decide (f < 17)
  | .cc i => decide (i < 17)

/-- Field widths of Table 4-4a. -/
def okVec (f : VecF) : Bool :=
  decide (f.vd < 64) && decide (f.va < 64) && decide (f.vb < 64) && decide (f.vc < 64) && decide (f.pg < 16) &&
  decide (f.rm < 8) && decide (f.fmt < 16) && decide (f.fn < 16) && decide (f.imm < 2 ^ 15)

/-- Field widths of Tables 8-2 and 8-3. -/
def okPup (f : PupF) : Bool :=
  decide (f.d < 16) && decide (f.a < 16) && decide (f.r < 8) && decide (f.bk < 2) && decide (f.fm < 4) && decide (f.lane < 64) &&
  decide (f.b < 16) && decide (f.imm < 2 ^ 16) && decide (f.fn < 16)

/-- Field widths of Table 11-3 and the payload limit of R329. -/
def okFlit (f : Flit) : Bool :=
  let h := f.hdr
  decide (f.op < 16) && decide (h.seq < 4096) && decide (h.ack < 4096) && decide (h.vc < 4) && decide (h.dest < 4096) &&
  decide (h.src < 4096) && decide (h.crVc < 4) && decide (h.crTotal < 4096) && decide (h.opField < 2 ^ 22) &&
  decide (f.payload.length ≤ 240)

/-- Field widths of Table 12-3. -/
def okEdge (f : EdgeFlit) : Bool :=
  let h := f.hdr
  decide (h.seq < 1024) && decide (h.ack < 1024) && decide (h.vc < 4) && decide (h.cls < 4) && decide (h.crVc < 4) &&
  decide (h.crTotal < 1024) && decide (h.len8 < 128) && decide (h.crCls < 4) && decide (f.payload.length ≤ 1008)

def okMesh (p : MeshPkt) : Bool :=
  Machine.meshFits p && decide (p.cls < 4) && decide (p.level < 7) && decide (p.master < 256) && decide (p.tag < 2 ^ 32) && decide (p.crossed < 4) &&
  decide (p.data.length < 2 ^ 32)

/-- A device address of 39 bits (R189), an 8-bit master id (Table 13-3), at most 4,096 bytes. -/
def okReq (q : MemReq) : Bool := decide (q.addr < 2 ^ 39) && decide (q.mid < 256) && decide (q.len ≤ 4096)

def okAtom (q : AtomReq) : Bool :=
  decide (q.addr < 2 ^ 39) && decide (q.mid < 256) && decide (q.size ≤ 16) && decide (q.v < 2 ^ 128) && decide (q.cmp < 2 ^ 128)

/-- Landing tiles are 0 to 4,095 (R98). -/
def okLand (w : LandWrite) : Bool := decide (w.core < 36) && decide (w.idx < 4096)

def okPort (q : PortReq) : Bool := decide (q.master < 256) && decide (q.chest < 4) && decide (q.slice < 9)

def okArb (a : ArbReq) : Bool := decide (a.kind < 3) && decide (a.chest < 4) && decide (a.pos < 16) && decide (a.res < 64)

def okSub : Submitter → Bool
  | .core u => decide (u < 36)
  | .walker c _ => decide (c < 4)
  | .cc i => decide (i < 17)
  | .host => true

def okMerge (q : MergeReq) : Bool := q.sources.all (fun x => decide (x.1 < 4096))

/-- Is a command one the part can be given? (DESIGN CHOICE, log entry 12.) -/
def wellFormed : Instr → Bool
  | .bar0BadAccess m _ off detail => okMaster m && decide (off < 2 ^ 26) && decide (detail < 16)
  | .reg64LoRead m off => okMaster m && decide (off < 2 ^ 26)
  | .reg64HiWrite m off v => okMaster m && decide (off < 2 ^ 26) && decide (v < 2 ^ 32)
  | .rcRead m off => okMaster m && decide (off < 2 ^ 26)
  | .registerWrite m off v hwSet => okMaster m && decide (off < 2 ^ 26) && decide (v < 2 ^ 32) && decide (hwSet < 2 ^ 48)
  | .powerUp _ => true
  | .powerRemoval => true
  | .brownOut => true
  | .vioExcursion => true
  | .vaonExcursion => true
  | .perstNAssert => true
  | .perstNRelease _ => true
  | .hotReset => true
  | .linkDown => true
  | .functionLevelReset f => decide (f < 17)
  | .bootStep2 v _ _ => decide (v < 2 ^ 32)
  | .bootStep3 v faulted => decide (v < 2 ^ 32) && decide (faulted < 16)
  | .bootStep4 v _ => decide (v < 2 ^ 32)
  | .bootStep5 v badCores => decide (v < 2 ^ 32) && decide (badCores < 2 ^ 36)
  | .bootStep6 v _ => decide (v < 2 ^ 32)
  | .bootStepOutOfOrder v => decide (v < 2 ^ 32)
  | .bootStepEnd timeUs => decide (timeUs < 2 ^ 24)
  | .resetCore v => decide (v < 2 ^ 32)
  | .resetCluster v => decide (v < 2 ^ 32)
  | .resetPartition v => decide (v < 2 ^ 32)
  | .unitUncorrectableReset level chest target => decide (level < 3) && decide (chest < 4) && decide (target < 32)
  | .partialResetEnd level chest target badCores => decide (level < 3) && decide (chest < 4) && decide (target < 32) && decide (badCores < 512)
  | .islandRegulatorFault u => decide (u < 36)
  | .arrSlotIssue u sub => decide (u < 36) && decide (sub < 16)
  | .arrFillRow u sub => decide (u < 36) && decide (sub < 16)
  | .arrSlotComplete u sub => decide (u < 36) && decide (sub < 16)
  | .blockRotation u sub => decide (u < 36) && decide (sub < 16)
  | .drain u sub => decide (u < 36) && decide (sub < 16)
  | .arrHold u _ => decide (u < 36)
  | .arrDuty u v => decide (u < 36) && decide (v < 2 ^ 32)
  | .dutyWindow u => decide (u < 36)
  | .landingWrite w => okLand w
  | .epilogueInvocation u => decide (u < 36)
  | .prologueInvocation u sub => decide (u < 36) && decide (sub < 16)
  | .vNop u f => decide (u < 36) && okVec f
  | .vAdd u f => decide (u < 36) && okVec f
  | .vSub u f => decide (u < 36) && okVec f
  | .vMul u f => decide (u < 36) && okVec f
  | .vFma u f => decide (u < 36) && okVec f
  | .vFms u f => decide (u < 36) && okVec f
  | .vMax u f => decide (u < 36) && okVec f
  | .vMin u f => decide (u < 36) && okVec f
  | .vUna u f => decide (u < 36) && okVec f
  | .vCmp u f => decide (u < 36) && okVec f
  | .vSel u f => decide (u < 36) && okVec f
  | .vCvt u f => decide (u < 36) && okVec f
  | .vExp2 u f => decide (u < 36) && okVec f
  | .vLog2 u f => decide (u < 36) && okVec f
  | .vRcp u f => decide (u < 36) && okVec f
  | .vRsqrt u f => decide (u < 36) && okVec f
  | .vShuf u f => decide (u < 36) && okVec f
  | .vRred u f => decide (u < 36) && okVec f
  | .vStrd u f => decide (u < 36) && okVec f
  | .vStwr u f => decide (u < 36) && okVec f
  | .vPgen u f => decide (u < 36) && okVec f
  | .vPlog u f => decide (u < 36) && okVec f
  | .vLd u f => decide (u < 36) && okVec f
  | .vSt u f => decide (u < 36) && okVec f
  | .vSend u f => decide (u < 36) && okVec f
  | .sendArrival u => decide (u < 36)
  | .vRecv u f => decide (u < 36) && okVec f
  | .vSop u f => decide (u < 36) && okVec f
  | .merge u req => decide (u < 36) && okMerge req
  | .deferredChain u => decide (u < 36)
  | .finishPass u => decide (u < 36)
  | .operationStart u => decide (u < 36)
  | .shapeRecordRead u _ => decide (u < 36)
  | .fetchUnit u op _ => decide (u < 36) && decide (op < 2)
  | .memoryRead q _ => okReq q
  | .memoryWrite q => okReq q
  | .partialWrite q _ => okReq q
  | .correctedWriteBack u => decide (u < 36)
  | .scrubBurst u ch _ => decide (u < 36) && decide (ch < 8)
  | .refreshDue u bank => decide (u < 36) && decide (bank < 256)
  | .refresh u bank => decide (u < 36) && decide (bank < 256)
  | .rowRemap u bank row => decide (u < 36) && decide (bank < 256) && decide (row < 4096)
  | .channelRetire u v => decide (u < 36) && decide (v < 2 ^ 32)
  | .channelErrorThreshold u ch => decide (u < 36) && decide (ch < 8)
  | .channelRetrainFail u ch => decide (u < 36) && decide (ch < 9)
  | .channelToSpare u => decide (u < 36)
  | .rewritePassEnd u => decide (u < 36)
  | .channelCutOff u => decide (u < 36)
  | .atomicAdd q => okAtom q
  | .atomicFadd q => okAtom q
  | .atomicSmax q => okAtom q
  | .atomicSmin q => okAtom q
  | .atomicUmax q => okAtom q
  | .atomicUmin q => okAtom q
  | .atomicFmax q => okAtom q
  | .atomicFmin q => okAtom q
  | .atomicSwap q => okAtom q
  | .atomicCas q => okAtom q
  | .slotFp32Contribution q => okReq q
  | .slotFixedContribution q => okReq q
  | .slotZero q => okReq q
  | .slotRead q => okReq q
  | .marginTestStart u v => decide (u < 36) && decide (v < 2 ^ 32)
  | .marginTestEnd u errors => decide (u < 36) && decide (errors < 2 ^ 32)
  | .runSubmit u _ by_ => decide (u < 36) && okSub by_
  | .pupRunGo u m => decide (u < 36) && okMaster m
  | .runStart u => decide (u < 36)
  | .cueDispatch u => decide (u < 36)
  | .cueEnd u => decide (u < 36)
  | .returnRecords u => decide (u < 36)
  | .runEnd u => decide (u < 36)
  | .pupHalt u _ => decide (u < 36)
  | .pNop u f iter => decide (u < 36) && okPup f && decide (iter < 2 ^ 20)
  | .pLdc u f iter => decide (u < 36) && okPup f && decide (iter < 2 ^ 20)
  | .pStc u f iter => decide (u < 36) && okPup f && decide (iter < 2 ^ 20)
  | .pCmul u f iter => decide (u < 36) && okPup f && decide (iter < 2 ^ 20)
  | .pCfma u f iter => decide (u < 36) && okPup f && decide (iter < 2 ^ 20)
  | .pCfmb u f iter => decide (u < 36) && okPup f && decide (iter < 2 ^ 20)
  | .pLds u f iter => decide (u < 36) && okPup f && decide (iter < 2 ^ 20)
  | .pSacc u f iter => decide (u < 36) && okPup f && decide (iter < 2 ^ 20)
  | .pBcv u f iter => decide (u < 36) && okPup f && decide (iter < 2 ^ 20)
  | .pAdd u f iter => decide (u < 36) && okPup f && decide (iter < 2 ^ 20)
  | .pMul u f iter => decide (u < 36) && okPup f && decide (iter < 2 ^ 20)
  | .pFma u f iter => decide (u < 36) && okPup f && decide (iter < 2 ^ 20)
  | .pMax u f iter => decide (u < 36) && okPup f && decide (iter < 2 ^ 20)
  | .pLim u f iter => decide (u < 36) && okPup f && decide (iter < 2 ^ 20)
  | .pRsum u f iter => decide (u < 36) && okPup f && decide (iter < 2 ^ 20)
  | .pRmax u f iter => decide (u < 36) && okPup f && decide (iter < 2 ^ 20)
  | .pExp2 u f iter => decide (u < 36) && okPup f && decide (iter < 2 ^ 20)
  | .pExp2r u f iter => decide (u < 36) && okPup f && decide (iter < 2 ^ 20)
  | .pSop u f iter => decide (u < 36) && okPup f && decide (iter < 2 ^ 20)
  | .pPuts u f iter => decide (u < 36) && okPup f && decide (iter < 2 ^ 20)
  | .pPutv u f iter => decide (u < 36) && okPup f && decide (iter < 2 ^ 20)
  | .pEnd u f iter => decide (u < 36) && okPup f && decide (iter < 2 ^ 20)
  | .kvCreate c => decide (c < 4)
  | .kvFork c => decide (c < 4)
  | .kvAppend c => decide (c < 4)
  | .kvVerifyCommit c => decide (c < 4)
  | .kvFree c => decide (c < 4)
  | .kvOpResume c => decide (c < 4)
  | .kvmHold _ => true
  | .layoutLoad v => decide (v < 2 ^ 32)
  | .imageFetchEnd _ => true
  | .layoutCommit _ => true
  | .layoutStart v => decide (v < 2 ^ 32)
  | .layoutUnload v => decide (v < 2 ^ 32)
  | .epochStart => true
  | .slotStart i _ => decide (i < 2 ^ 16)
  | .sendDataReady i _ => decide (i < 2 ^ 16)
  | .memberReady => true
  | .epochBoundary => true
  | .groupBroken => true
  | .actSwitch => true
  | .flitIdle p f => decide (p < 8) && okFlit f
  | .sched p f => decide (p < 8) && okFlit f
  | .fabricRead p f => decide (p < 8) && okFlit f
  | .fabricWrite p f => decide (p < 8) && okFlit f
  | .fabricAtomic p f => decide (p < 8) && okFlit f
  | .fabricData p f => decide (p < 8) && okFlit f
  | .fabricDone p f => decide (p < 8) && okFlit f
  | .close p f => decide (p < 8) && okFlit f
  | .time p f => decide (p < 8) && okFlit f
  | .assignId p f => decide (p < 8) && okFlit f
  | .setBound p f => decide (p < 8) && okFlit f
  | .init p f => decide (p < 8) && okFlit f
  | .flitDropped p f => decide (p < 8) && okFlit f
  | .flitSend p => decide (p < 8)
  | .replayTimeout p => decide (p < 8)
  | .requestTimeout tag => decide (tag < 4096)
  | .timeSourceLoss p => decide (p < 8)
  | .portEnable p v => decide (p < 8) && decide (v < 2 ^ 32)
  | .portRetrain p => decide (p < 8)
  | .portLoopback p mode => decide (p < 8) && decide (mode < 2)
  | .laneRetire p lanes => decide (p < 8) && decide (lanes < 256)
  | .laneErrorWindow p lane errors codewords => decide (p < 8) && decide (lane < 8) && decide (errors < 2 ^ 32) && decide (codewords < 2 ^ 32)
  | .laneSignalLoss p lane => decide (p < 8) && decide (lane < 8)
  | .portTrainingEnd p _ remote => decide (p < 8) && decide (remote < 256)
  | .meshPacket chest router p => decide (chest < 4) && decide (router < 10) && okMesh p
  | .edgeFlitReceive k m f _ => decide (k < 8) && decide (m < 16) && okEdge f
  | .edgeReplayTimeout k m => decide (k < 8) && decide (m < 16)
  | .edgeRetrain k => decide (k < 8)
  | .edgeFramingLoss k => decide (k < 8)
  | .edgeTrainingEnd k _ => decide (k < 8)
  | .edgeFullRetrain k => decide (k < 8)
  | .edgeAttemptTimeout k => decide (k < 8)
  | .edgeRetire k => decide (k < 8)
  | .edgeStable k => decide (k < 8)
  | .requestLeave q => okPort q
  | .arbiterGrant a => okArb a
  | .scaleFactorArrive master slice => decide (master < 256) && decide (slice < 36)
  | .qosCommit v => decide (v < 2 ^ 32)
  | .starvation arb input => decide (arb < 12288) && decide (input < 64)
  | .bar2Read addr len => decide (addr < 2 ^ 39) && decide (len < 4097)
  | .bar2Write addr _ _ => decide (addr < 2 ^ 39)
  | .poisonedWrite addr => decide (addr < 2 ^ 64)
  | .fetchadd addr size v => decide (addr < 2 ^ 39) && decide (size < 17) && decide (v < 2 ^ 64)
  | .swapAtomicop addr size v => decide (addr < 2 ^ 39) && decide (size < 17) && decide (v < 2 ^ 64)
  | .casAtomicop addr size cmp v => decide (addr < 2 ^ 39) && decide (size < 17) && decide (cmp < 2 ^ 64) && decide (v < 2 ^ 64)
  | .doorbell t v => decide (t < 1088) && decide (v < 2 ^ 32)
  | .cqHead t v => decide (t < 1088) && decide (v < 2 ^ 32)
  | .trayEnable t v => decide (t < 1088) && decide (v < 2 ^ 32)
  | .trayDisable t v => decide (t < 1088) && decide (v < 2 ^ 32)
  | .trayFetch t _ => decide (t < 1088)
  | .entryAccept t _ => decide (t < 1088)
  | .entryDispatch t _ => decide (t < 1088)
  | .workFinish u => decide (u < 36)
  | .copyIn _ _ => true
  | .copyOut _ _ => true
  | .completionRecordWrite t => decide (t < 1088)
  | .reqclass i v => decide (i < 17) && decide (v < 2 ^ 32)
  | .wdkick i => decide (i < 17)
  | .watchdogExpiry i => decide (i < 17)
  | .heartbeat answered => decide (answered < 2 ^ 17)
  | .pigeonholeSend m i => okMaster m && decide (i < 64)
  | .pigeonholeTake m i => okMaster m && decide (i < 64)
  | .mbxBindWrite m i v => okMaster m && decide (i < 64) && decide (v < 2 ^ 32)
  | .mbxLock m v => okMaster m && decide (v < 2 ^ 32)
  | .mctpSend _ => true
  | .mctpOther _ => true
  | .logPathReturn c => decide (c < 4)
  | .logWord0Read m slot => okMaster m && decide (slot < 512)
  | .errInjectArm m v => okMaster m && decide (v < 2 ^ 32)
  | .intEnableWrite v => decide (v < 2 ^ 32)
  | .powerSample pkg _ _ => decide (pkg < 2 ^ 32)
  | .thermalModelUpdate c _ => decide (c < 4)
  | .sensorSample c i _ => decide (c < 4) && decide (i < 116)
  | .fallbackRelease c i => decide (c < 4) && decide (i < 116)
  | .budgetExchange c withheld => decide (c < 4) && decide (withheld < 2 ^ 32)
  | .budgetMessage c from_ demand ceiling => decide (c < 4) && decide (from_ < 4) && decide (demand < 2 ^ 32) && decide (ceiling < 2 ^ 32)
  | .budgetMissing c from_ => decide (c < 4) && decide (from_ < 4)
  | .packageCheck => true
  | .governorUpdate c => decide (c < 4)
  | .sprintWindowClose _ ms => decide (ms < 2 ^ 32)
  | .pwrModeWrite v => decide (v < 2 ^ 32)
  | .pwrCapWrite v => decide (v < 2 ^ 32)
  | .pwrbrkNAssert => true
  | .pwrbrkNRelease => true
  | .thmCoolantWrite v => decide (v < 2 ^ 32)
  | .coolantStale => true
  | .coolingDegraded => true
  | .coolingRecovered => true
  | .coolFaultNAssert => true
  | .pauseComplete => true
  | .pausedRequestTimeout => true
  | .resume => true
  | .disagreeWindowEnd c h => decide (c < 4) && decide (h < 22)
  | .bstPark v _ => decide (v < 2 ^ 32)
  | .parkTestEnd fails _ _ _ => decide (fails < 2 ^ 32)
  | .supplySample _ => true
  | .tokenRegisterOwnerKey _ => true
  | .tokenRevokeOwnerKey _ => true
  | .tokenDebugUnlock => true
  | .fuseBurnEnd _ => true
  | .debugZeroEnd => true
  | .jtagBypass => true
  | .jtagIdcode => true
  | .jtagSamplePreload => true
  | .jtagExtest => true
  | .jtagClamp => true
  | .jtagPrivate ir => decide (ir < 64)
  | .getVersion => true
  | .getCapabilities => true
  | .negotiateAlgorithms _ => true
  | .getDigests => true
  | .getCertificate slot offset length => decide (slot < 2 ^ 16) && decide (offset < 2 ^ 16) && decide (length < 2 ^ 16)
  | .challenge slot _ => decide (slot < 2 ^ 16)
  | .getMeasurements index _ _ => decide (index < 256)
  | .keyExchange slot => decide (slot < 2 ^ 16)
  | .finishSpdm session _ => decide (session < 2 ^ 32)
  | .spdmHeartbeat session => decide (session < 2 ^ 32)
  | .keyUpdate session => decide (session < 2 ^ 32)
  | .endSession session => decide (session < 2 ^ 32)
  | .spdmUnsupported code => decide (code < 256)
  | .ideKm session stream msg sub keySet _ => decide (session < 2 ^ 32) && decide (stream < 256) && decide (msg < 256) && decide (sub < 4) && decide (keySet < 2)
  | .badFlitReceived p b _ => decide (p < 8) && decide (b.length = 256)
  | .edgeLaneRepair k m _ => decide (k < 8) && decide (m < 16)
  | .sensorNoConversion c i => decide (c < 4) && decide (i < 116)
  | .coolFaultNRelease => true
  | .controlCoreStart i => decide (i < 17)
  | .mctpRouteToBmc => true
  | .plinthFloorFailure c => decide (c < 4)
  | .tokenRefusedKind => true
  | .kvUnlistedOp c => decide (c < 4)
  | .resetLevelRefused v => decide (v < 2 ^ 32)

end Sys2Proof
end

