-- ==== Sys2Proof/Safety.lean ====
section
/-!
DEFINITION. What claims about runs are stated in: safe steps, the shown journal count, the canonical form of the tables
that hold memory.
-/

namespace Sys2Proof.Machine

open Sys2Proof

/-- The state a step goes on in. -/
def nextOf : Host.Outcome State Fault Refusal → Option State
  | .next s => some s
  | _ => none

/-- A step that neither faults nor is refused. -/
abbrev stepSafe (s : State) : Prop := (nextOf (step s)).isSome = true

/-- Table 14-13: HQ_STATUS.journal_used shows the number of journal entries. -/
abbrev State.journalShown (s : State) : Prop := s.getF R.HQ_STATUS.journal_used = s.journal.length % 2 ^ 16

/-- The canonical form of device memory. -/
abbrev Memory.wf (m : Tbl Byte) : Prop := Tbl.wf 0 m

/-- The two states differ at most in registers, the error log, pending interrupt bits and the messages sent: what flags,
log entries and interrupts write. -/
def State.notesOnly (s t : State) : Prop := t = { s with regs := t.regs, pba := t.pba, log := t.log, out := t.out }

/-- Two states read the same in every byte of device memory, its check bits included. -/
abbrev sameMemory (s t : State) : Prop := (∀ a, t.rdByte a = s.rdByte a) ∧ t.bad = s.bad ∧ t.lines = s.lines

/-- Every register but those of a list holds what it held. HQ_STATUS follows the journal after every command and is
spoken of by `State.journalShown`. -/
abbrev sameRegsBut (l : List Nat) (s t : State) : Prop := ∀ off, off ∉ R.HQ_STATUS :: l → t.getW off = s.getW off

/-- The registers that log entries and interrupts write: GLB_INT_STATUS and the error log's counters and flags
(R461, R472, Table 17-9 to 17-11). -/
abbrev noteReg (off : Nat) : Prop := off = R.GLB_INT_STATUS ∨ (R.ERR_SEQ ≤ off ∧ off < R.ERR_INT_CLASS)

/-- Every register holds what it held but those of a list and those that log entries and interrupts write. -/
abbrev sameRegsButNotes (l : List Nat) (s t : State) : Prop :=
  ∀ off, off ∉ R.HQ_STATUS :: l → ¬ noteReg off → t.getW off = s.getW off

/-- Only registers differ, and no register but HQ_STATUS does: a command whose enabling condition fails. -/
abbrev untouched (s t : State) : Prop := t = { s with regs := t.regs } ∧ sameRegsBut [] s t

/-- The command completes: it answers a next state of which a property holds. -/
def completes (c : Instr) (s : State) (P : State → Prop) : Prop := ∃ t, exec c s = .next t ∧ P t

/-- Nothing refuses, holds, corrects or caches what a memory request names, and it goes to memory that can be found: its sectors
hold no symbol in error. -/
def clearWay (s : State) (q : MemReq) : Prop :=
  s.refusal q = none ∧ reqInWindow q = false ∧ s.paused = false ∧ s.drawerSleeps q = false ∧ s.cueHolds q = none ∧
  s.anyCached q.addr q.len = false ∧ ∀ x ∈ sectorsOf q.addr q.len, (s.locate x).isSome = true ∧ s.sectorErr x = 0

/-- R196, R213: the byte at an address as every requester sees it: through the sideboard cache, or the memory's own. -/
def State.seen (s : State) (a : Nat) : Byte := if s.cached (a / 64 * 64) then s.cacheByte a else s.rdByte a

/-- R190-R199: nothing refuses or holds a request within one cache line, and each of its sectors can be found and read, be it after
correction. -/
def openWay (s : State) (q : MemReq) : Prop :=
  s.refusal q = none ∧ reqInWindow q = false ∧ s.paused = false ∧ s.drawerSleeps q = false ∧ s.cueHolds q = none ∧
  q.addr % 512 + q.len ≤ 512 ∧ ∀ x ∈ sectorsOf q.addr q.len, (s.locate x).isSome = true ∧ s.sectorErr x ≤ 1

/-- R112, R113: the instruction is the next one of an invocation of a core, and not the last of its segment. -/
def vecReady (s : State) (u op : Nat) (f : VecF) (c : Ctx) : Prop :=
  nextCtx (s.core u) (vecWord op f) = some c ∧ c.pc + 1 < segLen (hdrAt (s.core u) c.chain) c.seg

/-- R138: what every instruction that issues does beside its effect: the issue count and the invocation move on by one; no other core, no byte
of memory or of the tile store changes. -/
def vecIssued (s t : State) (u : Nat) (c : Ctx) : Prop :=
  t = { s with regs := t.regs, cores := t.cores } ∧ (∀ k, k ≠ u → t.core k = s.core k) ∧ (t.core u).tile = (s.core u).tile ∧
  (if c.kind = 1 then (t.core u).pctx else (t.core u).ctx) = some { c with pc := c.pc + 1 } ∧
  t.getPair (R.COR_VEC_ISSUE_LO u) = (s.getPair (R.COR_VEC_ISSUE_LO u) + 1) % 2 ^ 64

/-- Lane l of a vector register of a core. -/
def CoreSt.lane (t : CoreSt) (r l : Nat) : Word32 := (lanes (Tbl.get [] t.v r)).getD l 0

/-- Bit l of a predicate register of a core. -/
def CoreSt.pbit (t : CoreSt) (r l : Nat) : Bool := (Tbl.get 0 t.p r).getLsbD l

/-- R227, R235: the instruction with this opcode, fields and iteration is the next one of the cue that runs on a puppeteer. -/
def pupReady (s : State) (u op : Nat) (f : PupF) (iter : Nat) (n : PNext) : Prop :=
  s.pupNext u = some n ∧ n.op = op ∧ n.f = f ∧ n.run.iter = iter

/-- Only puppeteer u and registers differ, and its run has moved on by one instruction. -/
def pupMoved (s t : State) (u : Nat) (n : PNext) : Prop :=
  t = { s with regs := t.regs, pups := t.pups } ∧ (∀ k, k ≠ u → t.pup k = s.pup k) ∧ (t.pup u).cue = (s.pup u).cue ∧
  ∃ r, (t.pup u).run = some r ∧ r.pc = n.run.pc + 1 ∧ r.iter = n.run.iter ∧ r.done = n.run.done ∧ r.idx = n.run.idx ∧ r.part = n.run.part

/-- Lane l of vector register k of puppet j. -/
def State.pvLane (s : State) (u j k l : Nat) : Word32 := Tbl.get 0 (s.pup u).pv (pvKey j k l)

/-- The commands that a part held in reset or without power serves: rails, pins and the JTAG port (R438, R529, R538). -/
def servedInReset : Instr → Bool
  | .powerUp _ | .powerRemoval | .vaonExcursion | .perstNAssert | .perstNRelease _ => true
  | .pwrbrkNAssert | .pwrbrkNRelease | .coolFaultNAssert | .coolFaultNRelease => true
  | .jtagBypass | .jtagIdcode | .jtagSamplePreload | .jtagExtest | .jtagClamp | .jtagPrivate _ => true
  | _ => false

/-- The log entry of an event on plinth 0 with the stamp of a state (R461, R463, R464). -/
def State.entry (s : State) (kind idx ev cls : Nat) (av : Bool) (addr detail count : Nat) : LogEntry :=
  ⟨s.getF R.ERR_SEQ.seq, srcId 0 kind idx, cls, av, s.stamp.2, s.stamp.1, addr, ev, detail, count⟩

/-- The error log took one new entry, in the slot its sequence number gives. -/
def logged (s t : State) (e : LogEntry) : Prop :=
  Tbl.get LogEntry.zero t.log.ring (s.getF R.ERR_SEQ.seq % 512) = e ∧ t.getF R.ERR_SEQ.seq = (s.getF R.ERR_SEQ.seq + 1) % 2 ^ 32

end Sys2Proof.Machine
end

