-- ==== Sys2Proof/Certificates/Slice0/Obligations.lean ====
section
/-!
DEFINITION. The statements about the machine.
-/

open Sys2Proof Sys2Proof.Machine

/-! ### The block as a whole -/

/-- A step runs the command at the front of the queue, with the queue's rest in the state it runs on. -/
def Obligations.StepRunsFrontCommand : Prop :=
  ∀ (c : Instr) (s : State) (rest : List Instr), s.pending = c :: rest → step s = exec c { s with pending := rest }

/-- The model's choice (log entry 3): on an empty queue a running part idles for 1 ns, and only its clocks, its registers, the
error log and its messages may follow; a part held in reset does not change at all. -/
def Obligations.IdleStepAdvancesTime : Prop :=
  ∀ s : State, s.pending = [] →
    (s.up = false → step s = .next s) ∧
    (s.up = true → ∃ t, step s = .next t ∧ t.now = s.now + 1 ∧ t.pending = [] ∧ t.mem = s.mem ∧
      (∀ u, t.core u = { s.core u with slotAt := (t.core u).slotAt }) ∧ t.slices = s.slices ∧ t.pups = s.pups ∧ t.journal = s.journal ∧ t.trays = s.trays)

/-- Table 14-13: HQ_STATUS.journal_used shows the number of journal entries in every state a step reaches from a state in which
it does; the queue of waiting commands loses its front and nothing else. No step faults and none is refused.
The model's readings behind it: log entry 7. -/
def Obligations.StepKeepsJournalCount : Prop :=
  ∀ s : State, s.journalShown → ∃ t, step s = .next t ∧ t.journalShown ∧ t.pending = s.pending.tail

/-- The state right after reset shows its journal count: no entry, journal_used 0. -/
def Obligations.ResetShowsJournalCount : Prop := State.reset.journalShown ∧ State.reset.journal = []

/-- Every command completes in every state, whatever its operands: it answers a next state, leaves the queue of waiting commands
as it found it and shows the journal count. Held in reset, every command that no rail, pin or JTAG port carries changes nothing.
The model's readings behind it: log entries 1 and 9. -/
def Obligations.EveryCommandCompletes : Prop :=
  ∀ (c : Instr) (s : State),
    (∃ t, exec c s = .next t ∧ t.pending = s.pending ∧ (s.journalShown → t.journalShown)) ∧
    (s.up = false → servedInReset c = false → exec c s = .next s)

/-! ### Register accesses (chapter 00) -/

/-- R11, R13: a read of a register that is no half of a pair and lies in no window of its own returns its word; its RC fields
read zero afterwards, its other fields and every other register are as they were. -/
def Obligations.RegisterReadClearsRcFields : Prop :=
  ∀ (s : State) (m : Master) (off o : Nat), s.up = true → s.closedTo m off = false → msixAt m off = none → pbaAt m off = none →
    mapOff m off = some o → logSlotAt o = none → s.rxHidden m o = false → R.isLo o = false →
    (4 ≤ o → R.isLo (o - 4) = false) →
    completes (.rcRead m off) s fun t =>
      t.out = s.out ++ [.readData m off (s.liveW o)] ∧ t = { s with regs := t.regs, out := t.out } ∧ sameRegsBut [o] s t ∧
      (o ≠ R.HQ_STATUS → ∀ f ∈ R.fieldsAt o, bits (t.getW o) f.hi f.lo = if f.acc = .rc then 0 else bits (s.getW o) f.hi f.lo)

/-- R11, R12: a write of a register gives every RW and RWS field the written bits, clears every W1C bit that is written 1 and
keeps the rest of them, and leaves every other field; a field whose write is a command of its own is left to it. The register beside COR_ARR_FLAGS
and CHS_BUDGET's active half, which the write moves along, are set apart. `0` says that hardware sets no flag in the same cycle. -/
def Obligations.RegisterWriteByAccessType : Prop :=
  ∀ (s : State) (m : Master) (off o v : Nat), s.up = true → s.closedTo m off = false → msixAt m off = none →
    mapOff m off = some o → writablePair o = false → (4 ≤ o → writablePair (o - 4) = false) → s.txClosed m o = false →
    s.tokenClosed o = false → o ≠ R.HQ_STATUS → (∀ c, o ≠ R.CHS_BUDGET c) →
    completes (.registerWrite m off v 0) s fun t =>
      t = { s with regs := t.regs } ∧ sameRegsBut [o, o + 8] s t ∧
      ∀ f ∈ R.fieldsAt o, hasOwnRow o f = false →
        ((f.acc = .rw ∨ f.acc = .rws) → bits (t.getW o) f.hi f.lo = bits v f.hi f.lo) ∧
        (f.acc = .w1c → ∀ b, f.lo ≤ b → b ≤ f.hi → bit (t.getW o) b = (bit (s.getW o) b && !bit v b)) ∧
        ((f.acc = .ro ∨ f.acc = .wo ∨ f.acc = .rc) → bits (t.getW o) f.hi f.lo = bits (s.getW o) f.hi f.lo)

/-- R12: where software clears a flag of THM_FLAGS in the cycle in which hardware sets it, level 4 leaves it set and level 3 leaves
it clear, and the flag's race counter counts up to 255. -/
def Obligations.FlagClearRace : Prop :=
  ∀ (s : State) (b : Nat), s.up = true → b < 8 →
    completes (.registerWrite (.host 0) R.THM_FLAGS (2 ^ b) (2 ^ b)) s fun t =>
      bit (t.getW R.THM_FLAGS) b = s.level4 ∧
      (∀ j, j < 8 → j ≠ b → bit (t.getW R.THM_FLAGS) j = bit (s.getW R.THM_FLAGS) j) ∧
      bits (t.getW (R.THM_RACE (b / 4))) (8 * (b % 4) + 7) (8 * (b % 4)) =
        satAdd 255 (bits (s.getW (R.THM_RACE (b / 4))) (8 * (b % 4) + 7) (8 * (b % 4))) 1 ∧
      sameRegsBut [R.THM_FLAGS, R.THM_RACE (b / 4)] s t

/-- R10: a master that reads LO gets the lower half and latches the upper half, which its next read of HI returns; a master that
writes LO latches it, and its write of HI gives the pair its new value. Other masters' latches are untouched. The pair of the writes is
GLB_BOOT_FW_SRC, whose words are wholly RW. -/
def Obligations.PairLatches : Prop :=
  ∀ (s : State) (m : Master) (off o v : Nat), s.up = true → mapOff m off = some o →
    (R.isLo o = true → completes (.reg64LoRead m off) s fun t =>
      t.out = s.out ++ [.readData m off (s.liveW o)] ∧ sameRegsBut [] s t ∧
      ∀ m' lo, Tbl.get 0 t.latch.rd (latchKey m' lo) =
        if latchKey m' lo = latchKey m o then BitVec.ofNat 32 (s.liveW (o + 4)) else Tbl.get 0 s.latch.rd (latchKey m' lo)) ∧
    (s.closedTo m off = false → msixAt m off = none → pbaAt m off = none → logSlotAt o = none → s.rxHidden m o = false →
      R.isLo o = false → 4 ≤ o → R.isLo (o - 4) = true →
      completes (.rcRead m off) s fun t =>
        t.out = s.out ++ [.readData m off (Tbl.get 0 s.latch.rd (latchKey m (o - 4))).toNat] ∧ sameRegsBut [] s t) ∧
    (o = R.GLB_BOOT_FW_SRC_LO → s.closedTo m off = false → msixAt m off = none → completes (.registerWrite m off v 0) s fun t =>
      (∀ m' lo, Tbl.get 0 t.latch.wr (latchKey m' lo) =
        if latchKey m' lo = latchKey m o then BitVec.ofNat 32 v else Tbl.get 0 s.latch.wr (latchKey m' lo)) ∧ sameRegsBut [] s t) ∧
    (o = R.GLB_BOOT_FW_SRC_HI → completes (.reg64HiWrite m off v) s fun t =>
      t.getPair R.GLB_BOOT_FW_SRC_LO =
        (Tbl.get 0 s.latch.wr (latchKey m R.GLB_BOOT_FW_SRC_LO)).toNat + v % 2 ^ 32 * 2 ^ 32 ∧
      sameRegsBut [R.GLB_BOOT_FW_SRC_LO, R.GLB_BOOT_FW_SRC_HI] s t)

/-- R9: a BAR0 access that is no naturally aligned 32-bit one is logged (event 0x1C) with its offset, byte lanes and direction; a read
ends with Completer Abort, a write is dropped. No register but those of the log changes. -/
def Obligations.BadBar0AccessIsLogged : Prop :=
  ∀ (s : State) (m : Master) (write : Bool) (off detail : Nat), s.up = true →
    completes (.bar0BadAccess m write off detail) s fun t =>
      s.notesOnly t ∧ logged s t (s.entry 9 0x3FF 0x1C 2 false (off % 2 ^ 32) (detail % 16 + (if write then 16 else 0)) 1) ∧
      sameRegsButNotes [] s t ∧ (write = false → t.out.getLast? = some (.abort m off))

/-! ### Power, resets of the whole part, bring-up (chapters 16, 21) -/

/-- R399, R448, R459: PERST_N, a hot reset, a link-down and a VIO excursion reset the whole device: no entry, tray, operation, layout
or cache page is left, the level is the strap's, and only fuses and pins outlive the reset; unless an input pin is asserted, which then acts
at once (R485, R493, R497), every register but the two that show the level reads its Reset value. The release of PERST_N starts the part with its strap sampled
anew (R438, R549).
The model's readings behind it: log entry 41. -/
def Obligations.WholeDeviceReset : Prop :=
  ∀ (s : State) (strap : Bool),
    let fresh := fun (level : Bool) (t : State) =>
      t.fuse = s.cutBurn.fuse ∧ t.journal = [] ∧ t.trays = [] ∧ t.cores = [] ∧ t.slices = [] ∧ t.pups = [] ∧ t.ports = [] ∧ t.sides = [] ∧
      t.log.ring = [] ∧ t.lay = LaySt.zero ∧ t.kv = KvSt.zero ∧ t.qos = QosSt.zero ∧ t.lines = [] ∧ t.bmcRoute = false ∧
      s.out <+: t.out ∧ t.getF R.GLB_BEHAVIOUR.level = (if level then 4 else 3) ∧ t.getF R.KVM_STATUS.level = (if level then 1 else 0) ∧
      (s.pins.pwrbrkN = true → s.pins.coolFaultN = true → s.pins.thermtrip = false → t.thm = ThmSt.zero ∧
        ∀ off, off ≠ R.GLB_BEHAVIOUR → off ≠ R.KVM_STATUS → off ≠ R.HQ_STATUS → t.getW off = (R.reset off).toNat)
    (s.up = true → ∀ c ∈ [Instr.hotReset, .linkDown, .vioExcursion], completes c s fun t => t.up = true ∧ fresh s.pins.behavSel t) ∧
    (s.up = true → completes .perstNAssert s fun t => t.up = false ∧ t.pins.perstN = false ∧ fresh s.pins.behavSel t) ∧
    (s.pins.perstN = false → s.pins.vaon = true → s.pins.vio = true → s.pins.vin = true →
      completes (.perstNRelease strap) s fun t =>
        t.up = true ∧ t.now = 0 ∧ t.pins = { s.pins with perstN := true, behavSel := strap, brownOut := false } ∧ fresh strap t)

/-- R543-R545: rails rise in order with PERST_N held low, or out of order, when the part waits for a new assertion; without power or
after a VAON excursion nothing but the fuses is kept, a burn that runs is cut, and the part is down.
The model's readings behind it: log entry 43. -/
def Obligations.PowerRails : Prop :=
  ∀ (s : State) (inOrder : Bool),
    ((s.pins.vaon && s.pins.vio && s.pins.vin) = false → completes (.powerUp inOrder) s fun t =>
      t.up = false ∧ t.pins = { s.pins with vaon := true, vio := true, vin := true, perstN := !inOrder } ∧
      t = { s with up := false, pins := t.pins, regs := t.regs }) ∧
    (completes .powerRemoval s fun t =>
      t.up = false ∧ t.fuse = s.cutBurn.fuse ∧ t.pins.vaon = false ∧ t.pins.vio = false ∧ t.pins.vin = false ∧ t.pins.thermtrip = false ∧
      t.journal = [] ∧ t.cores = [] ∧ t.sec = SecSt.zero ∧ t.out = s.out ∧ sameRegsBut [] State.reset t) ∧
    (completes .vaonExcursion s fun t =>
      t.up = false ∧ t.fuse = s.cutBurn.fuse ∧ t.pins = { s.pins with thermtrip := false, brownOut := false } ∧
      t.journal = [] ∧ t.cores = [] ∧ t.sec = SecSt.zero ∧ t.out = s.out ∧ sameRegsBut [] State.reset t)

/-- R545: in a brown-out the plinth floors run on: the part is up and at management tier with no usable chest, and every die's
stores and the stacked memory are lost.
The model's readings behind it: log entries 40 and 50. -/
def Obligations.BrownOutKeepsFloors : Prop :=
  ∀ s : State, s.up = true →
    completes .brownOut s fun t =>
      t.up = true ∧ t.pins.brownOut = true ∧ t.getF R.GLB_SERVICE.tier = 1 ∧ t.getF R.GLB_SERVICE.chest_usable = 0 ∧
      t.mem = [] ∧ t.memLost ≠ 0 ∧ t.fuse = s.fuse ∧ t.now = s.now ∧ t.lay = s.lay ∧ t.ports = s.ports

/-- R439-R445: a start step that the part takes is running when its command ends; what each has done by then.
The model's readings behind it: log entry 44. -/
def Obligations.BringUpSteps : Prop :=
  ∀ (s : State) (v : Nat), s.up = true →
    (∀ fw park, bits v 2 0 = 2 → s.stepMayStart 2 = true → s.stepFetch R.GLB_BOOT_FW_SRC_LO R.GLB_BOOT_FW_LEN fw = none →
      completes (.bootStep2 v fw park) s fun t => t.stepState 2 = 1 ∧ t.boot.fw = s.boot.fw ∧ t.boot.code = 2) ∧
    (∀ fw park b, bits v 2 0 = 2 → s.stepMayStart 2 = true → s.stepFetch R.GLB_BOOT_FW_SRC_LO R.GLB_BOOT_FW_LEN fw = some b →
      completes (.bootStep2 v fw park) s fun t =>
        t.stepState 2 = 1 ∧ t.boot.fw = (if (fwHeaderOk b && fwSigOk b) = true then b else s.boot.fw) ∧
        t.boot.code = (if fwHeaderOk b = false then 3 else if fwSigOk b = false then 4
          else if bits (s.getW R.GLB_BOOT_PARK_LEN) 17 0 ≠ 0 ∧ s.stepFetch R.GLB_BOOT_PARK_SRC_LO R.GLB_BOOT_PARK_LEN park = none then 2 else 0)) ∧
    (∀ faulted, bits v 2 0 = 3 → s.stepMayStart 3 = true → s.ccRuns 0 = true →
      completes (.bootStep3 v faulted) s fun t =>
        ∀ c < 4, bit t.boot.upChests c = (bit s.boot.upChests c || (bit v (4 + c) && !bit faulted c))) ∧
    (∀ r, bits v 2 0 = 4 → s.stepMayStart 4 = true → s.ccRuns 0 = true →
      completes (.bootStep4 v r) s fun t => t.stepState 4 = 1 ∧ (∀ a, t.rdByte a = 0#8) ∧ t.bad = [] ∧ t.lines = [] ∧ t.slots = []) ∧
    (∀ lic b, bits v 2 0 = 6 → s.stepMayStart 6 = true → s.ccRuns 0 = true →
      (if bits (s.getW R.GLB_BOOT_LIC_LEN) 17 0 = 0 then some [] else s.stepFetch R.GLB_BOOT_LIC_SRC_LO R.GLB_BOOT_LIC_LEN lic) = some b →
      completes (.bootStep6 v lic) s fun t =>
        let ok := (licenceSet b).filter s.licenceOk
        let feat := ok.foldl (fun m x => m ||| licFeatures x) 0
        t.stepState 6 = 1 ∧ t.boot.licences = ok ∧ t.getF R.SEC_LICENCE.features = feat ∧ t.getF R.SEC_LICENCE.accepted = ok.length ∧
        t.getF R.SEC_LICENCE.ignored = (licenceSet b).length - ok.length ∧ t.getF R.PZL_ID.ports = (if bit feat 1 then 8 else 4)) ∧
    (∀ k timeUs, k < 7 → s.stepState k = 1 → (∀ j < k, s.stepState j ≠ 1) →
      completes (.bootStepEnd timeUs) s fun t =>
        t.stepState k = (if s.boot.code = 0 then 2 else 3) ∧ t.getW R.GLB_BOOT_TIME = timeUs % 2 ^ 32 ∧
        t.getBit R.GLB_INT_STATUS.cause 1 = true)

/-- R439: a start step named out of order is not started: GLB_BOOT_ERR takes the step and code 0x01, and a protocol-class entry is
written. R443: step 5 copies the firmware to the lowest-numbered chest that came up whose sideboard slice has not failed; without one it fails.
The model's readings behind it: log entry 44. -/
def Obligations.BringUpOrderAndCopy : Prop :=
  ∀ (s : State) (v : Nat), s.up = true →
    (2 ≤ bits v 2 0 → bits v 2 0 ≤ 6 → s.stepMayStart (bits v 2 0) = false → completes (.bootStepOutOfOrder v) s fun t =>
      t.getF R.GLB_BOOT_ERR.step = bits v 2 0 ∧ t.getF R.GLB_BOOT_ERR.code = 1 ∧ t.getF R.GLB_BOOT_ERR.detail = 0 ∧
      logged s t (s.entry 0xC 0 0x1A 2 false 0 (bits v 2 0 + 256) 1) ∧ s.notesOnly t ∧
      sameRegsButNotes [R.GLB_BOOT_CTRL, R.GLB_BOOT_ERR] s t) ∧
    (∀ bad, bits v 2 0 = 5 → s.stepMayStart 5 = true → s.ccRuns 0 = true →
      completes (.bootStep5 v bad) s fun t =>
        t.stepState 5 = 1 ∧ t.boot.fwHome = (s.fwHomeChest <|> s.boot.fwHome) ∧ (s.fwHomeChest = none → t.boot.code = 5))

/-- R450, R452, Table 16-14: a request through GLB_RESET_CTRL with go set starts the reset of its level at the chest and target it names, which
runs until its end, or is refused with its code and changes nothing else; level 0x3 is always refused with code 2.
The model's readings behind it: log entry 46. -/
def Obligations.ResetRequests : Prop :=
  ∀ (s : State) (v level : Nat) (c : Instr), s.up = true → bit v 8 = true → bits v 1 0 = level →
    (level, c) ∈ [(0, Instr.resetCore v), (1, .resetCluster v), (2, .resetPartition v), (3, .resetLevelRefused v)] →
    (s.resetRefusal level (bits v 7 4) ≠ 0 → completes c s fun t =>
      t.getF R.GLB_RESET_STATUS.refuse_code = s.resetRefusal level (bits v 7 4) ∧ t = { s with regs := t.regs } ∧
      sameRegsBut [R.GLB_RESET_CTRL, R.GLB_RESET_STATUS] s t) ∧
    (s.resetRefusal level (bits v 7 4) = 0 → s.chestUp (bits v 3 2) = true → completes c s fun t =>
      ∃ r ∈ t.rst.running, r.hasCore (bits v 3 2 * 9 + (if level = 1 then 3 * bits v 7 4 else if level = 0 then bits v 7 4 else 0)) = true) ∧
    (level = 3 → s.resetRefusal level (bits v 7 4) = 2)

/-- R448, R455, R32: an uncorrectable error starts a core or a partition reset by itself; a reset that runs ends, counted, with cause
10; an island regulator fault declares a core dead; a plinth floor that fails takes its chest and
both its edges with it, and without plinth 0 the part is down. -/
def Obligations.HardwareResets : Prop :=
  ∀ s : State, s.up = true →
    (∀ level chest target, (level = 0 ∧ target < 9 ∨ level = 2) → chest < 4 → s.chestUp chest = true →
      completes (.unitUncorrectableReset level chest target) s fun t =>
        ∃ r ∈ t.rst.running, r.hasCore (chest * 9 + (if level = 0 then target else 0)) = true) ∧
    (∀ r bad, r ∈ s.rst.running → r.level < 3 → r.chest < 4 → r.target < 9 →
      completes (.partialResetEnd r.level r.chest r.target bad) s fun t =>
        t.getF R.GLB_RESET_STATUS.last_level = r.level ∧ t.getF R.GLB_RESET_STATUS.last_chest = r.chest ∧
        t.getF R.GLB_RESET_STATUS.resets = satAdd 0xFFFF (s.getF R.GLB_RESET_STATUS.resets) 1 ∧ t.getBit R.GLB_INT_STATUS.cause 10 = true) ∧
    (∀ r, s.rst.running = [r] → r.level < 2 → r.chest < 4 → r.target < 9 → s.journal = [] → s.rst.takeover = [] → s.rst.coreTimes = [] → s.lay.force = none →
      completes (.partialResetEnd r.level r.chest r.target 0) s fun t =>
        t.rst.running = [] ∧ t.getF R.GLB_RESET_STATUS.busy = 0 ∧ t.getF R.GLB_RESET_STATUS.last_level = r.level ∧
        t.getF R.GLB_RESET_STATUS.resets = satAdd 0xFFFF (s.getF R.GLB_RESET_STATUS.resets) 1 ∧ t.getBit R.GLB_INT_STATUS.cause 10 = true) ∧
    (∀ u, u < 36 → s.chestUp (u / 9) = true → s.ccRuns (1 + u / 9) = true →
      completes (.islandRegulatorFault u) s fun t => t.getBit (R.GLB_CHEST_MAP.phys_dead (u / 9)) (u % 9) = true) ∧
    (∀ c, c < 4 → s.floorOk c = true →
      completes (.plinthFloorFailure c) s fun t =>
        t.floorOk c = false ∧ t.chestUp c = false ∧ t.edgeUp (sideEdge (2 * c)) = false ∧ t.edgeUp (sideEdge (2 * c + 1)) = false ∧
        t.up = decide (c ≠ 0))

/-! ### Control cores, pigeonholes, MCTP (chapter 15) -/

/-- R423, R428: a running control core writes its request class and kicks its watchdog; a watchdog whose period has passed since the
last kick resets the core, counted, and at the fourth restart within 10 s fails it (R429, R430); the floor core's heartbeat reaches every running
core and notes who did not answer, and the third beat in a row that one does not answer restarts it. -/
def Obligations.ControlCoreUpkeep : Prop :=
  ∀ (s : State) (i v : Nat), s.up = true → i < 17 → s.ccRuns i = true →
    (completes (.reqclass i v) s fun t =>
      (t.cc i).reqclass = v % 4 ∧ (∀ j, j ≠ i → t.cc j = s.cc j) ∧ t = { s with regs := t.regs, ctl := t.ctl } ∧ sameRegsBut [] s t) ∧
    (completes (.wdkick i) s fun t =>
      (t.cc i).kicked = s.now ∧ (∀ j, j ≠ i → t.cc j = s.cc j) ∧ t = { s with regs := t.regs, ctl := t.ctl } ∧ sameRegsBut [] s t) ∧
    ((s.cc i).kicked + s.watchdogNs i ≤ s.now → completes (.watchdogExpiry i) s fun t =>
      let recent := (s.cc i).restarts.filter (fun a => decide (s.now < a + 10000000000))
      t.ccState i = (if 3 ≤ recent.length then 4 else 3) ∧ t.getF (R.MBX_CC_STATUS.restarts i) = satAdd 255 (s.getF (R.MBX_CC_STATUS.restarts i)) 1 ∧
      (t.cc i).restarts = recent ++ [s.now] ∧ (t.cc i).reqclass = 0 ∧ t.getBit R.GLB_INT_STATUS.cause 15 = true) ∧
    (∀ answered, s.ccRuns 0 = true → completes (.heartbeat answered) s fun t =>
      (1 ≤ i → OutEvent.heartbeat i ∈ t.out ∧
        (t.cc i).missed = (if bit answered i then 0 else if (s.cc i).missed < 2 then (s.cc i).missed + 1 else 0) ∧
        (bit answered i = false → 2 ≤ (s.cc i).missed → t.ccState i = 3 ∨ t.ccState i = 4)) ∧
      ∀ j, s.ccRuns j = false → t.cc j = s.cc j) ∧
    (∀ answered, s.ccRuns 0 = true → 1 ≤ i → (s.cc i).missed < 2 → (∀ j, 1 ≤ j → j < 17 → j ≠ i → s.ccRuns j = false) →
      completes (.heartbeat answered) s fun t =>
        t.out = s.out ++ [.heartbeat i] ∧ (t.cc i).missed = (if bit answered i then 0 else (s.cc i).missed + 1) ∧
        (∀ j, j ≠ i → t.cc j = s.cc j) ∧ sameRegsBut [] s t)

/-- R426, R429: a control core held in reset is loaded again from the firmware copy: it starts where the digest of its section matches and
fails where it does not; its section is in its SRAM and it starts at the section's entry.
The model's readings behind it: log entry 51. -/
def Obligations.ControlCoreStarts : Prop :=
  ∀ (s : State) (i c : Nat), s.up = true → i < 17 → s.boot.fwHome = some c → s.ccState i = 3 → s.chestInReset c = false →
    s.rst.running.any (fun r => r.hasCc i) = false →
    completes (.controlCoreStart i) s fun t =>
      t.ccState i = (if (s.sectionOk c i).2 then 2 else 4) ∧ ((s.sectionOk c i).2 = true → (t.cc i).missed = 0 ∧ (t.cc i).reqclass = 0) ∧
      (t.cc i).sram = (s.sectionRead c i).2.elim (s.cc i).sram Prod.fst ∧ (t.cc i).pc = (s.sectionRead c i).2.elim (s.cc i).pc Prod.snd

/-- R431-R434, Table 16-2: once start-up has opened the pigeonhole, a send by the bound sender leaves its 64 bytes in it, full, with the receiver
told (the BMC takes at once where a route exists, R436); into a full one
it overwrites, counts the collision up to its field's maximum of 255 and sets the collision bit; a take and a send that reach it together, the take first, leave it
full with the new payload and no collision counted (R434); a take by the bound receiver moves the payload to RX with the count and empties it; any other
endpoint is refused with event 0x1F.
The model's readings behind it: log entry 2. -/
def Obligations.PigeonholeSendAndTake : Prop :=
  ∀ (s : State) (m : Master) (i e : Nat), s.up = true → i < 64 → m.endpoint = some e → s.holeOpen i = true →
    (s.holeValid i = true → s.holeSender i = e → s.receiverInReset i = false → s.holeFull i = false →
      completes (.pigeonholeSend m i) s fun t =>
        t.holeFull i = !(s.holeReceiver i == 1 && s.bmcRoute) ∧ Tbl.get [] t.holes i = txPayload s i ∧ (∀ j, j ≠ i → Tbl.get [] t.holes j = Tbl.get [] s.holes j) ∧
        (∀ c, ccOfEndpoint (s.holeReceiver i) = some c → t.out = s.out ++ [.ccInterrupt c])) ∧
    (s.holeValid i = true → s.holeSender i = e → s.receiverInReset i = false → s.holeFull i = true →
      completes (.pigeonholeSend m i) s fun t =>
        t.holeFull i = true ∧ Tbl.get [] t.holes i = txPayload s i ∧
        t.getF (R.MBX_P_STATUS.pending_coll i) = satAdd (fldMax (R.MBX_P_STATUS.pending_coll i)) (s.getF (R.MBX_P_STATUS.pending_coll i)) 1 ∧
        t.getBit (R.MBX_COLLISION.bits (i / 32)) (i % 32) = true ∧ t.out = s.out) ∧
    (∀ r : Master, s.holeValid i = true → s.holeSender i = e → s.receiverInReset i = false → s.holeReceiver i ≠ 1 →
      r.endpoint = some (s.holeReceiver i) → completes (.pigeonholeTake r i) s fun t => completes (.pigeonholeSend m i) t fun u =>
        u.holeFull i = true ∧ Tbl.get [] u.holes i = txPayload s i ∧ u.getF (R.MBX_P_STATUS.pending_coll i) = 0 ∧
        u.getBit (R.MBX_COLLISION.bits (i / 32)) (i % 32) = s.getBit (R.MBX_COLLISION.bits (i / 32)) (i % 32)) ∧
    (s.holeValid i = true → s.holeReceiver i = e → completes (.pigeonholeTake m i) s fun t =>
      t.holeFull i = false ∧ (∀ w < 16, t.getW (R.MBX_P_RX i w) = payloadWord (Tbl.get [] s.holes i) w) ∧
      t.getF (R.MBX_P_STATUS.taken_coll i) = s.getF (R.MBX_P_STATUS.pending_coll i) ∧ t.getF (R.MBX_P_STATUS.pending_coll i) = 0 ∧
      t = { s with regs := t.regs }) ∧
    (s.holeValid i = false → ∀ c ∈ [Instr.pigeonholeSend m i, .pigeonholeTake m i], completes c s fun t =>
      logged s t (s.entry 6 0 0x1F 2 false 0 (i % 64 + e % 32 * 64) 1) ∧ s.notesOnly t ∧ sameRegsButNotes [] s t)

/-- R432: before the lock the floor control core writes a binding entry, which empties its pigeonhole; (one that names a chest or cluster core only after step 4, Table 16-2); it locks the table; after the lock,
and for every other master, neither write has an effect. -/
def Obligations.BindingTable : Prop :=
  ∀ (s : State) (m : Master) (i v : Nat), s.up = true → i < 64 →
    (m = .cc 0 → s.isSet R.MBX_LOCK.locked = false → s.bindOpen v = true → completes (.mbxBindWrite m i v) s fun t =>
      t.getF (R.MBX_BIND.valid i) = bits v 31 31 ∧ t.holeReceiver i = bits v 12 8 ∧ t.holeSender i = bits v 4 0 ∧ t.holeFull i = false ∧
      Tbl.get [] t.holes i = [] ∧ t = { s with regs := t.regs, holes := t.holes } ∧
      sameRegsBut [R.MBX_BIND i, R.MBX_P_STATUS i, R.MBX_FULL (i / 32)] s t) ∧
    (m ≠ .cc 0 ∨ s.isSet R.MBX_LOCK.locked = true ∨ s.bindOpen v = false → completes (.mbxBindWrite m i v) s fun t => untouched s t) ∧
    (m = .cc 0 → bit v 0 = true → completes (.mbxLock m v) s fun t =>
      t.isSet R.MBX_LOCK.locked = true ∧ t = { s with regs := t.regs } ∧ sameRegsBut [R.MBX_LOCK] s t) ∧
    (m ≠ .cc 0 → completes (.mbxLock m v) s fun t => untouched s t)

/-- R436, Table 15-5: a SEND from the BMC reaches the pigeonhole bound to it; one it is not bound to is refused with an entry and an
answer; another command byte is ignored and logged; once a route exists, what waits for the BMC is delivered and taken.
The model's readings behind it: log entry 97. -/
def Obligations.BmcMessages : Prop :=
  ∀ (s : State) (b : List Byte), s.up = true →
    (∀ i, b.headD 0 = 1 → (b.getD 1 0).toNat = i → s.holeValid i = true → s.holeSender i = 1 → s.receiverInReset i = false →
      s.holeFull i = false → s.holeOpen i = true → completes (.mctpSend b) s fun t =>
        t.holeFull i = true ∧ Tbl.get [] t.holes i = bytesFrom b 2 64) ∧
    (b.headD 0 = 1 → s.holeValid (b.getD 1 0).toNat = false → s.bmcRoute = true →
      (64 ≤ (b.getD 1 0).toNat ∨ s.holeOpen (b.getD 1 0).toNat = true) → completes (.mctpSend b) s fun t =>
      logged s t (s.entry 6 0 0x1F 2 false 0 ((b.getD 1 0).toNat % 64 + 64) 1) ∧ t.out.getLast? = some (.mctp [4, b.getD 1 0]) ∧
      t.holes = s.holes) ∧
    (b.headD 0 ≠ 1 → completes (.mctpOther b) s fun t =>
      logged s t (s.entry 6 0 0x1F 2 false 0 ((b.getD 1 0).toNat % 64 + 64) 1) ∧ s.notesOnly t ∧ sameRegsButNotes [] s t) ∧
    (completes .mctpRouteToBmc s fun t => t.bmcRoute = true ∧
      ∀ i < 64, s.holeValid i = true → s.holeReceiver i = 1 → t.holeFull i = false)

/-! ### Trays, copies, BAR2 (chapter 14) -/

/-- R399, R401, R402, Table 14-9, Table 14-12: a disabled tray starts with its counts at zero and its bases latched; one that is disabled keeps what was
dispatched of it until its end; a doorbell moves T forward
within the ring, and one that is behind or overfills it puts the tray into state error with code 1; H follows the host and never passes D.
The model's readings behind it: log entry 81. -/
def Obligations.TrayRegisters : Prop :=
  ∀ (s : State) (t v : Nat), s.up = true → t < 1088 →
    (bit v 0 = true → s.trayState t = 0 → s.stepState 6 = 2 → 4 ≤ bits v 8 4 → bits v 8 4 ≤ 16 →
      completes (.trayEnable t v) s fun u =>
        u.trayState t = 1 ∧ u.getW (R.HQ_T_DOORBELL t) = 0 ∧ u.getW (R.HQ_T_ACCEPT t) = 0 ∧ u.getW (R.HQ_T_DONE t) = 0 ∧
        u.getW (R.HQ_T_CQ_HEAD t) = 0 ∧ u.getF (R.HQ_T_CTRL.enable t) = 1 ∧
        u.tray t = ⟨s.getPair (R.HQ_T_SQ_BASE_LO t), s.getPair (R.HQ_T_CQ_BASE_LO t), s.getPair (R.HQ_T_IDX_BASE_LO t), bits v 8 4, bits v 25 16, []⟩ ∧
        u = { s with regs := u.regs, trays := u.trays }) ∧
    (bit v 0 = false → s.trayState t = 1 → s.journal.any (fun e => e.tray == t) = false →
      completes (.trayDisable t v) s fun u =>
        u.trayState t = 0 ∧ u.tray t = TraySt.zero ∧ u.journal = s.journal ∧ u = { s with regs := u.regs, trays := u.trays }) ∧
    (bit v 0 = false → s.trayState t ≠ 0 → s.trayState t ≠ 4 → completes (.trayDisable t v) s fun u =>
        u.journal = s.journal.filter (fun e => !(e.tray == t && (e.st == 2 || (e.st == 0 && e.replays == 0)))) ∧
        u.trayState t = (if u.journal.any (fun e => e.tray == t) then 4 else 0) ∧ (u.tray t).fetched = [] ∧
        (∀ k, k ≠ t → u.tray k = s.tray k) ∧ u = { s with regs := u.regs, trays := u.trays, journal := u.journal }) ∧
    (s.trayState t = 1 → countBehind v (s.getW (R.HQ_T_DOORBELL t)) = false →
      countDist v (s.getW (R.HQ_T_CQ_HEAD t)) ≤ 2 ^ (s.tray t).n → completes (.doorbell t v) s fun u =>
        u.getW (R.HQ_T_DOORBELL t) = v % 2 ^ 32 ∧ u = { s with regs := u.regs } ∧ sameRegsBut [R.HQ_T_DOORBELL t] s u) ∧
    (s.trayState t = 1 → (countBehind v (s.getW (R.HQ_T_DOORBELL t)) = true ∨
      2 ^ (s.tray t).n < countDist v (s.getW (R.HQ_T_CQ_HEAD t))) → completes (.doorbell t v) s fun u =>
        u.trayState t = 3 ∧ u.getF (R.HQ_T_STATUS.error t) = 1 ∧ u.getW (R.HQ_T_DOORBELL t) = s.getW (R.HQ_T_DOORBELL t) ∧
        u.isSet R.HQ_FLAGS.tray_error = true ∧ s.notesOnly u) ∧
    (s.trayState t = 1 ∨ s.trayState t = 3 → completes (.cqHead t v) s fun u =>
      u.getW (R.HQ_T_CQ_HEAD t) = (if countBehind (s.getW (R.HQ_T_DONE t)) v then s.getW (R.HQ_T_CQ_HEAD t) else v % 2 ^ 32) ∧
      u = { s with regs := u.regs } ∧ sameRegsBut [R.HQ_T_CQ_HEAD t] s u)

/-- R399: a Function Level Reset of a VF leaves none of its trays' finished entries nor of those that were never dispatched, fetches
nothing more from them, and does not touch another function's entries; one of the PF also clears VF Enable.
The model's readings behind it: log entries 49 and 84. -/
def Obligations.FunctionLevelReset : Prop :=
  ∀ (s : State) (f : Nat), s.up = true → f < 17 →
    completes (.functionLevelReset f) s fun t =>
      (∀ e ∈ t.journal, e ∈ s.journal) ∧
      (∀ e ∈ t.journal, (f = 0 ∨ e.tray / 64 = f) → e.tray < 1088 → e.st ≠ 2 ∧ (e.st ≠ 0 ∨ e.replays ≠ 0)) ∧
      (∀ e ∈ s.journal, f ≠ 0 → e.tray / 64 ≠ f → e ∈ t.journal) ∧
      (∀ k, k < 1088 → (f = 0 ∨ k / 64 = f) → (t.tray k).fetched = [] ∧ t.trayState k ≠ 1) ∧
      (f = 0 → t.vfEnable = false) ∧ (f ≠ 0 → t.vfEnable = s.vfEnable)

/-- R403-R408, R413: the tray whose turn it is reads entries, which wait at their tray in order; acceptance journals the next one under the tray's count, writes the new
count A to the index area and ends at once an entry whose checks fail, and a NOP; a failed index write stops the tray with code 3.
The model's readings behind it: log entries 82 and 137. -/
def Obligations.TrayFetchAndAccept : Prop :=
  ∀ (s : State) (t : Nat), s.up = true → t < 1088 →
    (∀ entries : List (List Byte), s.trayNext = some t → s.fetchPaused = false → s.park.off = false → entries.length ≤ 32 →
      (s.tray t).fetched.length + entries.length ≤ countDist (s.getW (R.HQ_T_DOORBELL t)) (s.getW (R.HQ_T_ACCEPT t)) →
      completes (.trayFetch t (entries.map some)) s fun u =>
        u.tray t = { s.tray t with fetched := (s.tray t).fetched ++ entries } ∧ (∀ k, k ≠ t → u.tray k = s.tray k) ∧
        u = { s with regs := u.regs, trays := u.trays, trayTurn := t + 1 } ∧ sameRegsBut [] s u) ∧
    (∀ b rest indexOk, (s.tray t).fetched = b :: rest → s.journal.length < journalSize →
      countDist (s.getW (R.HQ_T_ACCEPT t)) (s.getW (R.HQ_T_CQ_HEAD t)) < s.maxOut t →
      completes (.entryAccept t indexOk) s fun u =>
        u.journal = s.journal ++ [⟨s.nextJid, t, s.getW (R.HQ_T_ACCEPT t), b,
          if s.acceptResult t b ≠ 0 ∨ entKind b = 5 then 2 else 0, statusWord (s.acceptResult t b) false 0, 0, 0, 0, 0⟩] ∧
        u.nextJid = s.nextJid + 1 ∧ (u.tray t).fetched = rest ∧ u.getW (R.HQ_T_ACCEPT t) = (s.getW (R.HQ_T_ACCEPT t) + 1) % 2 ^ 32 ∧
        (indexOk = true → u.out.getLast? = some (.hostWrite (s.tray t).idx (leBytes 4 ((s.getW (R.HQ_T_ACCEPT t) + 1) % 2 ^ 32)))) ∧
        (s.journal.length + 1 = journalSize → u.isSet R.HQ_FLAGS.journal_full = true) ∧
        (indexOk = false → u.trayState t = 3 ∧ u.getF (R.HQ_T_STATUS.error t) = 3)) ∧
    (∀ entries rest : List (Option (List Byte)), s.trayNext = some t → s.fetchPaused = false → s.park.off = false →
      (entries ++ none :: rest).length ≤ 32 →
      (s.tray t).fetched.length + (entries ++ none :: rest).length ≤ countDist (s.getW (R.HQ_T_DOORBELL t)) (s.getW (R.HQ_T_ACCEPT t)) →
      completes (.trayFetch t (entries ++ none :: rest)) s fun u => u.trayState t = 3 ∧ u.getF (R.HQ_T_STATUS.error t) = 2)

/-- R407, R408: an accepted entry that no earlier one holds back goes to its target: WORK starts at its descriptor on the core that serves
its logical core, after the snapshot of a sequence it names, or ends with result 7 where that cannot be read, a KV operation goes to its walker, a COPY starts; WORK that ends leaves the status word of Table 6-4.
The model's readings behind it: log entry 80. -/
def Obligations.EntriesRun : Prop :=
  ∀ (s : State) (e : JEntry), s.up = true → s.jFind e.jid = some e →
    (e.st = 0 → s.paused = false → (s.journal.takeWhile (fun x => x.jid != e.jid)).any (fun x => holdsBack e x) = false →
      entKind e.bytes = 1 → s.workMay e.bytes = true → entSeqPresent e.bytes = false →
      completes (.entryDispatch e.tray e.jid) s fun t =>
        (t.core (s.coreKey (entCore e.bytes))).work = some ⟨e.jid, some (entDesc e.bytes), 0, 0, false, 0⟩ ∧
        (∀ u, u ≠ s.coreKey (entCore e.bytes) → t.core u = s.core u) ∧
        t.journal = s.journal.map (fun x => if x.jid = e.jid then { x with st := 1 } else x) ∧
        t = { s with regs := t.regs, cores := t.cores, journal := t.journal } ∧ sameRegsBut [] s t) ∧
    (e.st = 0 → s.paused = false → (s.journal.takeWhile (fun x => x.jid != e.jid)).any (fun x => holdsBack e x) = false →
      entKind e.bytes = 1 → s.workMay e.bytes = true → s.trayState e.tray ≠ 4 → completes (.entryDispatch e.tray e.jid) s fun t =>
        if entSeqPresent e.bytes = true ∧ (s.pinPass e.jid (entSeq e.bytes)).2 = false
        then ({ e with st := 2, status := statusWord 7 false 0, outTag := 0, kvRes := 0, detail := 0 } : JEntry) ∈ t.journal
        else (t.core (s.coreKey (entCore e.bytes))).work = some ⟨e.jid, some (entDesc e.bytes), 0, 0, false, 0⟩ ∧
          ({ e with st := 1 } : JEntry) ∈ t.journal) ∧
    (e.st = 0 → s.paused = false → (s.journal.takeWhile (fun x => x.jid != e.jid)).any (fun x => holdsBack e x) = false →
      entKind e.bytes ≠ 1 → completes (.entryDispatch e.tray e.jid) s fun t =>
        t.journal = s.journal.map (fun x => if x.jid = e.jid then { x with st := 1 } else x) ∧
        t.kv.ops = s.kv.ops ++ (if entKind e.bytes = 2 then [⟨e.jid, entKv e.bytes, false⟩] else []) ∧ t.cores = s.cores) ∧
    (∀ u w, (s.core u).work = some w → w.jid = e.jid → w.next = none → (s.core u).ops = [] → (s.core u).finish = none → e.st ≠ 2 →
      s.trayState e.tray ≠ 4 →
      completes (.workFinish u) s fun t =>
        (t.core u).work = none ∧ (∀ k, k ≠ u → t.core k = s.core k) ∧
        ({ e with st := 2, status := statusWord w.result w.nothing w.sticky, outTag := w.tag, kvRes := 0, detail := 0 } : JEntry) ∈ t.journal)

/-- R409: a COPY_IN whose host read arrives, and a COPY_OUT whose host writes all land, over memory that nothing holds or
refuses, move every byte from where the copy stood and finish with result 0 and the bytes moved; a host read that fails finishes it with result 6,
the bytes before it moved.
The model's readings behind it: log entry 83. -/
def Obligations.CopiesMoveBytes : Prop :=
  ∀ (s : State) (e : JEntry) (data : List Byte), s.up = true → s.jFind e.jid = some e → e.st = 1 →
    s.trayState e.tray ≠ 4 → entLen e.bytes = e.detail + data.length → data ≠ [] → entDevAddr e.bytes + entLen e.bytes ≤ 2 ^ 39 →
    let a := entDevAddr e.bytes + e.detail
    (entKind e.bytes = 3 →
      (∀ p ∈ sectorParts a data.length, clearWay s ⟨.master 0x19, 0x19, true, p.1, p.2, some ((data.drop (p.1 - a)).take p.2), [], none⟩) →
      completes (.copyIn e.jid [some data]) s fun t =>
        (∀ x, t.rdByte x = if a ≤ x ∧ x < a + data.length then data.getD (x - a) 0 else s.rdByte x) ∧
        ({ e with st := 2, status := 0, outTag := 0, kvRes := 0, detail := entLen e.bytes } : JEntry) ∈ t.journal) ∧
    (entKind e.bytes = 3 → completes (.copyIn e.jid [none]) s fun t =>
      (∀ x, t.rdByte x = s.rdByte x) ∧
      ({ e with st := 2, status := statusWord 6 false 0, outTag := 0, kvRes := 0 } : JEntry) ∈ t.journal) ∧
    (entKind e.bytes = 4 →
      (∀ p ∈ sectorParts a data.length, clearWay s ⟨.master 0x19, 0x19, true, p.1, p.2, none, [], none⟩) →
      completes (.copyOut e.jid none) s fun t =>
        t.out = s.out ++ (sectorParts a data.length).map (fun p =>
          .hostWrite (entHostAddr e.bytes + (p.1 - entDevAddr e.bytes)) (s.rdBytes p.1 p.2)) ∧ (∀ x, t.rdByte x = s.rdByte x) ∧
        ({ e with st := 2, status := 0, outTag := 0, kvRes := 0, detail := entLen e.bytes } : JEntry) ∈ t.journal)

/-- R410, R413: the completion record of the entry that count D names goes to slot D modulo the ring size, then the new D to the index area,
a message follows where the entry asks for one, and the entry's place in the journal is free; a record of result 3 is counted.
The model's readings behind it: log entry 79. -/
def Obligations.CompletionRecords : Prop :=
  ∀ (s : State) (t : Nat) (e : JEntry), s.up = true → s.trayState t = 1 ∨ s.trayState t = 3 →
    s.journal.find? (fun x => x.tray == t && x.count == s.getW (R.HQ_T_DONE t) && x.st == 2) = some e →
    completes (.completionRecordWrite t) s fun u =>
      (bits e.status 15 12 = 3 → u.getF R.HQ_ABORTS.count = satAdd 0xFFFFFFFF (s.getF R.HQ_ABORTS.count) 1 ∧ u.isSet R.HQ_FLAGS.aborted = true) ∧
      u = { s with regs := u.regs, out := u.out, journal := u.journal, pba := u.pba } ∧ u.journal = s.journal.filter (fun x => x.jid != e.jid) ∧
      s.out ++ [.hostWrite ((s.tray t).cq + 32 * (s.getW (R.HQ_T_DONE t) % 2 ^ (s.tray t).n)) (completionBytes e),
        .hostWrite ((s.tray t).idx + 4) (leBytes 4 ((s.getW (R.HQ_T_DONE t) + 1) % 2 ^ 32))] <+: u.out ∧
      u.getW (R.HQ_T_DONE t) = (s.getW (R.HQ_T_DONE t) + 1) % 2 ^ 32 ∧ (completionBytes e).length = 32 ∧
      (entInt e.bytes = false → bits e.status 15 12 ≠ 3 → u.out = s.out ++ [.hostWrite ((s.tray t).cq + 32 * (s.getW (R.HQ_T_DONE t) % 2 ^ (s.tray t).n)) (completionBytes e),
        .hostWrite ((s.tray t).idx + 4) (leBytes 4 ((s.getW (R.HQ_T_DONE t) + 1) % 2 ^ 32))] ∧ sameRegsBut [R.HQ_T_DONE t] s u)

/-- R396, R445, R190-R195: a host write through BAR2 stores exactly its enabled bytes and leaves every other byte; a read returns the bytes
stored and leaves every byte; both while BAR2 is open and nothing refuses or holds the access. A BAR2 that is not open ends a read with
Completer Abort and drops a write. Through the sideboard cache too, a read returns what every requester sees and a write gives its enabled bytes their
new values (R196, R213). A poisoned write is dropped and logged as an uncorrectable event 0x1D with its address; no byte changes. -/
def Obligations.Bar2ReadWrite : Prop :=
  ∀ (s : State) (a : Nat) (bytes : List Byte) (en : List Bool) (n : Nat), s.up = true →
    (s.bar2Open = true → clearWay s ⟨.master 0x19, 0x19, true, a, bytes.length, some bytes, en, none⟩ →
      completes (.bar2Write a bytes en) s fun t =>
        (∀ x, t.rdByte x = if a ≤ x ∧ x < a + bytes.length ∧ en.getD (x - a) true = true then bytes.getD (x - a) 0 else s.rdByte x) ∧
        t.out = s.out ∧ t.lines = s.lines ∧ t = { s with regs := t.regs, mem := t.mem, bad := t.bad, slices := t.slices } ∧
        sameRegsBut [R.ERR_INJECT] s t) ∧
    (s.bar2Open = true → clearWay s ⟨.master 0x19, 0x19, true, a, n, none, [], none⟩ →
      completes (.bar2Read a n) s fun t =>
        t.out = s.out ++ [.bar2Data a (s.rdBytes a n)] ∧ t = { s with regs := t.regs, out := t.out, bad := t.bad, slices := t.slices } ∧ sameRegsBut [] s t) ∧
    (s.bar2Open = true → openWay s ⟨.master 0x19, 0x19, true, a, n, none, [], none⟩ → completes (.bar2Read a n) s fun t =>
      t.out.getLast? = some (.bar2Data a ((List.range n).map (fun i => s.seen (a + i))))) ∧
    (s.bar2Open = true → openWay s ⟨.master 0x19, 0x19, true, a, bytes.length, some bytes, en, none⟩ → completes (.bar2Write a bytes en) s fun t =>
      ∀ x, a ≤ x → x < a + bytes.length → t.seen x = if en.getD (x - a) true = true then bytes.getD (x - a) 0 else s.seen x) ∧
    (s.bar2Open = false → completes (.bar2Read a n) s fun t => t.out = s.out ++ [.abort (.host 0) a] ∧ sameRegsBut [] s t) ∧
    (s.bar2Open = false → completes (.bar2Write a bytes en) s fun t => untouched s t) ∧
    (completes (.poisonedWrite a) s fun t =>
      logged s t (s.entry 9 0 0x1D 1 false a 0 1) ∧ s.notesOnly t ∧ t.isSet R.ERR_FLAGS.ue_logged = true)

/-- The canonical form of device memory, which State.reset has: every access to memory keeps it, of the host and of any other master, whatever
address it names and whatever becomes of it. -/
def Obligations.MemoryStaysCanonical : Prop :=
  Memory.wf State.reset.mem ∧
  ∀ (s : State) (a n : Nat) (bytes : List Byte) (en : List Bool) (q : MemReq) (errs : List (Nat × BitVec 36)), s.up = true → Memory.wf s.mem →
    ∀ c ∈ [Instr.bar2Write a bytes en, .bar2Read a n, .memoryRead q errs, .memoryWrite q, .partialWrite q errs],
      completes c s fun t => Memory.wf t.mem

/-- R190-R199: a read of memory that nothing refuses or holds returns the bytes stored, whatever the requester; a write stores its enabled
bytes and leaves the rest; a partial write merges; what they return and leave is what every requester sees, be it in the sideboard cache or
after a correction. Of a sector with one symbol in error the corrected bytes return, the correction is flagged and
counted and the write-back queued; one with two is uncorrectable: the reader sees status 1 and no data.
The model's readings behind it: log entry 15. -/
def Obligations.MemoryReadWrite : Prop :=
  ∀ (s : State) (q : MemReq) (m : Nat), s.up = true → q.src = .master m → ccOfMid m = none → q.host = false → q.atom = none →
    (q.write = none → clearWay s q → completes (.memoryRead q []) s fun t =>
      t.out = s.out ++ [.response q.src 0 (s.rdBytes q.addr q.len)] ∧
      t = { s with regs := t.regs, out := t.out, bad := t.bad, slices := t.slices } ∧ sameRegsBut [] s t) ∧
    (∀ errs, q.write = none → openWay (s.disturb errs) q → completes (.memoryRead q errs) s fun t =>
      t.out.getLast? = some (.response q.src 0 ((List.range q.len).map (fun i => s.seen (q.addr + i))))) ∧
    (∀ bytes errs, q.write = some bytes → bytes.length = q.len → openWay (s.disturb errs) q →
      ∀ c ∈ (if errs = [] then [Instr.memoryWrite q] else []) ++ [.partialWrite q errs], completes c s fun t =>
        t.out.getLast? = some (.response q.src 0 []) ∧
        ∀ x, q.addr ≤ x → x < q.addr + q.len → t.seen x = if q.enables.getD (x - q.addr) true = true then bytes.getD (x - q.addr) 0 else s.seen x) ∧
    (∀ bytes, q.write = some bytes → bytes.length = q.len → clearWay s q → ∀ c ∈ [Instr.memoryWrite q, .partialWrite q []],
      completes c s fun t =>
        (∀ x, t.rdByte x = if q.addr ≤ x ∧ x < q.addr + q.len ∧ q.enables.getD (x - q.addr) true = true then bytes.getD (x - q.addr) 0
          else s.rdByte x) ∧
        t.out = s.out ++ [.response q.src 0 []] ∧ sameRegsBut [R.ERR_INJECT] s t) ∧
    (∀ l mask, q.write = none → q.addr % 64 = 0 → q.len = 64 → s.refusal q = none → reqInWindow q = false → s.paused = false →
      s.drawerSleeps q = false → s.cueHolds q = none → s.cached q.addr = false → s.locate q.addr = some l → l.u < 36 →
      (s.slice l.u).writeBacks.contains q.addr = false →
      (popcount 36 ((Tbl.get 0 s.bad (q.addr / 64) ||| mask).toNat) = 1 → s.getF (R.SLC_ROW.row_thresh l.u) = 0 →
        completes (.memoryRead q [(q.addr, mask)]) s fun t =>
          t.out.getLast? = some (.response q.src 0 (s.rdBytes q.addr 64)) ∧ t.isSet (R.SLC_FLAGS.ce l.u) = true ∧
          t.getF (R.SLC_CE_CNT.corrected l.u) = satAdd (2 ^ 32 - 1) (s.getF (R.SLC_CE_CNT.corrected l.u)) 1 ∧
          (t.slice l.u).writeBacks.contains q.addr = true ∧ t.mem = s.mem) ∧
      (popcount 36 ((Tbl.get 0 s.bad (q.addr / 64) ||| mask).toNat) = 2 →
        completes (.memoryRead q [(q.addr, mask)]) s fun t =>
          t.out.getLast? = some (.response q.src 1 []) ∧ t.isSet (R.SLC_FLAGS.ue l.u) = true ∧ t.mem = s.mem))

/-- R215, R397, Table 7-7: an atomic on a sideboard address returns the old value and leaves the new one, whether the cache holds the sector or
brings it in, the same for the host's AtomicOps; the values are those of its row of the table. -/
def Obligations.AtomicsReturnOld : Prop :=
  ∀ (s : State) (q : AtomReq) (c : Instr) (op : Nat) (new : Nat → Nat), s.up = true →
    (q.size = 4 ∨ q.size = 8) → s.atomOk (atomReq op q) op = true → s.refusal (atomReq op q) = none →
    let held := s.cached (q.addr / 64 * 64) = true ∧ s.holdsSector q.addr = true
    held ∨ openWay s (atomReq op q) →
    let n := q.size
    let v := q.v % 2 ^ (8 * n)
    let cmp := q.cmp % 2 ^ (8 * n)
    let old := leNat ((List.range n).map (fun i => s.seen (q.addr + i)))
    let f32 := fun (g : Word32 → Word32 → Word32) (x : Nat) => (g (BitVec.ofNat 32 x) (BitVec.ofNat 32 v)).toNat
    let after := fun (t : State) =>
      leNat ((List.range n).map (fun i => t.seen (q.addr + i))) = new old % 2 ^ (8 * n) ∧ (held → t.mem = s.mem) ∧
      (∀ x, x / 512 = q.addr / 512 → s.sectorErr (x / 64 * 64) ≠ 3 → ¬ (q.addr ≤ x ∧ x < q.addr + n) → t.seen x = s.seen x)
    (∀ m, q.src = .master m → ccOfMid m = none → ccOfMid q.mid = none → q.host = false →
      (c, op, new) ∈ ([(.atomicAdd q, 0, fun x => x + v), (.atomicFadd q, 1, f32 Num.addW),
        (.atomicSmax q, 2, fun x => if signed (8 * n) x < signed (8 * n) v then v else x),
        (.atomicSmin q, 3, fun x => if signed (8 * n) v < signed (8 * n) x then v else x),
        (.atomicUmax q, 4, fun x => if x < v then v else x), (.atomicUmin q, 5, fun x => if v < x then v else x),
        (.atomicFmax q, 6, f32 Num.maxW), (.atomicFmin q, 7, f32 Num.minW), (.atomicSwap q, 8, fun _ => v),
        (.atomicCas q, 9, fun x => if x = cmp then v else x)] : List (Instr × Nat × (Nat → Nat))) →
      completes c s fun t => after t ∧
        t.out.getLast? = some (.response q.src 0 ((List.range n).map (fun i => s.seen (q.addr + i))))) ∧
    (q.src = .master 0x19 → q.mid = 0x19 → q.host = true → s.bar2Open = true →
      (c, op, new) ∈ ([(.fetchadd q.addr n q.v, 0, fun x => x + v), (.swapAtomicop q.addr n q.v, 8, fun _ => v),
        (.casAtomicop q.addr n q.cmp q.v, 9, fun x => if x = cmp then v else x)] : List (Instr × Nat × (Nat → Nat))) →
      completes c s fun t => after t ∧
        t.out.getLast? = some (.bar2Data q.addr ((List.range n).map (fun i => s.seen (q.addr + i)))))

/-! ### The error log, interrupts, upkeep of the stacked memory (chapters 07, 17) -/

/-- R466, R467, R473, Table 17-12: a plinth with a path again delivers what it held and reports what it dropped; a read of word 0 latches
the slot's entry for its reader; ERR_INJECT takes its fields and arms on a legal symbol, kind and address; a newly enabled cause whose bit
reads 1 sends its message, or sets its pending bit where the vector is masked.
The model's readings behind it: log entries 49 and 98. -/
def Obligations.ErrorLogAndEnables : Prop :=
  ∀ (s : State) (m : Master) (c slot v : Nat), s.up = true →
    (c < 4 → s.pathTo0 c = true → completes (.logPathReturn c) s fun t =>
      Tbl.get [] t.log.held c = [] ∧ Tbl.get 0 t.log.dropped c = 0 ∧
      ((∀ e ∈ Tbl.get [] s.log.held c, e.cls = 1 ∨ e.cls = 2) → t.getF R.ERR_SEQ.seq = (s.getF R.ERR_SEQ.seq + (Tbl.get [] s.log.held c).length) % 2 ^ 32) ∧
      (Tbl.get 0 s.log.dropped c ≠ 0 → t.isSet R.ERR_FLAGS.queue_drop = true) ∧ s.notesOnly t) ∧
    (slot < 512 → (∀ f, m = .host f → f = 0) → completes (.logWord0Read m slot) s fun t =>
      t.out = s.out ++ [.readData m (0x510000 + 32 * slot) ((Tbl.get LogEntry.zero s.log.ring slot).word 0)] ∧
      (∀ k, Tbl.get LogEntry.zero t.latch.log k =
        if k = m.key then Tbl.get LogEntry.zero s.log.ring slot else Tbl.get LogEntry.zero s.latch.log k) ∧
      t = { s with regs := t.regs, latch := t.latch, out := t.out } ∧ sameRegsBut [] s t) ∧
    (completes (.errInjectArm m v) s fun t =>
      t.getF R.ERR_INJECT.symbol = bits v 9 4 ∧ t.getF R.ERR_INJECT.kind = bits v 3 2 ∧
      (t.getF R.ERR_INJECT.armed = if bit v 0 = true ∧ bits v 9 4 ≤ 35 ∧ bits v 3 2 ≤ 1 ∧
          addrSlice (s.getW R.ERR_INJECT_ADDR_LO + s.getW R.ERR_INJECT_ADDR_HI % 128 * 2 ^ 32) ≤ 8
        then 1 else s.getF R.ERR_INJECT.armed) ∧
      s.notesOnly t ∧ sameRegsButNotes [R.ERR_INJECT] s t) ∧
    (completes (.intEnableWrite v) s fun t =>
      t.getF R.GLB_INT_ENABLE.enable = v % 2 ^ 18 ∧ s.notesOnly t ∧ sameRegsBut [R.GLB_INT_ENABLE] s t ∧
      ((∀ i, s.msixMasked 0 i = false) → t.pba = s.pba ∧ t.out = s.out ++ ((List.range 18).filter (fun i => bit v i &&
        !s.getBit R.GLB_INT_ENABLE.enable i && s.getBit R.GLB_INT_STATUS.cause i)).map (fun i => .msix 0 i)) ∧
      (∀ i < 18, bit v i = true → s.getBit R.GLB_INT_ENABLE.enable i = false → s.getBit R.GLB_INT_STATUS.cause i = true →
        s.msixMasked 0 i = true → Tbl.get false t.pba (msixKey 0 i 0) = true))

/-- R198, R200, R202, R206, R207: the queued write-back of a corrected sector clears its error; a patrol burst reads its eight sectors and goes on;
refreshes fall due, eight at most, and are served; a declared row moves to a spare row, or stays in service and is flagged where none is left.
No byte of memory changes. -/
def Obligations.MemoryUpkeep : Prop :=
  ∀ (s : State) (u bank row ch : Nat), s.up = true → s.drawersUp u = true → bank < 256 → row < 4096 →
    (∀ a rest l, (s.slice u).writeBacks = a :: rest → s.locate a = some l → s.bankKept l.u (locBank l) = false →
      completes (.correctedWriteBack u) s fun t =>
        (∀ k, Tbl.get 0 t.bad k = if k = a / 64 then 0 else Tbl.get 0 s.bad k) ∧ t.slice u = { s.slice u with writeBacks := rest } ∧
        t = { s with regs := t.regs, bad := t.bad, slices := t.slices } ∧ sameRegsBut [] s t) ∧
    (let n := Tbl.get 0 (s.slice u).scrub ch
     (working (s.slice u)).contains ch = true → s.bankKept u (ch * 32 + bankOf (n % 2 ^ 21 * 512)) = false →
      (∀ errs, completes (.scrubBurst u ch errs) s fun t => Tbl.get 0 (t.slice u).scrub ch = n + 1 ∧ t.mem = s.mem) ∧
      ((∀ i < 8, let x := s.addrAt u ch (n % 2 ^ 21 * 512 + 64 * i) / 64 * 64
        s.sectorErr x = 0 ∧ (s.locate x).elim true (fun l => (s.slice l.u).writeBacks.isEmpty) = true) →
      completes (.scrubBurst u ch []) s fun t =>
        t.slice u = { s.slice u with scrub := Tbl.set 0 (s.slice u).scrub ch (n + 1) } ∧
        t = { s with regs := t.regs, slices := t.slices } ∧ sameRegsBut [R.SLC_SCRUB u] s t)) ∧
    (completes (.refreshDue u bank) s fun t =>
      Tbl.get 0 (t.slice u).owed bank = min 8 (Tbl.get 0 (s.slice u).owed bank + 1) ∧
      t.getF (R.SLC_BANDS.owed_max u) = max (min 8 (Tbl.get 0 (s.slice u).owed bank + 1)) (s.getF (R.SLC_BANDS.owed_max u)) ∧
      t = { s with regs := t.regs, slices := t.slices } ∧ sameRegsBut [R.SLC_BANDS u] s t) ∧
    (s.bankKept u bank = false → completes (.refresh u bank) s fun t =>
      Tbl.get 0 (t.slice u).owed bank = Tbl.get 0 (s.slice u).owed bank - 1 ∧
      t = { s with regs := t.regs, slices := t.slices } ∧ sameRegsBut [] s t) ∧
    ((s.slice u).badRows.contains (bank * 4096 + row) = true → s.bankKept u bank = false → s.sparesLeft u bank ≠ 0 →
      completes (.rowRemap u bank row) s fun t =>
        (t.slice u).badRows = (s.slice u).badRows.filter (· != bank * 4096 + row) ∧
        (t.slice u).remapped = (s.slice u).remapped ++ [bank * 4096 + row] ∧ t.sparesLeft u bank = s.sparesLeft u bank - 1 ∧ t.mem = s.mem) ∧
    ((s.slice u).badRows.contains (bank * 4096 + row) = true → s.bankKept u bank = false → s.sparesLeft u bank = 0 →
      completes (.rowRemap u bank row) s fun t =>
        (t.slice u).badRows = (s.slice u).badRows.filter (· != bank * 4096 + row) ∧
        t.isSet (R.SLC_FLAGS.spare_rows_out u) = true ∧ t.mem = s.mem ∧ t.bad = s.bad)

/-- R208-R212, R219: firmware, a count over the threshold and a failed retraining retire a channel's path: it moves to the spare path while that is
free and is cut off otherwise. A moved channel's sectors are rewritten; a cut leaves a slice of 7 channels degraded, of fewer failed. A margin
test runs only on a channel without traffic. No byte of memory changes. -/
def Obligations.ChannelsOutOfService : Prop :=
  ∀ (s : State) (u v ch : Nat), s.up = true → s.drawersUp u = true → ch < 8 →
    (∀ c cause, (c, cause) ∈ [(Instr.channelErrorThreshold u ch, 0), (.channelRetrainFail u ch, 1), (.channelRetire u v, 2)] →
      (cause = 0 → s.getF (R.SLC_CH_CTRL.ce_thresh u) ≠ 0 ∧ s.getF (R.SLC_CH_CTRL.ce_thresh u) < Tbl.get 0 (s.slice u).errs ch ∧
        3 ≤ popcount 32 (Tbl.get 0 (s.slice u).errBanks ch)) →
      (cause = 2 → bit v 8 = true ∧ bits v 3 0 = ch) →
      bit (s.slice u).cut ch = false → s.sliceState u ≠ 3 → (s.slice u).toCut.any (fun p => p.1 == ch) = false →
      (s.slice u).toSpare.any (fun p => p.1 == ch) = false →
      completes c s fun t =>
        t.isSet (R.SLC_FLAGS.channel_retired u) = true ∧ t.getBit (R.SLC_STATUS.ch_working u) (physChan (s.slice u) ch) = false ∧
        ((t.slice u).toSpare, (t.slice u).toCut) = (if s.spareFree u = true then (some (ch, cause), (s.slice u).toCut)
          else ((s.slice u).toSpare, (s.slice u).toCut ++ [(ch, cause)])) ∧
        t.mem = s.mem ∧ t.bad = s.bad) ∧
    (∀ cause, (s.slice u).toSpare = some (ch, cause) → s.chanEngaged u ch = false → s.sliceState u ≠ 3 → completes (.channelToSpare u) s fun t =>
      t.slice u = { s.slice u with map := (s.slice u).map.set ch (s.slice u).spare, toSpare := none, rewrite := some ch } ∧
      t.getF (R.SLC_STATUS.spare_for u) = ch ∧ t.sliceState u = 1 ∧ t.getF (R.SLC_MIGRATE.sectors_left u) = 2 ^ 24 ∧ t.mem = s.mem) ∧
    ((s.slice u).rewrite = some ch → s.chanEngaged u ch = false → completes (.rewritePassEnd u) s fun t =>
      (t.slice u).rewrite = none ∧ t.getF (R.SLC_MIGRATE.sectors_left u) = 0 ∧ t.mem = s.mem ∧
      t.sliceState u = (if s.sliceState u = 1 then 0 else s.sliceState u) ∧
      (∀ a l, a % 64 = 0 → s.locate a = some l → l.u = u → l.ch = ch → s.sectorErr a = 1 → Tbl.get 0 t.bad (a / 64) = 0)) ∧
    (∀ cause rest, (s.slice u).toCut = (ch, cause) :: rest → (s.pup u).cue = none → s.sliceState u ≠ 3 → completes (.channelCutOff u) s fun t =>
      bit (t.slice u).cut ch = true ∧ (t.slice u).toCut = rest ∧ (t.pup u).lost = true ∧
      ((s.pup u).run = none ∨ (s.pup u).held = [] → t.mem = s.mem) ∧
      t.sliceState u = sliceStateOf (working (t.slice u)).length) ∧
    (bit v 4 = true → bits v 3 0 ≤ 8 → s.isSet (R.SLC_STATUS.offline u) = true → (s.slice u).margin = none →
      completes (.marginTestStart u v) s fun t =>
        (t.slice u).margin = some (bits v 3 0) ∧ t.getW (R.SLC_MARGIN_RESULT u) = 0 ∧ t.mem = s.mem) ∧
    (bit v 4 = true → (8 < bits v 3 0 ∨ (s.slice u).margin.isSome = true) → completes (.marginTestStart u v) s fun t =>
        t.slice u = s.slice u ∧ t.isSet (R.SLC_MARGIN_RESULT.refused u) = true ∧ t.mem = s.mem) ∧
    (∀ errors, (s.slice u).margin.isSome = true → completes (.marginTestEnd u errors) s fun t =>
      (t.slice u).margin = none ∧ t.getF (R.SLC_MARGIN_RESULT.errors u) = min errors 0x3FFFFFFF ∧ t.isSet (R.SLC_MARGIN_RESULT.done u) = true ∧
      sameRegsBut [R.SLC_MARGIN_RESULT u] s t)

/-- R67-R70, R216-R218: an exact reduction slot takes an FP32 contribution as the exact multiple of 2^-149 it is, a fixed one under its window, and a
write at +0x08 clears all but its configuration; every contribution is counted. A read returns the slot's 64 bytes from its offset on. A
slot that is not enabled serves only reads of its configuration word: the other accesses are refused. -/
def Obligations.ReductionSlots : Prop :=
  ∀ (s : State) (q : MemReq) (m : Nat), s.up = true → q.src = .master m → ccOfMid m = none → q.host = false → q.atom = none →
    s.refusal q = none →
    let k := slotKey (addrChest q.addr) ((addrOff q.addr - 0x1FFFC0000) / 64)
    let w := s.slot k
    let b := q.write.getD []
    let others := fun (t : State) => (∀ j, j ≠ k → t.slot j = s.slot j) ∧ t = { s with regs := t.regs, slots := t.slots, out := t.out } ∧
      sameRegsBut [] s t ∧ t.out = s.out ++ [.response q.src 0 []]
    (slotForm q = some 0 → w.enabled = true → completes (.slotFp32Contribution q) s fun t => others t ∧
      (t.slot k).counter = w.counter + 1 ∧
      (∀ n x e, Num.val (BitVec.ofNat 32 (fieldAt b 0 4)) = .fin n x e →
        (t.slot k).value = w.value + BitVec.ofInt 320 (Num.alignTo (-149) n x e) ∧ (t.slot k).nan = w.nan) ∧
      (Num.val (BitVec.ofNat 32 (fieldAt b 0 4)) = .nan → (t.slot k).nan = true ∧ (t.slot k).value = w.value)) ∧
    (slotForm q = some 2 → w.enabled = true → w.fixed = true → completes (.slotFixedContribution q) s fun t => others t ∧
      (t.slot k).counter = w.counter + 1 ∧
      (t.slot k).value = w.value + BitVec.ofInt 320 ((BitVec.ofNat 64 (fieldAt b 0 8)).toInt * (2 ^ (signed 8 w.c + 105).toNat : Nat))) ∧
    (slotForm q = some 1 → w.enabled = true → completes (.slotZero q) s fun t => others t ∧
      t.slot k = { Slot.zero with c := w.c, fixed := w.fixed, enabled := true }) ∧
    ((slotForm q = some 3 ∨ (slotForm q = some 4 ∧ w.enabled = true)) → completes (.slotRead q) s fun t =>
      t.out = s.out ++ [.response q.src 0 (((slotBytes w).drop (q.addr % 64)).take q.len)] ∧
      t = { s with regs := t.regs, out := t.out } ∧ sameRegsBut [] s t) ∧
    (∀ c f, (c, f) ∈ [(Instr.slotFp32Contribution q, 0), (.slotZero q, 1), (.slotFixedContribution q, 2), (.slotRead q, 4)] →
      slotForm q = some f → w.enabled = false → completes c s fun t =>
        t.slots = s.slots ∧ t.out.getLast? = some (.response q.src 1 []))

/-! ### The matrix array (chapter 03) -/

/-- R74-R93: the tile that fills takes one row of elements and scales into the registers of its cells; a slot issues to the flight with its rows' pass results, or counts what it waits
for; the oldest flight's rows are added to the half that holds their block; blocks move between the halves and the sum area, and a block whose last
pass is complete drains to its epilogue as FP32 (a finished value row after its finish, R149), or to the fixed conversion, triples or the owner of a
split sum, and leaves its half. MX scales in memory are read first (R243, R493: their sectors neither held nor failed).
The model's readings behind it: log entries 28, 30, 104 and 106. -/
def Obligations.ArrayFillsAndSlots : Prop :=
  ∀ (s : State) (u i : Nat), s.up = true → u < 36 →
    let t0 := s.core u
    let b := t0.sub i
    (∀ k p, (subTiles t0 i)[b.fillPos]? = some (k, p) → subGranted t0 i = true → b.filled < subK (t0.op k).desc.mode →
      (b.pos = b.fillPos ∨ b.fillPos < b.pos ∨ (b.pos + 1 = b.fillPos ∧ b.streaming = true)) →
      s.unitHere u (t0.op k).desc.w (wUnit (t0.op k) i p) = true → s.landedAll u (fillRanges (t0.op k) p b.filled) = true →
      let tr := s.touchScales u (t0.op k).desc.fmtW (t0.op k).desc.w (fillScales (t0.op k) p b.filled)
      tr.2 = 0 → completes (.arrFillRow u i) s fun t =>
        (t.core u).sub i = { b with filled := b.filled + 1 } ∧
        (∀ n < subN (t0.op k).desc, let e := tr.1.wElem u (t0.op k) i p b.filled n
          cellElem (t.core u).back (t0.op k).desc i b.filled n = (e.1 % 2 ^ (if isPaired (t0.op k).desc.fmtW then 32 else 16), e.2 % 2 ^ 8)) ∧
        (t.core u).front = t0.front ∧ (Num.isMx (t0.op k).desc.fmtW = false → t.mem = s.mem)) ∧
    (∀ k p, (subTiles t0 i)[b.pos]? = some (k, p) → subGranted t0 i = true →
      let o := t0.op k
      let n := min (pairPacking o.desc.fmtX o.desc.fmtW) (rowsOf o b.block - b.row)
      (∀ w, s.slotWait u i k p = some w → completes (.arrSlotIssue u i) s fun t =>
        t.getF (waitReg u w) = satAdd (2 ^ 32 - 1) (s.getF (waitReg u w)) 1 ∧ t = { s with regs := t.regs } ∧
        sameRegsBut [(waitReg u w).off] s t) ∧
      (s.slotWait u i k p = none → (s.touchScales u o.desc.fmtX o.desc.x (rowScales o p b.block (slotRows o b))).2 = 0 →
        completes (.arrSlotIssue u i) s fun t =>
        Tbl.get 0 (t.core u).issued i = Tbl.get 0 t0.issued i + slotCost o.desc.fmtX ∧ (Num.isMx o.desc.fmtX = false → t.mem = s.mem) ∧
        ∃ parts, ((t.core u).sub i).flight = b.flight ++ [⟨k, p.head, p.nt, p.kt, b.block, b.row, parts⟩] ∧ parts.length = n ∧
          (Num.isMx o.desc.fmtX = false → b.streaming = true → (halfOf b ⟨k, p.head, p.nt, b.block⟩).isSome = true →
            parts = (List.range n).map (fun j => s.rowPass u o i p b.block (b.row + j) ++ s.rowCorr u o i p b.block (b.row + j))))) ∧
    (∀ f rest h, b.flight = f :: rest → halfOf b ⟨f.op, f.head, f.nt, f.block⟩ = some h →
      let o := t0.op f.op
      completes (.arrSlotComplete u i) s fun t =>
        ((t.core u).sub i).flight = rest ∧
        (((t.core u).sub i).ready = b.ready ++ (if rowsOf o f.block ≤ f.first + f.parts.length ∧ f.kt + 1 = kTiles o.desc o.shape
          then [⟨f.op, f.head, f.nt, f.block⟩] else [])) ∧
        (∀ j < f.parts.length, ∀ n < subN o.desc,
          Tbl.get Num.Fixed.zero (t.core u).acc (accKey o.desc i h (f.first + j) n) =
            accumulate o.desc (Tbl.get Num.Fixed.zero t0.acc (accKey o.desc i h (f.first + j) n))
              ((f.parts.getD j []).getD n Num.Fixed.zero) ((((f.parts.getD j []).getD (subN o.desc) Num.Fixed.zero).q).setWidth 32)) ∧
        t.mem = s.mem ∧ (isSplit o.desc = false → (t.core u).tile = t0.tile)) ∧
    (∀ h id, outHalf t0 i = some (h, id) → completes (.blockRotation u i) s fun t =>
        ((wantedBlocks t0 i).all (fun x => !b.out.contains x && x != id) = true →
          (t.core u).sub i = { setHalf b h none with out := b.out ++ [id] }) ∧
        (∀ r < rowsOf (t0.op id.op) id.block, ∀ n < subN (t0.op id.op).desc,
          tileBytes (t.core u) (sumOff (t0.op id.op) i id.block r n) 8 =
            leBytes 8 (Tbl.get Num.Fixed.zero t0.acc (accKey (t0.op id.op).desc i h r n)).q.toNat) ∧
        t = { s with regs := t.regs, cores := t.cores } ∧ sameRegsBut [] s t) ∧
    (∀ h id, outHalf t0 i = none → inBlock t0 i = some id → freeHalf b = some h → rowsFree t0 i h 0 (rowsOf (t0.op id.op) id.block) = true →
      completes (.blockRotation u i) s fun t =>
        (t.core u).sub i = { setHalf b h (some id) with out := b.out.filter (· != id) } ∧
        (∀ r < rowsOf (t0.op id.op) id.block, ∀ n < subN (t0.op id.op).desc,
          (Tbl.get Num.Fixed.zero (t.core u).acc (accKey (t0.op id.op).desc i h r n)).q =
            BitVec.ofNat 64 (leNat (tileBytes t0 (sumOff (t0.op id.op) i id.block r n) 8))) ∧
        t = { s with regs := t.regs, cores := t.cores } ∧ sameRegsBut [] s t) ∧
    (∀ id rest, b.ready = id :: rest →
      let o := t0.op id.op
      let own := match halfOf b id with
        | some h => (List.range (rowsOf o id.block)).map (fun r => accRow t0 o.desc i h r)
        | none => (List.range (rowsOf o id.block)).map (fun _ => List.replicate (subN o.desc) Num.Fixed.zero)
      let sums := if isSplit o.desc then s.sumParts u o id own else own
      (isSplit o.desc = true → s.ownsSum u o.desc = true → (partsNeeded o.desc).all (fun j => s.arrived u (partTile o id j)) = true) →
      (isSplit o.desc = false ∨ s.ownsSum u o.desc = true → ((s.drainFlags u i id.op o.desc sums).drainTo u i o id
        (sums.map (fun r => r.map (fun f => (drainEntry o.desc f).1)))).2 = false) →
      completes (.drain u i) s fun t =>
        (t.core u).sub i = freeBlock b id ((isSplit o.desc == false || s.ownsSum u o.desc) && s.toEpilogue u o.desc) ∨ (t.core u).ops = []) ∧
    (∀ id rest h, b.ready = id :: rest → isSplit (t0.op id.op).desc = false →
      ((t0.op id.op).desc.kind = 3 → (t0.op id.op).desc.tripleOut = false) →
      (chainPtr (t0.op id.op).desc.epiChain).isSome = true → halfOf b id = some h →
      completes (.drain u i) s fun t =>
        let rows := (List.range (rowsOf (t0.op id.op) id.block)).map (fun r =>
          (accRow t0 (t0.op id.op).desc i h r).map (fun f => (drainEntry (t0.op id.op).desc f).1))
        (t.core u).sub i = freeBlock b id true ∧
        (t.core u).epi = t0.epi ++ [⟨id, i, stageRows (t0.op id.op).desc
          (if (t0.op id.op).desc.kind = 3 then (s.finishRows u i id.op (t0.op id.op).desc id.block rows).2 else rows)⟩] ∧
        t.mem = s.mem ∧ (t.core u).tile = t0.tile)

/-- R96, R99-R101, R557: hold and duty of a core's array, the end of a duty window, and writes at landing tiles: one that fits its declared tile is
stored, its transfer's last write sets the arrival flag; a transfer that finds the flag set is dropped with status 3 and flagged; one at a tile the
act does not declare, or beyond its end, is refused with status 1; one at a core inside a reset is absorbed with status 4 (R449). A refused or
dropped write changes no byte.
The model's readings behind it: log entries 29 and 109. -/
def Obligations.ArrayControlAndLanding : Prop :=
  ∀ (s : State) (u v : Nat) (hold : Bool) (w : LandWrite), s.up = true → u < 36 →
    (completes (.arrHold u hold) s fun t =>
      t.isSet (R.COR_ARR_CTRL.hold u) = hold ∧ t = { s with regs := t.regs } ∧ sameRegsBut [R.COR_ARR_CTRL u, R.COR_ARR_STATUS u] s t) ∧
    (completes (.arrDuty u v) s fun t =>
      t.getF (R.COR_ARR_DUTY.duty u) = min (v % 128) 64 ∧ t = { s with regs := t.regs } ∧
      (s.steady = false ∨ s.runsEpochs = true → t.getF (R.COR_ARR_DUTY.duty_active u) = s.getF (R.COR_ARR_DUTY.duty_active u)) ∧
      sameRegsBut [R.COR_ARR_DUTY u, R.COR_ARR_STATUS u] s t) ∧
    (completes (.dutyWindow u) s fun t =>
      (∀ i < 16, Tbl.get 0 (t.core u).issued i = Tbl.get 0 (s.core u).issued i - s.getF (R.COR_ARR_DUTY.duty_active u)) ∧
      t.core u = { s.core u with issued := (t.core u).issued } ∧ (∀ k, k ≠ u → t.core k = s.core k) ∧
      (s.steady = false → (s.core u).govDuty ≤ 64 →
        t.getF (R.COR_ARR_DUTY.duty_active u) = min (s.getF (R.COR_ARR_DUTY.duty u)) (s.core u).govDuty) ∧
      (s.steady = true → t.getF (R.COR_ARR_DUTY.duty_active u) = s.getF (R.COR_ARR_DUTY.duty_active u)) ∧
      sameRegsBut [R.COR_ARR_DUTY u, R.COR_ARR_STATUS u] s t) ∧
    (∀ m, w.src = .master m → ccOfMid m = none → w.core < 36 → w.idx < 4096 →
      let answered := fun (st : Nat) (t : State) => t.out = s.out ++ (if w.posted = true then [] else [.response w.src st []])
      (∀ cfg, s.coreInReset w.core = false → s.landTile w.core w.idx = some cfg → w.off + w.bytes.length ≤ cfg.len →
        (w.first = true → s.arrived w.core w.idx = false → completes (.landingWrite w) s fun t =>
          (∀ x, tileByte (t.core w.core) x = if cfg.off + w.off ≤ x ∧ x < cfg.off + w.off + w.bytes.length
            then w.bytes.getD (x - (cfg.off + w.off)) 0 else tileByte (s.core w.core) x) ∧
          t.arrived w.core w.idx = w.last ∧ answered 0 t ∧ sameRegsBut [R.COR_ARR_ARRIVE w.core (w.idx / 32)] s t) ∧
        (w.first = false → xferIn (s.core w.core).dropXfer w = false → completes (.landingWrite w) s fun t =>
          (∀ x, tileByte (t.core w.core) x = if cfg.off + w.off ≤ x ∧ x < cfg.off + w.off + w.bytes.length
            then w.bytes.getD (x - (cfg.off + w.off)) 0 else tileByte (s.core w.core) x) ∧
          t.arrived w.core w.idx = (w.last || s.arrived w.core w.idx) ∧ answered 0 t) ∧
        (w.first = true → s.arrived w.core w.idx = true → completes (.landingWrite w) s fun t =>
          (t.core w.core).tile = (s.core w.core).tile ∧ t.isSet (R.COR_ARR_FLAGS.landing_overrun w.core) = true ∧
          t.getF (R.COR_ARR_OVERRUN.landing_index w.core) = w.idx ∧
          (w.posted = false → t.out.getLast? = some (.response w.src 3 [])))) ∧
      (s.coreInReset w.core = true → completes (.landingWrite w) s fun t =>
        (t.core w.core).tile = (s.core w.core).tile ∧ (w.posted = false → t.out.getLast? = some (.response w.src 4 []))) ∧
      (s.coreInReset w.core = false → (∀ cfg, s.landTile w.core w.idx = some cfg → cfg.len < w.off + w.bytes.length) →
        completes (.landingWrite w) s fun t =>
          (t.core w.core).tile = (s.core w.core).tile ∧ (w.posted = false → t.out.getLast? = some (.response w.src 1 []))))

/-! ### The vector engine (chapter 04) -/

/-- R112-R123, R154: an arithmetic, conversion-free move, select or shuffle instruction that is next gives every active lane of its destination the result of its
table row, staged; an inactive lane keeps its value, or becomes +0 with mz; no other register changes.
The last instruction of a segment issues in the same way; the next iteration, the next segment or the end follows it (R113).
The model's readings behind it: log entry 23. -/
def Obligations.VectorLaneInstructions : Prop :=
  ∀ (s : State) (u : Nat) (f : VecF) (c : Ctx), s.up = true → u < 36 →
    let t0 := s.core u
    let h := hdrAt t0 c.chain
    let d := (t0.op c.id.op).desc
    let on := fun l => f.all || t0.pbit (h.pbase + f.pg) l
    let a := t0.lane (h.vbase + f.va)
    let bb := fun l => if f.bs then Tbl.get 0 t0.s (h.sbase + f.vb % 32) else t0.lane (h.vbase + f.vb) l
    let cc := t0.lane (h.vbase + f.vc)
    let w := segW d c.kind
    (vecReady s u 0x00 f c → completes (.vNop u f) s fun t => vecIssued s t u c ∧ (t.core u).v = t0.v ∧ (t.core u).p = t0.p ∧ (t.core u).s = t0.s) ∧
    (∀ i op g, (i, op, g) ∈ ([
        (.vAdd u f, 0x01, fun l => stage d (Num.addW (a l) (bb l))), (.vSub u f, 0x02, fun l => stage d (Num.subW (a l) (bb l))),
        (.vMul u f, 0x03, fun l => stage d (Num.mulW (a l) (bb l))), (.vFma u f, 0x04, fun l => stage d (Num.fmaW (a l) (bb l) (cc l))),
        (.vFms u f, 0x05, fun l => stage d (Num.fmsW (a l) (bb l) (cc l))), (.vMax u f, 0x06, fun l => stage d (Num.maxW (a l) (bb l))),
        (.vMin u f, 0x07, fun l => stage d (Num.minW (a l) (bb l))),
        (.vUna u f, 0x08, fun l => stage d (if f.fn = 0 then Num.canon (a l) else if f.fn = 1 then Num.absW (a l) else Num.negW (a l))),
        (.vSel u f, 0x0A, fun l => stage d (Num.canon (if t0.pbit (h.pbase + f.vc % 16) l then a l else bb l))),
        (.vExp2 u f, 0x0C, fun l => stage d (Num.exp2W (a l))), (.vLog2 u f, 0x0D, fun l => stage d (Num.log2W (a l))),
        (.vRcp u f, 0x0E, fun l => stage d (Num.rcpW (a l))), (.vRsqrt u f, 0x0F, fun l => stage d (Num.rsqrtW (a l))),
        (.vShuf u f, 0x10, fun l => a (l / w * w + (if f.fn = 0 then (l % w + f.imm) % w else if f.fn = 1 then w - 1 - l % w
          else if f.fn = 2 then f.imm % w else (bb l).toNat % w)))] : List (Instr × Nat × (Nat → Word32))) →
      vecReady s u op f c → completes i s fun t => vecIssued s t u c ∧
        (∀ l < 512, (t.core u).lane (h.vbase + f.vd) l = if on l then g l else if f.mz then 0 else t0.lane (h.vbase + f.vd) l) ∧
        (∀ r, r ≠ h.vbase + f.vd → Tbl.get [] (t.core u).v r = Tbl.get [] t0.v r) ∧ (t.core u).p = t0.p ∧ (t.core u).s = t0.s) ∧
    (∀ i op, (i, op) ∈ ([(.vNop u f, 0x00), (.vAdd u f, 0x01), (.vSub u f, 0x02), (.vMul u f, 0x03), (.vFma u f, 0x04), (.vFms u f, 0x05),
        (.vMax u f, 0x06), (.vMin u f, 0x07), (.vUna u f, 0x08), (.vCmp u f, 0x09), (.vSel u f, 0x0A), (.vCvt u f, 0x0B), (.vExp2 u f, 0x0C),
        (.vLog2 u f, 0x0D), (.vRcp u f, 0x0E), (.vRsqrt u f, 0x0F), (.vShuf u f, 0x10), (.vRred u f, 0x11), (.vStrd u f, 0x12),
        (.vStwr u f, 0x13), (.vPgen u f, 0x14), (.vPlog u f, 0x15), (.vSop u f, 0x1A)] : List (Instr × Nat)) →
      nextCtx t0 (vecWord op f) = some c → completes i s fun t =>
        t.getPair (R.COR_VEC_ISSUE_LO u) = (s.getPair (R.COR_VEC_ISSUE_LO u) + 1) % 2 ^ 64)

/-- R121, R124-R127: compares, generated and combined predicates write the active lanes of a predicate register, a scalar operation its scalar register, a row reduction every lane of a
row's segment and, where imm[3] asks for it, the row's statistic; a statistic is read into its row's lanes and written from them. -/
def Obligations.VectorPredicatesScalarsRows : Prop :=
  ∀ (s : State) (u : Nat) (f : VecF) (c : Ctx), s.up = true → u < 36 →
    let t0 := s.core u
    let h := hdrAt t0 c.chain
    let o := t0.op c.id.op
    let d := o.desc
    let on := fun l => f.all || t0.pbit (h.pbase + f.pg) l
    let a := t0.lane (h.vbase + f.va)
    let bb := fun l => if f.bs then Tbl.get 0 t0.s (h.sbase + f.vb % 32) else t0.lane (h.vbase + f.vb) l
    let sa := Tbl.get 0 t0.s (h.sbase + f.va % 32)
    let sb := Tbl.get 0 t0.s (h.sbase + f.vb % 32)
    let j := if c.seg = 1 then c.iter * h.unroll + bits f.imm 14 13 else 0
    let w := segW d c.kind
    let onRow := fun l => on l && c.seg == 1 && decide (j * (512 / w) + l / w < c.rows)
    let predicate := fun (t : State) (act : Nat → Bool) (g : Nat → Bool) =>
      (∀ l < 512, (t.core u).pbit (h.pbase + f.vd % 16) l = if act l then g l else if f.mz then false else t0.pbit (h.pbase + f.vd % 16) l) ∧
      (∀ r, r ≠ h.pbase + f.vd % 16 → Tbl.get 0 (t.core u).p r = Tbl.get 0 t0.p r) ∧ (t.core u).v = t0.v ∧ (t.core u).s = t0.s
    (vecReady s u 0x09 f c → completes (.vCmp u f) s fun t => vecIssued s t u c ∧ predicate t on fun l =>
      let x := Num.val (a l)
      let y := Num.val (bb l)
      let un := Num.isNan x || Num.isNan y
      [Num.veq x y, !Num.veq x y, Num.lt x y, Num.lt x y || Num.veq x y, Num.lt y x, Num.lt y x || Num.veq x y, un].getD f.fn (!un)) ∧
    (vecReady s u 0x14 f c → completes (.vPgen u f) s fun t => vecIssued s t u c ∧ predicate t onRow fun l =>
      pgenLane f.fn (rowAt o c.id.head (c.first + (j * (512 / w) + l / w))).2.2 (absCol d c l) sa.toInt sb.toInt) ∧
    (vecReady s u 0x15 f c → completes (.vPlog u f) s fun t => vecIssued s t u c ∧ predicate t on fun l =>
      let x := t0.pbit (h.pbase + f.va % 16) l
      let y := t0.pbit (h.pbase + f.vb % 16) l
      [x && y, x || y, x && !y, x != y].getD f.fn (!x)) ∧
    (vecReady s u 0x1A f c → completes (.vSop u f) s fun t => vecIssued s t u c ∧
      Tbl.get 0 (t.core u).s (h.sbase + f.vd % 32) = [BitVec.ofInt 32 (signed 15 f.imm), BitVec.ofNat 32 (f.imm % 2 ^ 15 * 2 ^ 17), sa + sb,
        Num.addW sa sb, Num.mulW sa sb].getD f.fn (a 0) ∧
      (∀ r, r ≠ h.sbase + f.vd % 32 → Tbl.get 0 (t.core u).s r = Tbl.get 0 t0.s r) ∧ (t.core u).v = t0.v ∧ (t.core u).p = t0.p) ∧
    (vecReady s u 0x11 f c → completes (.vRred u f) s fun t => vecIssued s t u c ∧
      let res := fun q => stage d (reduce f.fn (Nat.log2 w) ((List.range w).map (fun n => if onRow (q * w + n) then some (a (q * w + n)) else none)))
      (w ∣ 512 → w ≠ 0 → (∀ l < 512, (t.core u).lane (h.vbase + f.vd) l =
        if onRow l then res (l / w) else if f.mz then 0 else t0.lane (h.vbase + f.vd) l)) ∧
      (bit f.imm 3 = false → (t.core u).stats = t0.stats)) ∧
    (vecReady s u 0x12 f c → completes (.vStrd u f) s fun t => vecIssued s t u c ∧
      (∀ l < 512, (t.core u).lane (h.vbase + f.vd) l =
        if onRow l then Tbl.get 0 t0.stats (statKey c.sub (j * (512 / w) + l / w) (bits f.imm 2 0))
        else if f.mz then 0 else t0.lane (h.vbase + f.vd) l) ∧ (t.core u).stats = t0.stats) ∧
    (vecReady s u 0x13 f c → completes (.vStwr u f) s fun t => vecIssued s t u c ∧ (t.core u).v = t0.v ∧
      (∀ q < 512 / w, onRow (q * w) = true →
        Tbl.get 0 (t.core u).stats (statKey c.sub (j * (512 / w) + q) (bits f.imm 2 0)) = stage d (a (q * w))))

/-- R128-R135: LD reads elements of the tile store, waiting for landing tiles that have not arrived; CVT rounds lanes to a format and back; ST writes the side output's bytes, and an output row's, in the tile store, and waits
while a cue or a pause holds a write of it; SEND puts a vector on
its way to a receive register of a core, whose arrival fills it, or waits while it is full; RECV takes it and frees the register, or waits for one. -/
def Obligations.VectorLoadsStoresMessages : Prop :=
  ∀ (s : State) (u : Nat) (f : VecF) (c : Ctx), s.up = true → u < 36 →
    let t0 := s.core u
    let h := hdrAt t0 c.chain
    let o := t0.op c.id.op
    let d := o.desc
    let on := fun l => f.all || t0.pbit (h.pbase + f.pg) l
    let a := t0.lane (h.vbase + f.va)
    let x : VX := ⟨s, u, c, o, h, f, false⟩
    let dest := fun (t : State) (g : Nat → Word32) =>
      (∀ l < 512, (t.core u).lane (h.vbase + f.vd) l = if on l then g l else if f.mz then 0 else t0.lane (h.vbase + f.vd) l)
    let src := (List.range 512).map (fun l => if on l then some (a l) else none)
    let issued := fun (t : State) => t.getPair (R.COR_VEC_ISSUE_LO u) = (s.getPair (R.COR_VEC_ISSUE_LO u) + 1) % 2 ^ 64
    (f.fn < 2 → x.ldRange.1 + x.ldRange.2 ≤ tileEnd → s.landedRange u x.ldRange.1 x.ldRange.2 = true → vecReady s u 0x16 f c →
      completes (.vLd u f) s fun t =>
        (let eb := Num.elemBits (storeFmt f.fmt)
         dest t fun l => Num.rne (Num.decodeElem (storeFmt f.fmt) (tileBits t0 x.ldRange.1 (l * eb) eb))) ∧
        (t.core u).tile = t0.tile ∧ t.mem = s.mem) ∧
    (f.fn = 2 → x.ldRange.1 + x.ldRange.2 ≤ tileEnd → s.landedRange u x.ldRange.1 x.ldRange.2 = true → vecReady s u 0x16 f c →
      completes (.vLd u f) s fun t =>
        (∀ l < 512, (t.core u).lane (h.vbase + f.vd) l =
          if on l && c.seg == 1 && rowIn d c x.vecIdx l then
            Num.rne (Num.decodeElem 0 (tileBits t0 ((Tbl.get 0 t0.s (h.sbase + f.va % 32)).toNat + 4 * (c.first + laneRow d c x.vecIdx l)) 0 32))
          else if f.mz then 0 else t0.lane (h.vbase + f.vd) l) ∧ (t.core u).tile = t0.tile ∧ t.mem = s.mem) ∧
    (s.landedRange u x.ldRange.1 x.ldRange.2 = true → nextCtx t0 (vecWord 0x16 f) = some c → completes (.vLd u f) s issued) ∧
    (s.landedRange u x.ldRange.1 x.ldRange.2 = false → nextCtx t0 (vecWord 0x16 f) = some c → completes (.vLd u f) s fun t =>
        t = { s with regs := t.regs } ∧ t.getF (R.COR_VEC_WAIT_IN.wait u) = satAdd (2 ^ 32 - 1) (s.getF (R.COR_VEC_WAIT_IN.wait u)) 1) ∧
    (vecReady s u 0x0B f c → completes (.vCvt u f) s fun t =>
      (dest t fun l => ((cvtLanes d f src).1.getD l none).getD 0) ∧
      ((cvtLanes d f src).2.1 = true → t.isSet (R.COR_VEC_FLAGS.conv_overflow u) = true) ∧
      ((cvtLanes d f src).2.2 = true → t.isSet (R.COR_VEC_FLAGS.conv_invalid u) = true) ∧ (t.core u).tile = t0.tile ∧ t.mem = s.mem) ∧
    (f.fn = 1 → c.seg ≠ 1 → Num.isMx f.fmt = false → d.strict = false → f.all = true → Num.elemBits (storeFmt f.fmt) = 32 →
      x.series (f.vb % 32) (f.vc % 32) + 2048 ≤ tileEnd → vecReady s u 0x17 f c → completes (.vSt u f) s fun t =>
        tileBytes (t.core u) (x.series (f.vb % 32) (f.vc % 32)) 2048 = (List.range 512).flatMap (fun l => leBytes 4
          (Num.conv (storeFmt f.fmt) (Num.rmOf f.rm) f.sat (unscale f.fmt d.tscaleOut (a l))).bits) ∧
        (t.core u).v = t0.v ∧ t.mem = s.mem) ∧
    (∀ q a, vecReady s u 0x17 f c → f.fn = 0 → d.kind ≠ 2 → Num.isMx f.fmt = false → q < x.segs → x.vecIdx * x.segs + q < c.rows →
      (q + 1 = x.segs ∨ c.rows ≤ x.vecIdx * x.segs + (q + 1)) →
      s.epiDest u o c.sub c.id f.fmt (x.vecIdx * x.segs + q) = .tile a → x.store.held = false →
      completes (.vSt u f) s fun t => issued t ∧
        (∀ n b, (rowBytes (segStored (stLanes d f (x.srcLanes x.inShape)) x.w q).els (Num.elemBits (storeFmt f.fmt))).getD n none = some b →
          tileByte (t.core u) (a + n) = b) ∧ (t.core u).v = t0.v) ∧
    (nextCtx t0 (vecWord 0x17 f) = some c → x.store.held = false → completes (.vSt u f) s issued) ∧
    (nextCtx t0 (vecWord 0x17 f) = some c → x.store.held = true → completes (.vSt u f) s (untouched s)) ∧
    (let k := s.coreKey (bits f.imm 14 10)
     let r := bits f.imm 2 0
     let busy := Tbl.get false (s.core k).rrFull r || (s.core k).sends.any (fun z => z.1 == r)
     nextCtx t0 (vecWord 0x18 f) = some c →
      (busy = false → completes (.vSend u f) s issued) ∧
      (busy = false → s.coreInReset k = false → vecReady s u 0x18 f c →
        completes (.vSend u f) s fun t => (t.core k).sends = (s.core k).sends ++ [(r, packVec (lanes (Tbl.get [] t0.v (h.vbase + f.va))))] ∧
          (t.core u).v = t0.v ∧ t.mem = s.mem) ∧
      (busy = true → completes (.vSend u f) s fun t =>
        t = { s with regs := t.regs } ∧ t.getF (R.COR_VEC_WAIT_SEND.wait u) = satAdd (2 ^ 32 - 1) (s.getF (R.COR_VEC_WAIT_SEND.wait u)) 1)) ∧
    (∀ r v rest, t0.sends = (r, v) :: rest → completes (.sendArrival u) s fun t =>
      (t.core u).sends = rest ∧ Tbl.get [] (t.core u).rr r = v ∧ Tbl.get false (t.core u).rrFull r = true ∧
      (∀ k, k ≠ u → t.core k = s.core k) ∧ t = { s with regs := t.regs, cores := t.cores } ∧ sameRegsBut [] s t) ∧
    (Tbl.get false t0.rrFull (bits f.imm 2 0) = true → vecReady s u 0x19 f c → completes (.vRecv u f) s fun t => vecIssued s t u c ∧
      (dest t fun l => (lanes (Tbl.get [] t0.rr (bits f.imm 2 0))).getD l 0) ∧ Tbl.get false (t.core u).rrFull (bits f.imm 2 0) = false) ∧
    (let full := Tbl.get false t0.rrFull (bits f.imm 2 0)
     nextCtx t0 (vecWord 0x19 f) = some c →
      (full = true → completes (.vRecv u f) s issued) ∧
      (full = false → completes (.vRecv u f) s fun t =>
        t = { s with regs := t.regs } ∧ t.getF (R.COR_VEC_WAIT_DEP.wait u) = satAdd (2 ^ 32 - 1) (s.getF (R.COR_VEC_WAIT_DEP.wait u)) 1))

/-! ### Operations of a core (chapters 04-06) -/

/-- R106-R117, R160: a drained block's epilogue (in the order in which blocks finished, R108), a streamed block's prologue and a block's deferred chain start with
the constant block's scalars in their registers, at the first instruction of their chain's pre segment, or of the body's first iteration where the pre segment is empty; a prologue
waits for its rows and, with a deferred input, for their vector; a deferred output without a chain goes on to the next block. -/
def Obligations.InvocationsStart : Prop :=
  ∀ (s : State) (u i ch : Nat), s.up = true → u < 36 →
    let t0 := s.core u
    let h := hdrAt t0 ch
    let scalars := fun (t : State) (d : Desc) => ∀ j ≤ h.scount,
      Tbl.get 0 (t.core u).s (h.sbase + j) = BitVec.ofNat 32 (leNat (tileBytes t0 (d.constBlock + 4 * j) 4))
    let begins := fun (kept : Option Ctx) (d : Desc) (c : Ctx) => (0 < h.preLen → kept = some c) ∧
      (h.preLen = 0 → 0 < h.bodyLen → 0 < iterCount d h c → kept = some { c with seg := 1 })
    (∀ e, t0.ctx = none → t0.defer = [] → nextEpilogue t0 = some e → chainPtr (t0.op e.id.op).desc.epiChain = some ch →
      completes (.epilogueInvocation u) s fun t =>
        begins (t.core u).ctx (t0.op e.id.op).desc
          ⟨0, ch, e.id, e.sub, 0, e.id.block * blockRows (t0.op e.id.op).desc, e.rows.length, e.rows, false, 0, 0, 0, []⟩ ∧
        scalars t (t0.op e.id.op).desc ∧
        (0 < h.preLen → (t.core u).epi = t0.epi.filter (· != e) ∧ (t.core u).order = t0.order.drop 1 ∧ t.isSet (R.COR_VEC_STATUS.busy_epi u) = true ∧
          t = { s with regs := t.regs, cores := t.cores } ∧ sameRegsBut [R.COR_VEC_STATUS u] s t)) ∧
    (∀ k p b, t0.pctx = none → nextPrologue t0 i = some (k, p, b) →
      let o := t0.op k
      let rows := List.range (rowsOf o b)
      let here := s.unitHere u o.desc.x (xUnit o i p b) && s.landedAll u (rowRanges o p b false rows)
      let vector := !o.desc.deferredIn || s.arrived u (vectorTile o p.head b)
      let tr := s.touchScales u o.desc.fmtX o.desc.x (rowScales o p b rows)
      chainPtr o.desc.proChain = some ch →
      (here = true → vector = true → tr.2 = 0 →
        completes (.prologueInvocation u i) s fun t =>
          begins (t.core u).pctx o.desc
            ⟨1, ch, ⟨k, p.head, p.nt, b⟩, i, p.kt, b * blockRows o.desc, rowsOf o b, (tr.1.proRows u o i p b).1, false, 0, 0, 0, []⟩ ∧
          scalars t o.desc ∧ t.mem = tr.1.mem ∧ (0 < h.preLen → t.isSet (R.COR_VEC_STATUS.busy_pro u) = true)) ∧
      (here = true → vector = true → tr.2 = 2 → completes (.prologueInvocation u i) s (untouched s)) ∧
      (here = false → completes (.prologueInvocation u i) s fun t =>
          t.isSet (R.COR_VEC_STATUS.wait_input u) = true ∧ t = { s with regs := t.regs } ∧
          sameRegsBut [R.COR_VEC_STATUS u, R.COR_VEC_WAIT_IN u] s t) ∧
      (here = true → vector = false → completes (.prologueInvocation u i) s fun t =>
          t.isSet (R.COR_FUS_STATUS.wait_vector u) = true ∧ t = { s with regs := t.regs } ∧
          sameRegsBut [R.COR_FUS_STATUS u, R.COR_ARR_WAIT_ARRIVE u] s t)) ∧
    (∀ e rest, t0.ctx = none → t0.defer = e :: rest → chainPtr (t0.op e.id.op).desc.defChain = some ch →
      completes (.deferredChain u) s fun t =>
        begins (t.core u).ctx (t0.op e.id.op).desc
          ⟨2, ch, e.id, e.sub, 0, e.id.block * blockRows (t0.op e.id.op).desc, rowsOf (t0.op e.id.op) e.id.block, [], false, 0, 0, 0, []⟩ ∧
        scalars t (t0.op e.id.op).desc ∧
        (0 < h.preLen → (t.core u).defer = rest ∧ t = { s with regs := t.regs, cores := t.cores } ∧ sameRegsBut [R.COR_VEC_STATUS u] s t)) ∧
    (∀ e rest, t0.ctx = none → t0.defer = e :: rest → chainPtr (t0.op e.id.op).desc.defChain = none →
      completes (.deferredChain u) s fun t => (t.core u).defer = rest)

/-- R151, R152, R164, R170-R178: a shape record is read once its tile has arrived; the next descriptors are read and start, run empty with status `nothing`, or end the work item
with result 2 where a shape record failed, 1 where a shape is over its plan, 7 where a read fails; they wait for a shape record not read; the fetch engine brings the next unit to its
landing tile and sets the tile's flag, or ends the work item with result 7; a merge writes the finished row of its sources; the finish pass ends its operation and hands over to the
next descriptor, or ends the work item with result 7. What a cue or a pause holds changes nothing yet. -/
def Obligations.OperationsStartAndEnd : Prop :=
  ∀ (s : State) (u n : Nat) (d : Desc) (w : WorkSt), s.up = true → u < 36 → (s.core u).work = some w →
    let t0 := s.core u
    (∀ bad m, startable t0 = some m → (s.opGroup u m).find? (fun k => ((s.descPeek u k).elim false (fun d => d.shapeSrc == 2)) &&
        !t0.recs.any (fun r => r.1 == k)) = some n → s.descPeek u n = some d → s.arrived u d.shapeLanding = true → completes (.shapeRecordRead u bad) s fun t =>
        t.core u = { t0 with recs := t0.recs ++ [(n, if bad then none
          else some (shapeOfBytes (s.getTile u ((s.landTile u d.shapeLanding).elim 0 (fun c => c.off)) 16)))] } ∧
        (∀ k, k ≠ u → t.core k = s.core k) ∧ t = { s with regs := t.regs, cores := t.cores } ∧ sameRegsBut [] s t) ∧
    (startable t0 = some n →
      let g := s.opGroup u n
      let r := s.readGroup u g
      let waits := g.any (fun k => (s.descPeek u k).elim false (fun d => (s.shapeNow u k d).isNone))
      let ends := fun k => completes (.operationStart u) s fun t =>
        (t.core u).work = some { w with result := k, next := none } ∧ (t.core u).ops = [] ∧ t.mem = r.1.mem
      (waits = true → completes (.operationStart u) s (untouched s)) ∧
      (waits = false → r.2.2 = 2 → completes (.operationStart u) s (untouched s)) ∧
      (waits = false → r.2.2 ≠ 2 → (g = [] ∨ r.2.2 ≠ 0) → ends 7) ∧
      (waits = false → r.2.2 = 0 → g ≠ [] →
        (∀ l, s.startKind u r.2.1 = .fault l → ends 2) ∧ (∀ l, s.startKind u r.2.1 = .over l → ends 1) ∧
        (∀ ops last, s.startKind u r.2.1 = .empty ops last → completes (.operationStart u) s fun t =>
          (t.core u).work = some { w with nothing := true, tag := last.desc.outTag, next := if last.desc.nextValid then some last.desc.next else none } ∧
          (t.core u).ops = [] ∧ t.mem = r.1.mem) ∧
        (∀ ops, s.startKind u r.2.1 = .run ops → ops.any (fun o => o.shape.k != 0 && !shapeEmpty o.shape) = true →
          completes (.operationStart u) s fun t => (t.core u).ops = ops ∧ (t.core u).work = some w ∧
            t.getF (R.COR_ARR_STATUS.sub_granted u) = 2 ^ subCount (t.core u).mode - 1 ∧ t.mem = r.1.mem ∧
            (ops.length = 1 → (t.core u).tile = t0.tile)))) ∧
    (∀ k isW pos i p cfg r, k < t0.ops.length →
      let o := t0.op k
      let x := if isW then o.desc.w else o.desc.x
      let key := k * 2 + (if isW then 1 else 0)
      let m := Tbl.get 0 t0.fetched key
      let nb := if isW then 1 else blocks o.desc o.shape
      unitAt (if isW then wCounts o.desc o.shape else xCounts o.desc o.shape) m = some (pos, i) → s.landTile u (x.tile m) = some cfg →
      x.space = 0 → s.arrived u (x.tile m) = false → x.tile m < 4096 → nb ≠ 0 →
      (if isW then tileSeq o.desc o.shape i else xTiles o.desc o.shape i)[pos / nb]? = some p →
      (if isW then wRuns o p else xRuns o p (pos % nb)) = [r] →
      clearWay s ⟨.master (coreMid u), coreMid u, false, r.1, r.2.2, none, [], none⟩ →
      completes (.fetchUnit u k isW) s fun t =>
        tileBytes (t.core u) (cfg.off + r.2.1) r.2.2 = s.rdBytes r.1 r.2.2 ∧ t.arrived u (x.tile m) = true ∧
        Tbl.get 0 (t.core u).fetched key = m + 1 ∧ t.mem = s.mem) ∧
    (∀ k isW pos i p cfg, k < t0.ops.length →
      let o := t0.op k
      let x := if isW then o.desc.w else o.desc.x
      let key := k * 2 + (if isW then 1 else 0)
      let m := Tbl.get 0 t0.fetched key
      let nb := if isW then 1 else blocks o.desc o.shape
      unitAt (if isW then wCounts o.desc o.shape else xCounts o.desc o.shape) m = some (pos, i) → s.landTile u (x.tile m) = some cfg →
      x.space = 0 → s.arrived u (x.tile m) = false → x.tile m < 4096 → nb ≠ 0 →
      (if isW then tileSeq o.desc o.shape i else xTiles o.desc o.shape i)[pos / nb]? = some p →
      let runs := if isW then wRuns o p else xRuns o p (pos % nb)
      let r := runs.foldl (fun (st : State × Nat) r => st.1.fetchRun u cfg.off st.2 r) (s, 0)
      (r.2 = 0 → completes (.fetchUnit u k isW) s fun t => t.arrived u (x.tile m) = true ∧ Tbl.get 0 (t.core u).fetched key = m + 1 ∧
        t.mem = r.1.mem ∧ (t.core u).tile = (r.1.core u).tile) ∧
      (r.2 = 1 → w.result = 0 → completes (.fetchUnit u k isW) s fun t => (t.core u).ops = [] ∧
        ∃ sticky tag, (t.core u).work = some { w with result := 7, next := none, sticky := sticky, tag := tag }) ∧
      (r.2 = 2 → completes (.fetchUnit u k isW) s (untouched s))) ∧
    (∀ q, (∀ x ∈ q.sources, s.arrived u x.1 = true) → completes (.merge u q) s fun t =>
      let g := q.sources.foldl (fun a x => let z := s.tripleAt u q.d x; mergeStep s.level4 a z.1 z.2.1 z.2.2) (Merged.start q.d)
      (∀ l < (finishRow g.m g.l g.r g.o).lanes.length, tileBytes (t.core u) (q.dest + 4 * l) 4 =
        leBytes 4 ((finishRow g.m g.l g.r g.o).lanes.getD l 0).toNat) ∧
      t.getPair (R.COR_FUS_RESCALE_LO u) = (s.getPair (R.COR_FUS_RESCALE_LO u) + g.moves) % 2 ^ 64 ∧ t.mem = s.mem ∧ t.out = s.out) ∧
    (∀ q x, x ∈ q.sources → s.arrived u x.1 = false → completes (.merge u q) s fun t =>
      t = { s with regs := t.regs } ∧ t.getF (R.COR_ARR_WAIT_ARRIVE.wait u) = satAdd (2 ^ 32 - 1) (s.getF (R.COR_ARR_WAIT_ARRIVE.wait u)) 1) ∧
    (∀ o, t0.finish = some o →
      let y := (outTiles o).foldl (fun (y : FinSt) ib => y.tile u o ib) ⟨⟨s, false, false⟩, 0, true⟩
      let held := y.x.held || (y.ok && (y.x.s.padOutput u o).held)
      (held = false → y.ok = true → completes (.finishPass u) s fun t =>
        (t.core u).finish = none ∧ t.isSet (R.COR_FUS_STATUS.finish_busy u) = false ∧
        (o.desc.y.space = 1 → Num.isMx o.desc.fmtDef = false → Num.isMx o.desc.fmtOut = false → bits o.desc.defRegion 40 39 = 1 → t.mem = s.mem) ∧
        (∃ sticky nothing, (t.core u).work =
          some ⟨w.jid, if o.desc.nextValid && w.result == 0 then some o.desc.next else none, w.result, sticky, nothing, o.desc.outTag⟩)) ∧
      (held = false → y.ok = false → w.result = 0 → completes (.finishPass u) s fun t =>
        (t.core u).finish = none ∧ ∃ sticky, (t.core u).work = some { w with result := 7, next := none, sticky := sticky, tag := o.desc.outTag }) ∧
      (held = true → completes (.finishPass u) s (untouched s)))

/-! ### Puppets (chapter 08) -/

/-- R235-R248, R276, R556: a run record is queued or refused and counted; a queued run fetches its broadcast operand, clears the registers and holds its claims, is refused after a bank was
lost, or ends where the fetch fails; its cues are dispatched and end one after the other, each counted; its records go to their landing tiles; its end releases the claims. Halt is a
register bit that takes effect at a gap.
The model's readings behind it: log entries 31 and 33. -/
def Obligations.PuppetRuns : Prop :=
  ∀ (s : State) (u : Nat), s.up = true → u < 36 → s.chestUp (u / 9) = true → s.chestInReset (u / 9) = false →
    let t0 := s.pup u
    (∀ rec_ b, rec_.length = 64 → s.maySubmit u rec_ b = true →
      (s.runRefused u rec_ = false → completes (.runSubmit u rec_ b) s fun t =>
        t.pup u = { t0 with queue := t0.queue ++ [(rec_, b)] } ∧ (∀ k, k ≠ u → t.pup k = s.pup k) ∧
        t.kv = (s.noteSubmit u rec_ b).kv ∧ t = { s with regs := t.regs, pups := t.pups, kv := t.kv } ∧
        sameRegsBut [R.PUP_STATUS u, R.PUP_CLAIMS u] s t) ∧
      (s.runRefused u rec_ = true → completes (.runSubmit u rec_ b) s fun t =>
        t.pups = s.pups ∧ t.getF (R.PUP_REFUSED.refused u) = satAdd (2 ^ 32 - 1) (s.getF (R.PUP_REFUSED.refused u)) 1)) ∧
    (∀ f, (s.isSet (R.SLC_STATUS.offline u) = true → s.runRefused u (s.hostRun u) = false → completes (.pupRunGo u (.host f)) s fun t =>
        t.pup u = { t0 with queue := t0.queue ++ [(s.hostRun u, .host)] } ∧ t.isSet (R.PUP_STATUS.host_refused u) = false) ∧
      (s.isSet (R.SLC_STATUS.offline u) = false → completes (.pupRunGo u (.host f)) s fun t =>
        t.isSet (R.PUP_STATUS.host_refused u) = true ∧ t = { s with regs := t.regs } ∧ sameRegsBut [R.PUP_STATUS u] s t)) ∧
    (∀ i, (s.runRefused u (s.hostRun u) = false → completes (.pupRunGo u (.cc i)) s fun t =>
        t.pup u = { t0 with queue := t0.queue ++ [(s.hostRun u, .cc i)] } ∧ t.isSet (R.PUP_STATUS.host_refused u) = false) ∧
      (s.runRefused u (s.hostRun u) = true → ∀ m, (m = .cc i ∨ (m = .host i ∧ s.isSet (R.SLC_STATUS.offline u) = true)) →
        completes (.pupRunGo u m) s fun t => t.isSet (R.PUP_STATUS.host_refused u) = true ∧ t.pups = s.pups ∧
          t.getF (R.PUP_REFUSED.refused u) = satAdd (2 ^ 32 - 1) (s.getF (R.PUP_REFUSED.refused u)) 1)) ∧
    (∀ rec_ b rest, t0.run = none → t0.queue = (rec_, b) :: rest →
      let n := runBcastSlots rec_ * 256
      let a := bits (runBcast rec_) 38 0
      let r := if bit (runBcast rec_) 63 || n == 0 then (s, 0, List.replicate n 0) else s.unitRead (pupMid u) a n
      (t0.lost = true → completes (.runStart u) s fun t => (t.pup u).queue = rest ∧ (t.pup u).run = none ∧
        t.getF (R.PUP_REFUSED.refused u) = satAdd (2 ^ 32 - 1) (s.getF (R.PUP_REFUSED.refused u)) 1) ∧
      (t0.lost = false → r.2.1 = 0xF → completes (.runStart u) s (untouched s)) ∧
      (t0.lost = false → r.2.1 ≠ 0 → r.2.1 ≠ 0xF → completes (.runStart u) s fun t => (t.pup u).queue = rest ∧ (t.pup u).run = none) ∧
      (t0.lost = false → r.2.1 = 0 → completes (.runStart u) s fun t =>
        (t.pup u).queue = rest ∧ (t.pup u).pv = [] ∧ (t.pup u).ps = [] ∧
        (∃ x, (t.pup u).run = some x ∧ x.bytes = rec_ ∧ x.by_ = b ∧ x.started = true ∧ x.rep = 0 ∧ x.words = []) ∧
        t.getF (R.PUP_CLAIMS.held u) = runClaims rec_ ∧ t.mem = r.1.mem ∧
        (bit (runBcast rec_) 63 = false → clearWay s ⟨.master (pupMid u), pupMid u, false, a, n, none, [], none⟩ →
          t.mem = s.mem ∧ ∀ i < n, Tbl.get 0 (t.pup u).bcast i = s.rdByte (a + i)))) ∧
    (∀ r, t0.run = some r → t0.cue = none → r.started = true → r.part ≠ 3 → s.cueMayRun u = true → completes (.cueDispatch u) s fun t =>
      t.pup u = { t0 with cue := some r.cueIdx, gap := none, run := some { r with pc := cueStart (Tbl.get [] t0.cues r.cueIdx), iter := 0, done := false } } ∧
      (t0.gap = none → ∀ b ∈ s.cueBanks u r.cueIdx, Tbl.get 0 (t.slice u).owed b = 0) ∧
      t.isSet (R.PUP_STATUS.cue_active u) = true ∧ t = { s with regs := t.regs, pups := t.pups, slices := t.slices }) ∧
    (∀ r i, t0.run = some r → t0.cue = some i → r.done = true → completes (.cueEnd u) s fun t =>
      let next := settlePart 3 { r with idx := r.idx + 1, done := false }
      (t.pup u).cue = none ∧ (t.pup u).run = some next ∧ (t.pup u).gap = next.follows ∧ (t.pup u).strays = 0 ∧
      t.getPair (R.PUP_CUES_LO u) = (s.getPair (R.PUP_CUES_LO u) + 1) % 2 ^ 64 ∧ (t0.held = [] → t.mem = s.mem)) ∧
    (∀ r, t0.run = some r → t0.cue = none → r.started = true → r.part = 3 → r.written = false → runNoRecords r.bytes = false →
      completes (.returnRecords u) s fun t => (t.pup u).run = some { r with written := true }) ∧
    (∀ r c, t0.run = some r → t0.cue = none → r.started = true → r.part = 3 → r.written = false → runNoRecords r.bytes = false →
      let k := s.coreKey (runTarget r.bytes)
      let total := r.rows * r.puppets.length * (64 * runRecUnits r.bytes)
      s.landTile k (runLanding r.bytes) = some c → total ≤ c.len → 0 < total → s.coreInReset k = false → s.arrived k (runLanding r.bytes) = false →
      completes (.returnRecords u) s fun t =>
        tileBytes (t.core k) c.off (recordSlice r 0 total).length = recordSlice r 0 total ∧ t.arrived k (runLanding r.bytes) = true ∧
        (t.pup u).run = some { r with written := true } ∧ t.mem = s.mem) ∧
    (∀ r, t0.run = some r → t0.cue = none → r.started = true → r.part = 3 → (r.written = true ∨ runNoRecords r.bytes = true) →
      completes (.runEnd u) s fun t => t.pup u = { t0 with run := none, gap := none } ∧ t.getF (R.PUP_CLAIMS.held u) = 0 ∧
        t.isSet (R.PUP_STATUS.run_active u) = false ∧ t = { s with regs := t.regs, pups := t.pups } ∧
        sameRegsBut [R.PUP_STATUS u, R.PUP_CLAIMS u] s t) ∧
    (∀ halt, completes (.pupHalt u halt) s fun t => t.isSet (R.PUP_CTRL.halt u) = halt ∧
      t.isSet (R.PUP_STATUS.halted u) = ((halt || s.paused) && t0.cue.isNone) ∧ t = { s with regs := t.regs } ∧
      sameRegsBut [R.PUP_CTRL u, R.PUP_STATUS u, R.PUP_CLAIMS u] s t)

/-- R228, R229, R233, R239, R240, Table 8-4, Table 8-5: an instruction of the running cue that accesses no column gives every puppet that takes part the value of its table row, lane by lane, in
its destination register; no other register of any puppet changes. PUTS and PUTV write words of the puppet's record. END goes back to the cue's start or ends its last iteration.
The model's readings behind it: log entries 24 and 31. -/
def Obligations.PuppetRegisterInstructions : Prop :=
  ∀ (s : State) (u : Nat) (f : PupF) (iter : Nat) (n : PNext), s.up = true →
    let takes := s.takesPart u n.cue
    let a := fun j l => s.pvLane u j f.a l
    let b := fun j l => if f.bs then s.ps u j f.b else s.pvLane u j f.b l
    let words := fun (t : State) k => ((t.pup u).run.map (fun r => Tbl.get 0 r.words k)).getD 0
    (pupReady s u 0x00 f iter n → completes (.pNop u f iter) s fun t => pupMoved s t u n ∧ (t.pup u).pv = (s.pup u).pv ∧ (t.pup u).ps = (s.pup u).ps) ∧
    (∀ c op g, (c, op, g) ∈ ([
        (.pBcv u f iter, 0x08, fun _ l => BitVec.ofNat 32 (leNat (Tbl.getList 0 (s.pup u).bcast (bits f.imm 3 0 * 256 + 4 * l) 4))),
        (.pAdd u f iter, 0x09, fun j l => Num.addW (a j l) (b j l)), (.pMul u f iter, 0x0A, fun j l => Num.mulW (a j l) (b j l)),
        (.pFma u f iter, 0x0B, fun j l => Num.fmaW (a j l) (b j l) (s.pvLane u j f.d l)), (.pMax u f iter, 0x0C, fun j l => Num.maxW (a j l) (b j l)),
        (.pLim u f iter, 0x0D, fun j l => if min (f.imm : Int) (s.ps u j f.b).toInt ≤ (l : Int) then Num.nInf else a j l),
        (.pExp2 u f iter, 0x10, fun j l => Num.exp2W (a j l)), (.pExp2r u f iter, 0x11, fun j l => exp2rW (a j l) (s.ps u j f.b))]
          : List (Instr × Nat × (Nat → Nat → Word32))) →
      pupReady s u op f iter n → completes c s fun t => pupMoved s t u n ∧
        (∀ j < 128, ∀ l < 64, t.pvLane u j f.d l = if takes j then g j l else s.pvLane u j f.d l) ∧
        (∀ j < 128, ∀ k < 16, ∀ l < 64, k ≠ f.d → t.pvLane u j k l = s.pvLane u j k l) ∧ (t.pup u).ps = (s.pup u).ps) ∧
    (∀ c op g, (c, op, g) ∈ ([
        (.pRsum u f iter, 0x0E, fun j => Num.treeSum 6 (s.pv u j f.a)), (.pRmax u f iter, 0x0F, fun j => Num.maxList (s.pv u j f.a)),
        (.pSop u f iter, 0x12, fun j => s.sopValue u j f (runArg n.run n.cue))] : List (Instr × Nat × (Nat → Word32))) →
      (op = 0x0E → f.fn = 0) → pupReady s u op f iter n → completes c s fun t => pupMoved s t u n ∧
        (∀ j < 128, ∀ k < 8, t.ps u j k = if k = f.d % 8 ∧ takes j = true then g j else s.ps u j k) ∧ (t.pup u).pv = (s.pup u).pv) ∧
    (f.fn ≠ 0 → pupReady s u 0x0E f iter n → completes (.pRsum u f iter) s fun t => pupMoved s t u n ∧
      (∀ j < 128, ∀ l < 64, t.pvLane u j f.d l =
        if takes j = true ∧ l = (f.imm + iter) % 64 then Num.treeSum 6 (s.pv u j f.a) else s.pvLane u j f.d l) ∧ (t.pup u).ps = (s.pup u).ps) ∧
    (runNoRecords n.run.bytes = false → f.imm < 16 * runRecUnits n.run.bytes →
      (pupReady s u 0x13 f iter n → completes (.pPuts u f iter) s fun t => pupMoved s t u n ∧
        ∀ j < 128, takes j = true → words t (((s.ps u j f.b).toNat * 128 + j) * 1024 + f.imm) = s.ps u j f.a) ∧
      (pupReady s u 0x14 f iter n → completes (.pPutv u f iter) s fun t => pupMoved s t u n ∧
        ∀ j < 128, takes j = true → ∀ i < min 64 (16 * runRecUnits n.run.bytes - f.imm),
          words t (((s.ps u j f.b).toNat * 128 + j) * 1024 + f.imm + i) = a j i)) ∧
    (pupReady s u 0x13 f iter n → completes (.pPuts u f iter) s fun t => pupMoved s t u n ∧ (t.pup u).pv = (s.pup u).pv ∧ (t.pup u).ps = (s.pup u).ps) ∧
    (pupReady s u 0x14 f iter n → completes (.pPutv u f iter) s fun t => pupMoved s t u n ∧ (t.pup u).pv = (s.pup u).pv ∧ (t.pup u).ps = (s.pup u).ps) ∧
    (pupReady s u 0x15 f iter n → completes (.pEnd u f iter) s fun t =>
      (t.pup u).run = some (if iter + 1 < cueIter n.cue then { n.run with pc := cueStart n.cue, iter := iter + 1 } else { n.run with done := true }) ∧
      (t.pup u).pv = (s.pup u).pv ∧ (t.pup u).ps = (s.pup u).ps ∧ t = { s with regs := t.regs, pups := t.pups } ∧ sameRegsBut [] s t)

/-- R223, R228, R230-R232, R236: a column instruction gives every puppet whose bank the cue's mask enables the value of its table row from the sector at the column that its scalar register names; lanes
the sector does not fill, and puppets whose bank is masked off, take +0 (LDC, CMUL) or keep their value; stores write the whole sector. A column outside the bank is a stray. The scalar register advances where the instruction
asks for it. The values are stated where the sectors hold no error and no bank is cut off, and for the stores with one puppet taking part; with any sectors and any puppets each of these instructions
executes and the next one follows.
The model's readings behind it: log entries 26, 31 and 34. -/
def Obligations.PuppetColumnInstructions : Prop :=
  ∀ (s : State) (u : Nat) (f : PupF) (iter : Nat) (n : PNext), s.up = true →
    let takes := fun j => decide (j < 128) && s.takesPart u n.cue j
    let hit := fun j => bit (cueMask n.cue) (2 * j + f.bk)
    let col := fun j => (s.ps u j f.r).toNat
    let at_ := fun j => s.bankAddr u (2 * j + f.bk) (col j) / 64 * 64
    let clean := fun j => col j < 524288 ∧ s.bankCut u (2 * j + f.bk) = false ∧ (s.locate (at_ j)).isSome = true ∧ s.sectorErr (at_ j) = 0
    let x := fun j l => laneOf f (some (s.rdBytes (at_ j) 64)) l
    let a := fun j l => s.pvLane u j f.a l
    let d := fun j l => s.pvLane u j f.d l
    let moved := fun (t : State) j => f.inc = true → takes j = true → t.ps u j f.r = s.ps u j f.r + 1
    (∀ c op zero g, (c, op, zero, g) ∈ ([
        (.pLdc u f iter, 0x01, true, x), (.pCmul u f iter, 0x03, true, fun j l => Num.mulW (x j l) (a j l)),
        (.pCfma u f iter, 0x04, false, fun j l => Num.fmaW (x j l) (a j l) (d j l)),
        (.pCfmb u f iter, 0x05, false, fun j l => Num.fmaW (x j l) (a j ((f.lane + iter) % 64)) (d j l))]
          : List (Instr × Nat × Bool × (Nat → Nat → Word32))) →
      (∀ j, takes j = true → hit j = true → clean j) → pupReady s u op f iter n → completes c s fun t => pupMoved s t u n ∧
        (∀ j < 128, ∀ l < 64, t.pvLane u j f.d l =
          if takes j && hit j && fills f l then g j l else if takes j && zero then 0 else d j l) ∧ (∀ j < 128, moved t j)) ∧
    (f.d % 8 ≠ f.r % 8 → (∀ j, takes j = true → hit j = true → clean j) → pupReady s u 0x06 f iter n → completes (.pLds u f iter) s fun t => pupMoved s t u n ∧
      (∀ j < 128, takes j = true → hit j = true →
        t.ps u j f.d = BitVec.ofNat 32 (fieldAt (s.rdBytes (at_ j) 64) (4 * (f.lane % 16)) 4)) ∧ (∀ j < 128, moved t j) ∧ (t.pup u).pv = (s.pup u).pv) ∧
    (∀ j, (∀ k, takes k = true ↔ k = j) → hit j = true → clean j → s.inClaims u (2 * j + f.bk) (col j) = true →
      (pupReady s u 0x02 f iter n → completes (.pStc u f iter) s fun t =>
        (∀ k, t.rdByte k = if at_ j ≤ k ∧ k < at_ j + 64 then ((List.range (64 / fmBytes f.fm)).flatMap (fun i => leBytes (fmBytes f.fm)
          (Num.conv (fmFmt f.fm) .rne true (Num.val (d j (fillBase f + i)))).bits)).getD (k - at_ j) 0 else s.rdByte k) ∧ moved t j) ∧
      (pupReady s u 0x07 f iter n → completes (.pSacc u f iter) s fun t =>
        (let old := s.rdBytes (at_ j) 64
         let src := (old.drop (32 * (f.lane % 2))).take 32
         let new := (List.range 16).flatMap (fun i => leBytes 2 (scoreNew (fieldAt src (2 * i) 2) (a j i)))
         t.rdBytes (at_ j) 64 = if f.lane % 2 = 0 then src ++ new else new ++ src) ∧
        (∀ k, ¬ (at_ j ≤ k ∧ k < at_ j + 64) → t.rdByte k = s.rdByte k) ∧ moved t j)) ∧
    (∀ c op, (c, op) ∈ [(Instr.pLdc u f iter, 0x01), (.pStc u f iter, 0x02), (.pCmul u f iter, 0x03), (.pCfma u f iter, 0x04), (.pCfmb u f iter, 0x05),
        (.pLds u f iter, 0x06), (.pSacc u f iter, 0x07)] →
      (∀ k, takes k = true → hit k = true → 524288 ≤ col k) → (∃ j, takes j = true ∧ hit j = true) → pupReady s u op f iter n → completes c s fun t =>
        t.isSet (R.PUP_FLAGS.stray u) = true ∧ t.mem = s.mem ∧ (∀ j < 128, moved t j)) ∧
    (∀ c op, (c, op) ∈ [(Instr.pLdc u f iter, 0x01), (.pStc u f iter, 0x02), (.pCmul u f iter, 0x03), (.pCfma u f iter, 0x04), (.pCfmb u f iter, 0x05),
        (.pLds u f iter, 0x06), (.pSacc u f iter, 0x07)] → pupReady s u op f iter n → completes c s fun t =>
      (∃ r, (t.pup u).run = some r ∧ r.pc = n.run.pc + 1 ∧ r.iter = n.run.iter ∧ r.done = n.run.done) ∧
      (op ≠ 0x06 ∨ f.d % 8 ≠ f.r % 8 → ∀ j < 128, moved t j))

/-! ### The key-value manager (chapter 09) -/

/-- R261-R273, R282-R285, R288: the operation a walker takes ends with its tray entry finished: with result 0 and the sequence's new tail where its walk succeeds (CREATE makes an empty live sequence, FORK
one of the length asked for, APPEND adds its positions, both less what is evicted for room, FREE ends the sequence; each installs the record's next tree, or none), with the refusal's code and an unchanged pool where it is refused,
with 5 where a table or the pool cannot be read or the chest is not usable. A record that is not well formed is refused with 4; an operation that meets a pass or an earlier operation of its sequence waits, and runs when nothing
holds it back any more. KVM_CTRL.hold stops the walkers.
The model's readings behind it: log entry 36. -/
def Obligations.KvOperations : Prop :=
  ∀ (s : State) (c : Nat) (o : KvOp) (e : JEntry) (g : KvGeo), s.up = true → s.jFind o.jid = some e → e.st = 1 → s.trayState e.tray = 1 →
    let r := o.rec_
    let ends := fun (base t : State) (code tail : Nat) =>
      ({ e with st := 2, status := statusWord (if code = 0 then 0 else 9) false 0, outTag := 0, kvRes := code, detail := tail } : JEntry) ∈ t.journal ∧
      (∀ x ∈ t.kv.ops, x.jid ≠ o.jid) ∧ t.getPair R.KVM_OPS_LO = (base.getPair R.KVM_OPS_LO + 1) % 2 ^ 64
    let result := fun (base t : State) (m : Kv SeqEnt) =>
      (∀ z s1, m.run base = (.ok z, s1) → ends s1 t 0 z.tail ∧ t.kv.free = s1.kv.free) ∧
      (∀ k s1, m.run base = (.error (.code k), s1) → (∃ tail, ends s1 t k tail) ∧ t.kv.free = base.kv.free ∧ t.kv.sideUsed = base.kv.sideUsed) ∧
      (∀ a f s1, m.run base = (.error (.fault a f), s1) → (∃ tail, ends s1 t 5 tail) ∧ t.kv.free = base.kv.free ∧ t.kv.sideUsed = base.kv.sideUsed)
    let walk := fun (op : Nat) => if op = 1 then kvCreateM g r else if op = 2 then kvForkM g r else if op = 3 then kvAppendM g r
      else if op = 4 then kvVerifyM g r else kvFreeM g r
    let waits := fun (t : State) => t = { s with regs := t.regs, kv := t.kv } ∧ sameRegsBut [] s t ∧
      t.kv.ops = s.kv.ops.map (fun x => if x.jid = o.jid then { x with waiting := true } else x)
    let gone := fun (base t : State) (k : Nat) => (∃ tail, ends base t k tail) ∧ t.kv.free = s.kv.free ∧ t.kv.sideUsed = s.kv.sideUsed
    (∀ i op, (i, op) ∈ [(Instr.kvCreate c, 1), (.kvFork c, 2), (.kvAppend c, 3), (.kvVerifyCommit c, 4), (.kvFree c, 5)] →
      s.kvNext c = some o → recOk r = true → recOp r = op →
      (s.kvBlocked o = true → completes i s waits) ∧
      (s.kvBlocked o = false → s.kvGeo = none → completes i s fun t => gone s t 4) ∧
      (s.kvBlocked o = false → s.kvGeo = some g → s.kvGap g = false → completes i s (untouched s)) ∧
      (s.kvBlocked o = false → s.kvGeo = some g → s.kvGap g = true →
        (s.chestUsable (seqChest (recSeq r)) = true → completes i s fun t => result s t (walk op)) ∧
        (s.chestUsable (seqChest (recSeq r)) = false → completes i s fun t => gone s t 5 ∧ t.isSet R.KVM_FLAGS.storage_fault = true ∧
          t.getF R.KVM_FAULT_SEQ.seq = recSeq r))) ∧
    (∀ z s1, ((kvCreateM g r).run s = (.ok z, s1) → z.state = 1 ∧ z.tail = 0 ∧ z.nextId = 0) ∧
      ((kvForkM g r).run s = (.ok z, s1) → z.state = 1 ∧ z.tail ≤ recForkLen r ∧ (z.evicted = 0 → z.tail = recForkLen r)) ∧
      ((kvFreeM g r).run s = (.ok z, s1) → z = SeqEnt.zero) ∧
      (∀ z0 s0, (kvSeq g (recSeq r)).run s = (.ok z0, s0) → (kvAppendM g r).run s = (.ok z, s1) →
        z0.state = 1 ∧ z0.treeN = 0 ∧ recArg r ≤ z0.room ∧ (z.evicted = z0.evicted → z0.evicted < 0xFFFFFFFF → z.tail = z0.tail + recArg r) ∧ z.nextId = (z0.nextId + recArg r) % 2 ^ 32)) ∧
    (s.kvNext c = some o → recOk r = false →
      (s.kvBlocked o = true → completes (.kvUnlistedOp c) s waits) ∧
      (s.kvBlocked o = false → (s.kvGeo = none ∨ (s.kvGeo = some g ∧ s.kvGap g = true)) → completes (.kvUnlistedOp c) s fun t => gone s t 4)) ∧
    (s.isSet R.KVM_CTRL.hold = false → s.kvGeo = some g → s.kvGap g = true →
      s.kv.ops.find? (fun x => walkerOf x == c && x.waiting && !s.kvHeld x && !s.kvBlocked x) = some o →
      (recOk r = true → s.chestUsable (seqChest (recSeq r)) = true → completes (.kvOpResume c) s fun t => result (s.kvWait o false) t (walk (recOp r))) ∧
      (recOk r = true → s.chestUsable (seqChest (recSeq r)) = false → completes (.kvOpResume c) s fun t => gone s t 5) ∧
      (recOk r = false → completes (.kvOpResume c) s fun t => gone s t 4)) ∧
    (∀ hold, completes (.kvmHold hold) s fun t => t.isSet R.KVM_CTRL.hold = hold ∧ (hold = true → t.getF R.KVM_STATUS.held = 15) ∧
      t = { s with regs := t.regs } ∧ sameRegsBut [R.KVM_CTRL, R.KVM_STATUS] s t)

/-! ### Layouts (chapter 10) -/

/-- R295-R300, R307: a load is taken when nothing is outstanding and bring-up is done, and refused with code 1 (busy) or 2 (size) otherwise; a fetched image that passes every check is staged, one that fails leaves the
state before the load and its refusal; the commit puts the staged image in force, or, where an uncorrectable error at an address stops it, leaves no layout, refusal code 0x11, an uncorrectable-class entry with the address and nothing that a commit could take up (R298); a start in time sets T0; an unload leaves no layout. A commit waits for a pause, a partial reset
and a margin test to end. -/
def Obligations.LayoutLoading : Prop :=
  ∀ (s : State) (v : Nat), s.up = true →
    let code := fun (t : State) (n : Nat) => t.getF R.LAY_REFUSE.code = n ∧ t.getF R.LAY_REFUSE.section = 0xFF ∧ t.getF R.LAY_REFUSE.item = 0xFFFF
    let refused := fun (t : State) (n : Nat) => code t n ∧ t = { s with regs := t.regs } ∧ sameRegsBut [R.LAY_REFUSE] s t
    (bit v 0 = true → s.loadBusy = false → s.stepState 6 = 2 → s.getF R.LAY_SRC_LO.address % 64 = 0 → 16 ≤ s.getF R.LAY_LEN.units →
      s.getF R.LAY_LEN.units ≤ 0x1000000 → completes (.layoutLoad v) s fun t =>
        t.layState = 1 ∧ t.lay = { s.lay with before := s.layState } ∧ t.journal = s.journal ∧ t.mem = s.mem) ∧
    (bit v 0 = false → completes (.layoutLoad v) s (untouched s)) ∧
    (bit v 0 = true → (s.loadBusy = true ∨ s.stepState 6 ≠ 2) → completes (.layoutLoad v) s fun t => refused t 1) ∧
    (bit v 0 = true → s.loadBusy = false → s.stepState 6 = 2 → s.layState < 8 →
      (s.getF R.LAY_SRC_LO.address % 64 ≠ 0 ∨ s.getF R.LAY_LEN.units < 16 ∨ 0x1000000 < s.getF R.LAY_LEN.units) → completes (.layoutLoad v) s fun t =>
        code t 2 ∧ t.layState = s.layState ∧ t.lay.force = s.lay.force) ∧
    (∀ img : ImageIn, s.layState = 1 → s.lay.before < 8 →
      (img.ok = true → img.bytes.length = s.getF R.LAY_LEN.units * 64) → (img.ok = false → img.bytes.length < s.getF R.LAY_LEN.units * 64) →
      let st := s.stageImage img.bytes
      completes (.imageFetchEnd img) s fun t =>
      match (st.1.setLayState 2).checkLayout img (img.ok && st.2) with
      | none => t.layState = 3 ∧ t.lay = { s.lay with staged := some (imageOf img) }
      | some f => t.layState = s.lay.before ∧ t.lay = s.lay ∧ t.getF R.LAY_REFUSE.code = f.1 % 32 ∧ t.getF R.LAY_REFUSE.section = f.2.1 % 256 ∧
        t.getF R.LAY_REFUSE.item = f.2.2 % 65536) ∧
    (∀ i, s.lay.staged = some i → s.layState = 3 → s.paused = false → s.rst.running = [] → s.marginMeets i 0 = false →
      (completes (.layoutCommit none) s fun t => t.layState = 4 ∧ t.lay.force = some i ∧ t.lay.began = false) ∧
      (∀ a, completes (.layoutCommit (some a)) s fun t => t.layState = 0 ∧ t.lay.force = none ∧ t.lay.staged = none ∧ code t 0x11 ∧
        (let e := Tbl.get LogEntry.zero t.log.ring ((t.getF R.ERR_SEQ.seq + (2 ^ 32 - 1)) % 2 ^ 32 % 512)
         e.event = 0x1B ∧ e.cls = 1 ∧ e.addrValid = true ∧ e.address = a / 64 * 64) ∧
        ∀ f, completes (.layoutCommit f) t fun u => untouched t u)) ∧
    (∀ i f, s.lay.staged = some i → s.layState = 3 → (s.paused = true ∨ s.rst.running ≠ [] ∨ s.marginMeets i 0 = true) →
      completes (.layoutCommit f) s (untouched s)) ∧
    (bit v 1 = false → completes (.layoutStart v) s (untouched s)) ∧ (bit v 2 = false → completes (.layoutUnload v) s (untouched s)) ∧
    (bit v 1 = true → s.layState = 4 → s.tickNow + 16 ≤ s.getPair R.LAY_START_LO → completes (.layoutStart v) s fun t =>
        t.lay = { s.lay with start := s.getPair R.LAY_START_LO } ∧ t = { s with regs := t.regs, lay := t.lay } ∧ sameRegsBut [] s t) ∧
    (bit v 1 = true → (s.layState ≠ 4 ∨ s.getPair R.LAY_START_LO < s.tickNow + 16) → completes (.layoutStart v) s fun t => refused t 0x12) ∧
    (bit v 2 = true → s.loadBusy = false → completes (.layoutUnload v) s fun t =>
        t.layState = 0 ∧ t.lay.force = none ∧ t.lay.staged = none ∧ t.lay.began = false ∧ t.getPair R.LAY_ID_LO = 0) ∧
    (bit v 2 = true → s.loadBusy = true → completes (.layoutUnload v) s fun t => refused t 1)

/-- R307-R319: epochs begin at T0; a scheduled send leaves at its tick when its data are ready, waits otherwise, and a send that no longer fits its slot is demoted and counted; a member that is ready closes its epoch with its
record; at the boundary the next epoch starts at start(n + 1) and its slip is added up; missing records break the group; a drained part switches to the act of the schedule entry in force.
The model's readings behind it: log entries 87, 90, 91 and 130. -/
def Obligations.LayoutEpochs : Prop :=
  ∀ (s : State), s.up = true →
    (s.runState = 4 → s.lay.start ≠ 0 → s.lay.start ≤ s.tickNow → completes .epochStart s fun t =>
      t.runState = 5 ∧ t.lay.began = true ∧ t.lay.entry = 0 ∧ t.lay.left = (s.schedAt 0).epochs ∧ t.epoch = 0 ∧
      t.lay.switchDue = ((s.schedAt 0).act != s.act)) ∧
    (∀ i e, s.slotList[i]? = some e → s.runsEpochs = true → e.dir = 0 →
      let had := (s.slotData e).2.isSome
      let sent := fun (t : State) (demoted : Bool) => Tbl.get 0 t.lay.slotSt i = 2 ∧
        t.getF R.LAY_DEMOTED.value = (if demoted then satAdd (2 ^ 32 - 1) (s.getF R.LAY_DEMOTED.value) 1 else s.getF R.LAY_DEMOTED.value) ∧
        (demoted = true → t.isSet R.LAY_FLAGS.demoted = true)
      (s.lay.switchDue = false → Tbl.get 0 s.lay.slotSt i = 0 → s.lay.start + e.start ≤ s.tickNow →
        (had = true → completes (.slotStart i true) s fun t => sent t (s.demotes e)) ∧
        (had = false → completes (.slotStart i true) s fun t => Tbl.get 0 t.lay.slotSt i = 1) ∧
        (completes (.slotStart i false) s fun t => t.lay = { s.lay with slotSt := Tbl.set 0 s.lay.slotSt i 1 } ∧
          t = { s with regs := t.regs, lay := t.lay } ∧ sameRegsBut [] s t)) ∧
      (∀ fits, Tbl.get 0 s.lay.slotSt i = 1 → (had = true → completes (.sendDataReady i fits) s fun t => sent t (!fits || s.demotes e)) ∧
        (had = false → completes (.sendDataReady i fits) s fun t => Tbl.get 0 t.lay.slotSt i = 1))) ∧
    (s.runsEpochs = true → s.lay.closed = false → s.lay.switchDue = false → s.transfersDone = true → (s.switchNext = true → s.drained = true) →
      completes .memberReady s fun t => t.lay = { s.lay with closed := true, closes := s.lay.closes ++ [s.ownRecord] } ∧
        t.isSet R.LAY_STATUS.barrier_wait = true ∧ t.mem = s.mem ∧ t.cores = s.cores) ∧
    (s.runsEpochs = true → s.lay.closed = true → s.allClosed = true → s.nextStart ≤ s.tickNow → s.lay.stopDue = false →
      completes .epochBoundary s fun t => t.epoch = (s.epoch + 1) % 2 ^ 64 ∧ t.lay.start = s.nextStart ∧ t.lay.closed = false ∧
        t.getF R.LAY_LAST_SLIP.value = min (s.nextStart - s.nominalEnd) 0xFFFFFFFF ∧
        t.getPair R.LAY_SLIP_LO = (s.getPair R.LAY_SLIP_LO + (s.nextStart - s.nominalEnd)) % 2 ^ 64 ∧
        t.isSet R.LAY_STATUS.barrier_wait = false) ∧
    (s.runsEpochs = true → s.lay.closed = true → s.allClosed = true → s.nextStart ≤ s.tickNow → s.lay.stopDue = true →
      completes .epochBoundary s fun t => t.epoch = (s.epoch + 1) % 2 ^ 64 ∧ t.runState = 6) ∧
    ((s.runState = 5 ∨ s.runState = 6) → s.lay.began = true → s.allClosed = false → s.nominalEnd + 2 ^ s.group.e ≤ s.tickNow →
      completes .groupBroken s fun t => t.runState = 6 ∧ t.isSet R.LAY_FLAGS.group_broken = true ∧ t.lay.began = false ∧ t.lay.closes = [] ∧
        ∀ e ∈ t.journal, e.st = 2) ∧
    (s.runsEpochs = true → s.lay.switchDue = true → s.drained = true → s.paused = false → s.rst.running = [] →
      (∀ i, s.lay.force = some i → s.marginMeets i (s.schedAt s.lay.entry).act = false) → completes .actSwitch s fun t =>
        t.act = (s.schedAt s.lay.entry).act % 64 ∧ t.lay.switchDue = false ∧ t.lay.force = s.lay.force ∧ t.isSet R.LAY_STATUS.switching = false) ∧
    ((s.runsEpochs = false ∨ s.lay.switchDue = false ∨ s.drained = false ∨ s.paused = true ∨ s.rst.running ≠ []) → completes .actSwitch s (untouched s))

/-! ### Porzil fabric ports (chapter 11) -/

/-- R329-R351: a flit with a good CRC brings its ack and credit; the sequenced flit that is expected then has its message's effect: SCHED bytes land at their tile; a READ, WRITE or ATOMIC of another device is served and answered with
its tag; DATA and DONE answer the request that waits, or count as late; CLOSE records are held; TIME on the source port sets the error, and steps fabric time by more than 20 ns outside a running layout; the first ASSIGN_ID sets the device id, another is a
conflict; SET_BOUND and INIT set their values. The state the flit's message acts on is the one its fields leave. A flit that is not the expected one, or lies in an uncorrectable
codeword, is asked for again.
The model's readings behind it: log entries 55, 57, 132 and 133. -/
def Obligations.FabricReceive : Prop :=
  ∀ (s : State) (p : Nat) (f : Flit), s.up = true → p < 8 → s.portIsUp p = true →
    let r := (s.rxTurn p).rxFields p f
    let arrives := f.hdr.seqd = true ∧ r.expects p f = true ∧ r.dropCause f = none ∧ s.rxSpoilt p = false
    let again := f.hdr.seqd = true ∧ (s.rxSpoilt p = true ∨ r.expects p f = false)
    let taken := fun (t : State) => (t.port p).rxLast = f.hdr.seq
    let asked := fun (t : State) => (t.port p).nak = true ∧ t.mem = s.mem ∧ t.cores = s.cores
    let n := (s.port p).replay.length
    let d := (f.hdr.ack + 1 + 4096 - ((s.port p).txNext + 4096 - n % 4096) % 4096) % 4096
    let src := ReqSrc.fabric f.hdr.src (flitTag f) f.op
    (f.op = 0 → f.hdr.seqd = false → s.rxSpoilt p = false → completes (.flitIdle p f) s fun t => t.ports = r.ports ∧ t.mem = s.mem ∧
        (f.hdr.nak = false → d ≤ n → (f.hdr.crVc % 4 = 0 ∨ (s.port p).sent = [] ∧ f.hdr.crTotal % 4096 = 0) →
          (t.port p).replay = (s.port p).replay.drop d ∧ (d ≠ 0 → (t.port p).replays = 0) ∧ (∀ q, q ≠ p → t.port q = s.port q) ∧
          t = { s with regs := t.regs, ports := t.ports })) ∧
    (∀ c, (c, f.op) ∈ [(Instr.sched p f, 1), (.fabricRead p f, 2), (.fabricWrite p f, 3), (.fabricAtomic p f, 4), (.fabricData p f, 5),
        (.fabricDone p f, 6), (.close p f, 7), (.time p f, 8)] → (arrives → completes c s taken) ∧ (again → completes c s asked)) ∧
    (f.op = 9 → ∀ c, (c, fieldAt f.payload 0 1) ∈ [(Instr.assignId p f, 1), (.setBound p f, 2), (.init p f, 3)] →
      (arrives → completes c s taken) ∧ (again → completes c s asked)) ∧
    (arrives →
      (f.op = 1 → ∀ cfg,
        let k := r.coreKey (flitCore f)
        (r.port p).inbound = none → flitFirst f = true → r.coreInReset k = false → r.landTile k (flitTag f) = some cfg → f.payload.length ≤ cfg.len →
        r.arrived k (flitTag f) = false → k < 36 → completes (.sched p f) s fun t =>
          (∀ x, tileByte (t.core k) x = if cfg.off ≤ x ∧ x < cfg.off + f.payload.length then f.payload.getD (x - cfg.off) 0 else tileByte (r.core k) x) ∧
          t.arrived k (flitTag f) = flitLast f ∧
          (t.port p).inbound = if flitLast f then none else some ⟨f.hdr.src, flitTag f, flitCore f, f.payload.length⟩) ∧
      (f.op = 2 → flitFirst f = true → flitLast f = true → 0 < reqLength f.payload → bit (reqKind f.payload) 0 = false →
        let a := bits (reqTarget f.payload) 38 0
        ∀ q, openWay r ⟨src, portMid p, false, a, reqLength f.payload, none, [], none⟩ → r.homePort f.hdr.src = some q → completes (.fabricRead p f) s fun t =>
          Tbl.get [] (t.port q).queue 2 = Tbl.get [] (r.port q).queue 2 ++
            msgFlits 5 2 f.hdr.src r.deviceId (flitTag f) ((List.range (reqLength f.payload)).map (fun i => r.seen (a + i)))) ∧
      (f.op = 2 → flitFirst f = true → flitLast f = true → 0 < reqLength f.payload → reqLength f.payload ≤ 4096 → bit (reqKind f.payload) 0 = false →
        let a := bits (reqTarget f.payload) 38 0
        ∀ q, clearWay r ⟨src, portMid p, false, a, reqLength f.payload, none, [], none⟩ → r.homePort f.hdr.src = some q → completes (.fabricRead p f) s fun t =>
          Tbl.get [] (t.port q).queue 2 = Tbl.get [] (r.port q).queue 2 ++ msgFlits 5 2 f.hdr.src r.deviceId (flitTag f) (r.rdBytes a (reqLength f.payload)) ∧
          t.mem = r.mem) ∧
      (f.op = 3 → flitFirst f = true → flitLast f = true → 0 < reqLength f.payload → reqLength f.payload ≤ (f.payload.drop 16).length →
        (f.payload.drop 16).length ≤ 4096 → bit (reqKind f.payload) 0 = false →
        let a := bits (reqTarget f.payload) 38 0
        let data := (f.payload.drop 16).take (reqLength f.payload)
        ∀ q, clearWay r ⟨src, portMid p, false, a, reqLength f.payload, some data, [], none⟩ → r.homePort f.hdr.src = some q → completes (.fabricWrite p f) s fun t =>
          (∀ x, t.rdByte x = if a ≤ x ∧ x < a + data.length then data.getD (x - a) 0 else r.rdByte x) ∧
          Tbl.get [] (t.port q).queue 2 = Tbl.get [] (r.port q).queue 2 ++ msgFlits 6 2 f.hdr.src r.deviceId (flitTag f) []) ∧
      (f.op = 4 → flitFirst f = true → flitLast f = true → 0 < reqLength f.payload → reqLength f.payload ≤ 4096 → bit (reqKind f.payload) 0 = false →
        let a := bits (reqTarget f.payload) 38 0
        let op := bits (reqAtomic f.payload) 3 0
        let w := if bit (reqAtomic f.payload) 4 then 8 else 4
        let x : MemReq := ⟨src, portMid p, false, a, w, some ((f.payload.drop 16).take w), [], some (op, fieldAt (f.payload.drop 16) w w)⟩
        let old := (List.range w).map (fun i => r.cacheByte (a + i))
        ∀ q, op ≤ 9 → w + 16 ≤ f.payload.length → r.refusal x = none → r.paused = false → (r.findLine a).isSome = true → r.homePort f.hdr.src = some q →
          completes (.fabricAtomic p f) s fun t =>
            leNat ((List.range w).map (fun i => t.cacheByte (a + i))) =
              atomValue op w (leNat old) (leNat ((f.payload.drop 16).take w)) (fieldAt (f.payload.drop 16) w w) % 2 ^ (8 * w) ∧
            Tbl.get [] (t.port q).queue 2 = Tbl.get [] (r.port q).queue 2 ++ msgFlits 6 2 f.hdr.src r.deviceId (flitTag f) old) ∧
      (∀ c, (c, f.op) ∈ [(Instr.fabricData p f, 5), (.fabricDone p f, 6)] →
        (∀ q, r.fab.reqs.find? (fun (x : OutReq) => x.tag == flitTag f) = some q → flitLast f = true → completes c s fun t =>
          t.fab.reqs = r.fab.reqs.filter (fun (x : OutReq) => x.tag != flitTag f) ∧
          t.out = r.out ++ (if q.master = 0xFF then [] else
            .response (.master q.master) (flitStatus f) (if flitStatus f = 0 then q.got ++ f.payload else []) ::
              (if flitStatus f = 0 then [] else (ccOfMid q.master).toList.map (fun i => .accessFault i))) ∧ t.mem = r.mem) ∧
        (∀ q, r.fab.reqs.find? (fun (x : OutReq) => x.tag == flitTag f) = some q → flitLast f = false → completes c s fun t =>
          t.fab.reqs = r.fab.reqs.map (fun (x : OutReq) => if x.tag = flitTag f then { x with got := q.got ++ f.payload } else x) ∧ t.out = r.out) ∧
        (r.fab.reqs.find? (fun (x : OutReq) => x.tag == flitTag f) = none → completes c s fun t =>
          t.getF R.PZL_LATE.late = (if flitLast f then satAdd (2 ^ 32 - 1) (r.getF R.PZL_LATE.late) 1 else r.getF R.PZL_LATE.late) ∧
          t.fab = r.fab ∧ t.out = r.out)) ∧
      (f.op = 7 → (r.runState = 5 ∨ (r.runState = 4 ∧ r.lay.start ≠ 0)) →
        let c := closeOf r.group f
        let fits := c.group = r.group.groupId ∧ c.digest8 = digest8 r.group
        (fits → r.lay.closes.contains c = false → c.rank < r.group.members → completes (.close p f) s fun t =>
          t.lay = { r.lay with closes := r.lay.closes ++ [c] }) ∧
        (fits → (r.lay.closes.contains c = true ∨ r.group.members ≤ c.rank) → completes (.close p f) s fun t => t.lay = r.lay) ∧
        (¬ fits → completes (.close p f) s fun t => t.runState = 6 ∧ t.isSet R.LAY_FLAGS.group_broken = true)) ∧
      (f.op = 8 →
        let r1 : State := { r with fab := { r.fab with lastTime := Tbl.set 0 r.fab.lastTime p (r.now + 1) } }
        (r1.timeSource = some p → completes (.time p f) s fun t =>
          let e : Int := (fieldAt f.payload 0 8 : Int) - r.ftime
          t.getF R.PZL_TIME.last_error = unsigned 16 (satError e) ∧ t.fab.errors = (satError e :: r.fab.errors).take 3 ∧
          t.ftime = (if r.runState ≠ 5 ∧ 20 < e.natAbs then fieldAt f.payload 0 8 else r.ftime) ∧
          (r.runState = 5 → t.fab.slew = e)) ∧
        (r1.timeSource ≠ some p → completes (.time p f) s fun t => t.ftime = r.ftime ∧ t.fab.errors = r.fab.errors)) ∧
      (f.op = 9 → fieldAt f.payload 0 1 = 1 → 
        (r.idAssigned = false → completes (.assignId p f) s fun t => t.idAssigned = true ∧ t.deviceId = fieldAt f.payload 1 2 % 4096 ∧
          t.getF R.LAY_GROUP.device_id = fieldAt f.payload 1 2 % 4096) ∧
        (r.idAssigned = true → r.deviceId ≠ fieldAt f.payload 1 2 % 4096 → completes (.assignId p f) s fun t =>
          t.isSet R.PZL_FLAGS.id_conflict = true ∧ t.deviceId = r.deviceId)) ∧
      (f.op = 9 → fieldAt f.payload 0 1 = 2 → completes (.setBound p f) s fun t => t.getF R.PZL_SW_BOUND.bound_ns = fieldAt f.payload 1 2) ∧
      (f.op = 9 → fieldAt f.payload 0 1 = 3 → 64 ≤ fieldAt f.payload 1 2 → fieldAt f.payload 1 2 ≤ 2048 → 64 ≤ fieldAt f.payload 3 2 →
        fieldAt f.payload 3 2 ≤ 2048 → 16 ≤ fieldAt f.payload 5 1 → completes (.init p f) s fun t =>
          (t.port p).crInit = [(1, fieldAt f.payload 1 2), (2, fieldAt f.payload 3 2), (3, fieldAt f.payload 5 1)]) ∧
      (f.op = 9 → fieldAt f.payload 0 1 = 3 → (fieldAt f.payload 1 2 < 64 ∨ 2048 < fieldAt f.payload 1 2 ∨ fieldAt f.payload 3 2 < 64 ∨
        2048 < fieldAt f.payload 3 2 ∨ fieldAt f.payload 5 1 < 16) → completes (.init p f) s fun t => t.isSet (R.PZL_P_FLAGS.error p) = true))

/-- R323, R324, R334-R344, R348, R350: a dropped flit is flagged and its credit freed; a port resends, sends the flit its turn brings, numbered and kept, or an idle one; replay, its eight failures, a request without response and a lost time source;
enable, retraining, loopback, lanes that are retired, trained widths and failures; a bad flit is naked. Five flits fill a codeword pair (R326).
The model's readings behind it: log entries 54, 58, 131 and 133. -/
def Obligations.FabricLinks : Prop :=
  ∀ (s : State) (p v : Nat), s.up = true → p < 8 →
    let t0 := s.port p
    let lost := fun (t : State) => t.portState p = 3 ∧ t.ports = s.ports ∧ t.mem = s.mem ∧ t.cores = s.cores ∧
      t.out = s.out ++ [.training p (s.getF (R.PZL_P_STATUS.local_good p))]
    let sends := fun (t : State) (g : Flit) => t.out.take (s.out.length + 1) = s.out ++ [.flit p g] ∧
      (t0.txPair.length < 4 → (t.port p).txPair = t0.txPair ++ [g] ∧ t.out.length = s.out.length + 1) ∧
      (4 ≤ t0.txPair.length → (t.port p).txPair = [] ∧ (t.port p).pairNo = (t0.pairNo + 1) % 4096 ∧ t.out.length = s.out.length + 2)
    (∀ f c, s.portIsUp p = true → s.rxSpoilt p = false → f.hdr.seqd = true → ((s.rxTurn p).rxFields p f).expects p f = true →
      ((s.rxTurn p).rxFields p f).dropCause f = some c →
      completes (.flitDropped p f) s fun t => t.isSet (R.PZL_P_FLAGS.error p) = true ∧ (c = 1 → t.isSet R.PZL_FLAGS.misrouted = true) ∧
        (t.port p).rxLast = f.hdr.seq ∧ (t.port p).nak = false ∧ t.mem = s.mem) ∧
    (s.portIsUp p = true →
      (∀ f rest, t0.resend = f :: rest → completes (.flitSend p) s fun t =>
        sends t { f with hdr := stampHdr { t0 with resend := rest } f.hdr } ∧ (t.port p).resend = rest ∧ (t.port p).replay = t0.replay) ∧
      (t0.resend = [] → (2048 ≤ t0.replay.length ∨ s.nextVc p = none) → completes (.flitSend p) s fun t =>
        sends t { idleFlit s.deviceId with hdr := stampHdr t0 (idleFlit s.deviceId).hdr } ∧ (t.port p).replay = t0.replay) ∧
      (∀ vc f rest, t0.resend = [] → t0.replay.length < 2048 → s.nextVc p = some vc → Tbl.get [] t0.queue vc = f :: rest → completes (.flitSend p) s fun t =>
        Tbl.get [] (t.port p).queue vc = rest ∧ (t.port p).replay.length = t0.replay.length + 1 ∧ (t.port p).txNext = (t0.txNext + 1) % 4096 ∧
        (∃ g, sends t g ∧ g.op = f.op ∧ g.payload = f.payload ∧ g.hdr.seq = t0.txNext ∧ g.hdr.ack = t0.rxLast) ∧
        (vc ≠ 0 → Tbl.get 0 (t.port p).sent vc = (Tbl.get 0 t0.sent vc + 1) % 4096)) ∧
      (t0.replay ≠ [] → t0.progressAt + 4000 ≤ s.now → t0.replays < 8 → completes (.replayTimeout p) s fun t =>
        (t.port p).resend = t0.replay ∧ (t.port p).replays = t0.replays + 1 ∧ t.isSet (R.PZL_P_FLAGS.replay p) = true ∧
        t.getF (R.PZL_P_REPLAYS.count p) = satAdd (2 ^ 32 - 1) (s.getF (R.PZL_P_REPLAYS.count p)) 1) ∧
      (t0.replay ≠ [] → t0.progressAt + 4000 ≤ s.now → 8 ≤ t0.replays → completes (.replayTimeout p) s lost) ∧
      ((t0.replay = [] ∨ s.now < t0.progressAt + 4000) → completes (.replayTimeout p) s (untouched s)) ∧
      (completes (.portRetrain p) s lost) ∧
      (∀ b u, flitOf b = none → completes (.badFlitReceived p b u) s fun t => (t.port p).nak = true ∧
        t.getF (R.PZL_P_UNCORR.count p) = (if u ∧ (t0.rxPos = 0 ∨ t0.rxPos = 2) then satAdd (2 ^ 32 - 1) (s.getF (R.PZL_P_UNCORR.count p)) 1
          else s.getF (R.PZL_P_UNCORR.count p)) ∧ t = { s with regs := t.regs, ports := t.ports })) ∧
    (s.portIsUp p = false → completes (.portRetrain p) s (untouched s)) ∧
    (∀ tag q, s.fab.reqs.find? (fun (x : OutReq) => x.tag == tag) = some q →
      (q.at_ + s.reqTimeout ≤ s.now → completes (.requestTimeout tag) s fun t =>
        t.fab.reqs = s.fab.reqs.filter (fun (x : OutReq) => x.tag != tag) ∧ t.isSet R.PZL_FLAGS.req_timeout = true ∧
        t.out = s.out ++ (if q.master = 0xFF then [] else
          .response (.master q.master) 1 [] :: (ccOfMid q.master).toList.map (fun i => .accessFault i)) ∧ sameRegsBut [R.PZL_FLAGS] s t) ∧
      (s.now < q.at_ + s.reqTimeout → completes (.requestTimeout tag) s (untouched s))) ∧
    (Tbl.get 0 s.fab.lastTime p ≠ 0 → s.hasTime p = false → completes (.timeSourceLoss p) s fun t =>
      Tbl.get 0 t.fab.lastTime p = 0 ∧ t.ftime = s.ftime ∧
      ((∀ q < 8, s.hasTime q = false) → t.timeSource = none ∧ t.isSet R.PZL_TIME.locked = false ∧ t.isSet R.PZL_TIME.source_valid = false ∧
        (s.isSet R.PZL_TIME.locked = true → t.isSet R.LAY_FLAGS.time_unlock = true) ∧ t.fab.errors = [])) ∧
    (s.isSet (R.PZL_P_STATUS.licensed p) = true →
      (v % 2 = 0 → completes (.portEnable p v) s fun t => t.portState p = 0 ∧ t.isSet (R.PZL_P_CTRL.enable p) = false ∧ t.port p = PortSt.zero) ∧
      (v % 2 = 1 → completes (.portEnable p v) s fun t => t.portState p = (if s.portState p = 0 then 1 else s.portState p) ∧
        t.isSet (R.PZL_P_CTRL.enable p) = true)) ∧
    (s.isSet (R.PZL_P_STATUS.licensed p) = false → completes (.portEnable p v) s (untouched s)) ∧
    (completes (.portLoopback p v) s fun t => t.getF (R.PZL_P_CTRL.loopback p) = v % 2 ∧ t = { s with regs := t.regs } ∧ sameRegsBut [R.PZL_P_CTRL p] s t) ∧
    (completes (.laneRetire p v) s fun t =>
      (∀ i < 8, t.getBit (R.PZL_P_STATUS.local_good p) i = (s.getBit (R.PZL_P_STATUS.local_good p) i && !bit v i)) ∧
      (∀ i < 8, t.getBit (R.PZL_P_CTRL.retire p) i = (s.getBit (R.PZL_P_CTRL.retire p) i || bit v i)) ∧ t.ports = s.ports ∧ t.mem = s.mem) ∧
    (∀ lane < 8, s.getBit (R.PZL_P_STATUS.local_good p) lane = true → completes (.laneSignalLoss p lane) s fun t =>
      t.getBit (R.PZL_P_STATUS.local_good p) lane = false ∧ t.isSet (R.PZL_P_FLAGS.lane_retired p) = true ∧
      t.portState p = (if s.portIsUp p then 3 else s.portState p)) ∧
    (∀ lane < 8, ∀ errors words, completes (.laneErrorWindow p lane errors words) s fun t =>
      t.getF (R.PZL_P_LANE_ERR.corrected p lane) = satAdd (2 ^ 32 - 1) (s.getF (R.PZL_P_LANE_ERR.corrected p lane)) errors ∧
      t.getPair (R.PZL_P_FEC_LO p) = (s.getPair (R.PZL_P_FEC_LO p) + words) % 2 ^ 64 ∧
      (Tbl.get 0 t0.windows lane = 2 → s.getF (R.PZL_P_LANE_THRESH.thresh p) ≠ 0 → s.getF (R.PZL_P_LANE_THRESH.thresh p) < errors →
        t.getBit (R.PZL_P_STATUS.local_good p) lane = false)) ∧
    (∀ remote w, s.portTrains p = true → remote < 256 → trainedWidth (s.getF (R.PZL_P_STATUS.local_good p) &&& remote) = some w →
      completes (.portTrainingEnd p true remote) s fun t =>
        let loop := if s.portState p = 0 then s.isSet (R.PZL_P_CTRL.loopback p) else t0.loopback
        t.portState p = (if loop then 5 else 2) ∧ t.getF (R.PZL_P_STATUS.width p) = w.1 ∧ t.getF (R.PZL_P_STATUS.lanes_used p) = w.2 ∧
        t.getF (R.PZL_P_STATUS.remote_good p) = remote ∧
        (s.portState p = 1 → loop = false → s.fab.closes = [] →
          Tbl.get [] (t.port p).queue 3 = Tbl.get [] t0.queue 3 ++ msgFlits 9 3 0 s.deviceId 0 initPayload) ∧
        (s.portState p = 3 → loop = false → (t.port p).resend = if t0.replay = [] then t0.resend else t0.replay)) ∧
    (∀ ok remote, s.portTrains p = true → remote < 256 →
      (ok = true ∧ trainedWidth (s.getF (R.PZL_P_STATUS.local_good p) &&& remote) = none) ∨ (ok = false ∧ s.portState p = 3 ∧ t0.retrainFails = 2) →
      completes (.portTrainingEnd p ok remote) s fun t =>
        t.portState p = 4 ∧ t.isSet (R.PZL_P_FLAGS.down p) = true ∧ t.port p = PortSt.zero) ∧
    (∀ remote, s.portState p = 3 → t0.retrainFails < 2 → completes (.portTrainingEnd p false remote) s fun t =>
        t.portState p = 3 ∧ (t.port p).retrainFails = t0.retrainFails + 1) ∧
    (∀ remote, s.portTrains p = true → s.portState p ≠ 3 → completes (.portTrainingEnd p false remote) s fun t => t.portState p = 1)

/-! ### The on-package network (chapter 12) -/

/-- R355-R357, R388: the packet at the head of its buffer that its router's arbiter grants goes on, along its row, then its column, by the beats there is room
for, corrected beats counted; its last beat leaves at its port, or into the queue of its route's edge side; an uncorrectable beat discards it and a request gets an error
response. R361-R369: an edge flit that the other side can send, with a good CRC and the number that is expected, is accepted; its bytes join the packet that arrives, which
enters the plinth whole in the next hop class; its ack drops what is acknowledged, and a bad CRC asks for a replay; a replay after 1 us, its eight failures,
retraining, a full retrain, failed attempts, retirement with its packets sent the other way, lane repair and the end of a training. Otherwise nothing changes. What a side
may send and where a packet is held between are the model's choices (log entries 93 to 95, 135).
The model's readings behind it: log entries 93, 94, 95 and 135. -/
def Obligations.EdgeAndMesh : Prop :=
  ∀ s : State, s.up = true →
    (∀ c r p,
      let s1 := s.meshEnter c r p
      let open_ := c < 4 ∧ r < 10 ∧ meshFits p = true ∧ (r = 9 ∨ s.chestUp c = true ∧ s.chestInReset c = false)
      let w := s1.winner (s1.meshArb c r p);
      (¬open_ → completes (.meshPacket c r p) s fun t => untouched s t) ∧
      (open_ → (∀ e, s1.meshHead c r p = some e → e.pkt ≠ meshClean p) → completes (.meshPacket c r p) s fun t => t = { s with mesh := s1.mesh }) ∧
      (open_ → ∀ e, s1.meshHead c r p = some e → e.pkt = meshClean p →
        let n := s1.meshRoom c r e
        let errs := (p.beats.drop e.gone).take n
        let d := meshNext r (meshGoal c p)
        let last := e.gone + n = meshBeats p
        let goes := s1.meshAbsorbs c r p = false ∧ 0 < n ∧ (w.map (·.1)) = some (meshBuf c r p);
        (s1.meshAbsorbs c r p = false → (n = 0 ∨ (w.map (·.1)) ≠ some (meshBuf c r p)) → completes (.meshPacket c r p) s fun t => t = { s with mesh := s1.mesh }) ∧
        (s1.meshAbsorbs c r p = true → completes (.meshPacket c r p) s fun t =>
          (t.meshAt c r).length + 1 = (s1.meshAt c r).length ∧ (p.request = true → .response (.master p.master) 4 [] ∈ t.out)) ∧
        (goes → (∀ b ∈ errs, b < 2) → completes (.meshPacket c r p) s fun t =>
          t.getF (R.LNK_MESH_CE.count c) = satAdd (2 ^ 32 - 1) (s.getF (R.LNK_MESH_CE.count c)) (errs.filter (· == 1)).length ∧
          t.meshAt c r = changeFirst (fun q => q == e) (fun q => if last then none else some { q with gone := q.gone + n }) (s1.meshAt c r) ∧
          (d ≠ r → t.out = s.out ∧ t.meshAt c d = if e.gone = 0 then s1.meshAt c d ++ [⟨e.pkt, n, 0, 0⟩] else
            changeFirst (fun q => q.pkt == e.pkt && q.got == e.gone) (fun q => some { q with got := q.got + n }) (s1.meshAt c d)) ∧
          (last → d = r → e.pkt.chest = c → t.out = s.out ++ [.meshEject c r p.port e.pkt]) ∧
          (last → d = r → e.pkt.chest ≠ c → t.out = s.out ∧
            let k := c * 2 + s.routeOf c p.chest - 1
            (t.side k).flow = (s.side k).flow ++ [⟨e.pkt, e.via, 0⟩]) ∧
          t = { s with regs := t.regs, mesh := t.mesh, sides := t.sides, qos := t.qos, out := t.out } ∧ sameRegsBut [R.LNK_MESH_CE c] s t) ∧
        (goes → (∃ b ∈ errs, 2 ≤ b) → completes (.meshPacket c r p) s fun t =>
          e ∉ t.meshAt c r ∧ (p.request = true → .response (.master p.master) 1 [] ∈ t.out) ∧
          t.getF (R.LNK_MESH_UE.count c) = satAdd (2 ^ 32 - 1) (s.getF (R.LNK_MESH_UE.count c)) 1 ∧
          t.getF (R.LNK_MESH_CE.count c) = satAdd (2 ^ 32 - 1) (s.getF (R.LNK_MESH_CE.count c)) (errs.filter (· == 1)).length))) ∧
    (∀ k, k < 8 →
      let j := peerSide k
      (∀ m f err, m < 16 →
        let a := s.edgeMod k m
        let b := s.edgeMod j m
        let i := vcClass f.hdr.vc f.hdr.cls
        let d := (f.hdr.ack + 1 + 1024 - (a.txNext + 1024 - a.replay.length % 1024) % 1024) % 1024
        let on := s.sideState k = 0 ∧ s.sideState j = 0 ∧ bits (s.getF (R.LNK_S_WIDTH.width k)) (2 * m + 1) (2 * m) ≠ 0
        let got := Tbl.get [] (s.side k).part f.hdr.vc ++ f.payload.take (8 * f.hdr.len8)
        let p : MeshPkt := { meshOf got with crossed := f.hdr.cls + 1, vc := f.hdr.vc }
        let whole := ringSize p ≤ got.length ∧ (fieldAt got 0 16 / 2 ^ 66) % 2 ^ 32 = p.data.length;
        (¬on ∨ s.edgeSent j m f = none → completes (.edgeFlitReceive k m f err) s fun t => untouched s t) ∧
        (on → ∀ s1, s.edgeSent j m f = some s1 →
          (edgeArrives f err = none → completes (.edgeFlitReceive k m f err) s fun t =>
            (t.edgeMod k m).nak = true ∧ (t.edgeMod k m).rxLast = a.rxLast ∧
            t.getF (R.LNK_S_CRC.count k) = satAdd (2 ^ 32 - 1) (s.getF (R.LNK_S_CRC.count k)) 1 ∧
            t = { s with regs := t.regs, sides := t.sides } ∧ sameRegsBut [R.LNK_S_CRC k] s t) ∧
          (∀ g, edgeArrives f err = some g → completes (.edgeFlitReceive k m f err) s fun t =>
            t.mem = s.mem ∧ (if g.hdr.seqd = true then
              (if g.hdr.seq = (a.rxLast + 1) % 1024 then (t.edgeMod k m).rxLast = g.hdr.seq ∧ (t.edgeMod k m).nak = false
                else (t.edgeMod k m).rxLast = a.rxLast ∧ (t.edgeMod k m).nak = true)
              else (t.edgeMod k m).rxLast = a.rxLast ∧ (t.edgeMod k m).nak = a.nak))) ∧
        (on → f.hdr.seqd = true → f.hdr.seq = b.txNext → (∀ g ∈ b.replay, g.2.hdr.seq ≠ f.hdr.seq) → b.replay.length < 512 → f.hdr.seq = (a.rxLast + 1) % 1024 →
          (f.hdr.crVc, f.hdr.crCls, f.hdr.crTotal) = s.edgeCount j → edgeHdrBad f.hdr = false → f.hdr.nak = false → d ≤ a.replay.length →
          (s.side k).parked = [] → (s.side k).ordIn = (s.side j).ordOut → ∀ x, s.edgeNext j f.hdr.vc = some x → s.edgeIsNext j m f x = true →
          completes (.edgeFlitReceive k m f 0) s fun t =>
            (t.edgeMod k m).replay = a.replay.drop d ∧ (t.edgeMod j m).replay = b.replay ++ [((s.side j).ordOut, f)] ∧
            (t.edgeMod j m).txNext = (b.txNext + 1) % 1024 ∧ (t.side k).ordIn = (s.side k).ordIn + 1 ∧
            (f.hdr.vc ≠ 0 → Tbl.get 0 (t.side j).sent i = (Tbl.get 0 (s.side j).sent i + 1) % 1024) ∧
            (¬whole → Tbl.get [] (t.side k).part f.hdr.vc = got ∧ t.mesh = s.mesh) ∧
            (whole → Tbl.get [] (t.side k).part f.hdr.vc = [] ∧ t.meshAt (k / 2) 9 = s.meshAt (k / 2) 9 ++ [⟨p, meshBeats p, 0, k + 1⟩]) ∧
            t = { s with regs := t.regs, sides := t.sides, mesh := t.mesh } ∧ sameRegsBut [] s t)) ∧
      (∀ m, m < 16 →
        let due := s.sideState k = 0 ∧ (s.edgeMod k m).replay ≠ [] ∧ (s.edgeMod k m).progressAt + 1000 ≤ s.now;
        (due → (s.edgeMod k m).replays < 8 → completes (.edgeReplayTimeout k m) s fun t =>
          t.edgeMod k m = { s.edgeMod k m with replays := (s.edgeMod k m).replays + 1, progressAt := s.now } ∧
          t.getF (R.LNK_S_REPLAYS.count k) = satAdd (2 ^ 32 - 1) (s.getF (R.LNK_S_REPLAYS.count k)) 1 ∧ t.isSet (R.LNK_S_FLAGS.replay k) = true ∧
          t = { s with regs := t.regs, sides := t.sides } ∧ sameRegsBut [R.LNK_S_REPLAYS k, R.LNK_S_FLAGS k] s t) ∧
        (due → 8 ≤ (s.edgeMod k m).replays → completes (.edgeReplayTimeout k m) s fun t =>
          t.sideState k = 1 ∧ (t.side k).since = s.now ∧ t = { s with regs := t.regs, sides := t.sides } ∧ sameRegsBut [R.LNK_S_STATUS k] s t) ∧
        (¬due → completes (.edgeReplayTimeout k m) s fun t => untouched s t)) ∧
      (∀ c ∈ [Instr.edgeRetrain k, .edgeFramingLoss k], completes c s fun t =>
        t.sideState k = (if s.sideState k = 0 then 1 else s.sideState k) ∧ (s.sideState k = 0 → (t.side k).since = s.now) ∧
        t = { s with regs := t.regs, sides := t.sides } ∧ sameRegsBut [R.LNK_S_STATUS k] s t) ∧
      (completes (.edgeFullRetrain k) s fun t =>
        t.sideState k = (if s.sideState k = 4 then 4 else 3) ∧ (s.sideState k ≠ 4 → (t.side k).since = s.now) ∧
        t = { s with regs := t.regs, sides := t.sides } ∧ sameRegsBut [R.LNK_S_STATUS k] s t) ∧
      (let due := (s.sideState k = 1 ∨ s.sideState k = 3) ∧ (s.side k).since + (if s.sideState k = 3 then 100000 else 20000) ≤ s.now;
        (due → s.getF (R.LNK_S_STATUS.attempts k) < 2 → completes (.edgeAttemptTimeout k) s fun t =>
          t.getF (R.LNK_S_STATUS.attempts k) = s.getF (R.LNK_S_STATUS.attempts k) + 1 ∧ t.sideState k = s.sideState k ∧ (t.side k).since = s.now ∧
          t = { s with regs := t.regs, sides := t.sides } ∧ sameRegsBut [R.LNK_S_STATUS k] s t) ∧
        (¬due → completes (.edgeAttemptTimeout k) s fun t => untouched s t) ∧
        (∀ c, (c = Instr.edgeAttemptTimeout k ∧ due ∧ 2 ≤ s.getF (R.LNK_S_STATUS.attempts k)) ∨ (c = .edgeRetire k ∧ s.sideState k ≠ 4) → completes c s fun t =>
          t.sideState k = 4 ∧ t.edgeRetired (sideEdge k) = true ∧ t.isSet (R.LNK_S_FLAGS.retired k) = true ∧ t.getBit R.GLB_INT_STATUS.cause 14 = true ∧
          (∀ h < 4, t.getBit (R.LNK_ROUTE.edges_retired h) (sideEdge k) = true) ∧
          (∀ m < 16, (t.edgeMod k m).replay = [] ∧ (t.edgeMod j m).replay = []) ∧ (t.side k).flow = [] ∧ (t.side j).flow = [] ∧
          (∀ u ∈ [k, j], ∀ x ∈ (s.side u).flow, x.pkt.chest ≠ u / 2 → x.pkt.chest < 4 →
            let r := t.routeOf (u / 2) x.pkt.chest
            if r = 3 then ∃ e ∈ t.meshAt (u / 2) 9, e.pkt = x.pkt else ∃ y ∈ (t.side (u / 2 * 2 + r - 1)).flow, y.pkt = x.pkt) ∧ t.mem = s.mem) ∧
        (s.sideState k = 4 → completes (.edgeRetire k) s fun t => untouched s t)) ∧
      (s.sideState k = 0 ∧ (s.side k).since + 1000000000 ≤ s.now → completes (.edgeStable k) s fun t => t.getF (R.LNK_S_STATUS.attempts k) = 0 ∧ t.sideState k = 0 ∧
        t = { s with regs := t.regs } ∧ sameRegsBut [R.LNK_S_STATUS k] s t) ∧
      (¬(s.sideState k = 0 ∧ (s.side k).since + 1000000000 ≤ s.now) → completes (.edgeStable k) s fun t => untouched s t) ∧
      (∀ m mask, m < 16 →
        ((s.edgeMod k m).lmask &&& mask ≠ (s.edgeMod k m).lmask → completes (.edgeLaneRepair k m mask) s fun t =>
          t.edgeMod k m = { s.edgeMod k m with lmask := (s.edgeMod k m).lmask &&& mask } ∧ t.sideState k = (if s.sideState k = 0 then 1 else s.sideState k) ∧
          t = { s with regs := t.regs, sides := t.sides } ∧ sameRegsBut [R.LNK_S_STATUS k] s t) ∧
        ((s.edgeMod k m).lmask &&& mask = (s.edgeMod k m).lmask → completes (.edgeLaneRepair k m mask) s fun t => untouched s t)) ∧
      (∀ ms,
        let trains := trainable (s.sideState k) = true ∧ trainable (s.sideState j) = true
        let at_ := fun (l : List Word64) (u m : Nat) => l.getD m 0xFFFFFFFFFFFFFFFF#64 &&& (s.edgeMod u m).lmask
        let v := widthVector (at_ ms.own k) (at_ ms.peerSent j)
        let w := widthVector (at_ ms.peer j) (at_ ms.sent k);
        (trains → completes (.edgeTrainingEnd k ms) s fun t =>
          (∀ m < 16, (t.edgeMod k m).lmask = at_ ms.own k m ∧ (t.edgeMod k m).rmask = at_ ms.peerSent j m) ∧
          (v ≠ w → t.isSet (R.LNK_S_FLAGS.width_disagree k) = true ∧ t.isSet (R.LNK_S_FLAGS.width_disagree j) = true ∧ t.getBit R.GLB_INT_STATUS.cause 14 = true) ∧
          (v ≠ w ∨ v = 0 → ∀ u ∈ [k, j],
            (s.getF (R.LNK_S_STATUS.attempts u) < 2 → t.getF (R.LNK_S_STATUS.attempts u) = s.getF (R.LNK_S_STATUS.attempts u) + 1 ∧
              t.sideState u = if v ≠ w then 2 else 1) ∧
            (2 ≤ s.getF (R.LNK_S_STATUS.attempts u) → t.sideState u = 4 ∧ t.edgeRetired (sideEdge k) = true)) ∧
          (v = w → v ≠ 0 → t.sideState k = 0 ∧ t.sideState j = 0 ∧ t.getF (R.LNK_S_WIDTH.width k) = v ∧ t.getF (R.LNK_S_WIDTH.width j) = w)) ∧
        (¬trains → completes (.edgeTrainingEnd k ms) s fun t => untouched s t)))

/-! ### Regulation (chapter 13) -/

/-- R373, R376-R382: a request has the class that its origin gives it; under an entry it leaves when the refilled cap bucket holds its bytes and none of its entry was issued before it, is
charged, and carries the level of its class; otherwise it is held in its place. R388, R389: the winner of an arbiter is the ready input of the highest level that comes first after the one
last granted at that level. R386: a scale factor that arrives at a port is the slice's. R390: a commit is refused with its code, waits for a boundary in steady timing, or
makes the shadow values active with full buckets. R392: starvation is reported once per episode, with the victim. A form that names nothing there is changes nothing. The queue that is
held at a port, and the operands of an arbiter, are the model's (log entries 71, 72).
The model's readings behind it: log entries 69, 71, 72 and 136. -/
def Obligations.Regulation : Prop :=
  ∀ s : State, s.up = true →
    (∀ q : PortReq, ¬(q.master < 256 ∧ q.chest < 4 ∧ q.slice < 9) → completes (.requestLeave q) s fun t => untouched s t) ∧
    (∀ q : PortReq, q.master < 256 → q.chest < 4 → q.slice < 9 →
      (∀ e, s.entryFor q = some e →
        let queue := Tbl.get [] s.qos.held q.master
        let first := ∀ r ∈ queue.takeWhile (fun r => !sameReq q r), s.entryFor r ≠ some e
        let down := fun (d : Int) (rate : Nat) => max 0 (d - (rate : Int) * ((s.now : Int) - Tbl.get 0 s.qos.at_ e.key))
        let cap := down (Tbl.get 0 s.qos.capDef e.key) (64 * e.cap)
        let lat := q.samples.foldl latencyStep (Tbl.get 0 s.qos.lat e.key)
        let level := if e.cls = 0 then 6 else if e.cls = 1 then 1 + urgency lat e.param else
          if e.cls = 2 then (if bucketHolds e.depth q.bytes (Tbl.get 0 (s.refill e).qos.minDef e.key) then 5 else 1) else 0
        let full := Tbl.get 0 (s.refill e).qos.minDef e.key
        let goes := (e.cap = 0 ∨ bucketHolds e.depth q.bytes cap = true) ∧ first
        completes (.requestLeave q) s fun t =>
          Tbl.get 0 t.qos.at_ e.key = s.now ∧ Tbl.get 0 t.qos.lat e.key = lat ∧
          (goes → t.out = s.out ++ [.stamped q e.cls level] ∧
            Tbl.get 0 t.qos.capDef e.key = (if e.cap = 0 then cap else cap + 64000 * (q.bytes : Int)) ∧
            Tbl.get 0 t.qos.minDef e.key = (if e.cls = 2 ∧ level = 5 then full + 64000 * (q.bytes : Int) else full) ∧
            Tbl.get [] t.qos.held q.master = queue.eraseP (sameReq q)) ∧
          (¬goes → t.out = s.out ∧ Tbl.get 0 t.qos.capDef e.key = cap ∧ Tbl.get 0 t.qos.minDef e.key = full ∧
            Tbl.get [] t.qos.held q.master = if queue.any (sameReq q) then queue else queue ++ [{ q with samples := [] }]) ∧
          t = { s with regs := t.regs, qos := t.qos, out := t.out } ∧ sameRegsBut [] s t)) ∧
    (∀ a : ArbReq, a.kind < 3 → a.chest < 4 → a.pos < 16 → a.res < 64 → a.free = true → a.ready ≠ [] →
      (∀ r ∈ a.ready, r.1 < 64 ∧ r.2.1 < 7) →
      completes (.arbiterGrant a) s fun t =>
        ∃ w ∈ a.ready, (∀ r ∈ a.ready, r.2.1 ≤ w.2.1) ∧
          (let last := Tbl.get 0 s.qos.granted (arbKey a * 8 + w.2.1)
           ∀ r ∈ a.ready, r.2.1 = w.2.1 → (last ≤ w.1 → r.1 < last ∨ w.1 ≤ r.1) ∧ (w.1 < last → r.1 < last ∧ w.1 ≤ r.1)) ∧
          t.out = s.out ++ [.granted (arbKey a) w.1] ∧ Tbl.get 0 t.qos.granted (arbKey a * 8 + w.2.1) = w.1 + 1 ∧
          t = { s with regs := t.regs, qos := t.qos, out := t.out } ∧ sameRegsBut [] s t) ∧
    (∀ a : ArbReq, ¬(a.kind < 3 ∧ a.chest < 4 ∧ a.pos < 16 ∧ a.res < 64 ∧ a.free = true ∧ ∀ r ∈ a.ready, r.1 < 64 ∧ r.2.1 < 7) ∨ a.ready = [] →
      completes (.arbiterGrant a) s fun t => untouched s t) ∧
    (∀ m i, ¬(m < 256 ∧ i < 36) → completes (.scaleFactorArrive m i) s fun t => untouched s t) ∧
    (∀ m i, m < 256 → i < 36 → completes (.scaleFactorArrive m i) s fun t =>
      t.portFactor m i = s.getF (R.QOS_SHORT.factor i) ∧ (∀ m' i', i' < 64 → (m', i') ≠ (m, i) → t.portFactor m' i' = s.portFactor m' i') ∧
      t = { s with regs := t.regs, qos := t.qos } ∧ sameRegsBut [] s t) ∧
    (∀ v, (v % 2 = 0 → completes (.qosCommit v) s fun t => untouched s t) ∧
      (v % 2 = 1 → s.qosRefused s.qosShadow ≠ 0 → completes (.qosCommit v) s fun t =>
        t.getF R.QOS_STATUS.refuse_code = s.qosRefused s.qosShadow ∧ t.isSet R.QOS_FLAGS.commit_refused = true ∧
        t = { s with regs := t.regs } ∧ sameRegsBut [R.QOS_STATUS, R.QOS_FLAGS] s t) ∧
      (v % 2 = 1 → s.qosRefused s.qosShadow = 0 → s.defers = true → completes (.qosCommit v) s fun t =>
        t.qos = { s.qos with pend := some s.qosShadow } ∧ t.getF R.QOS_STATUS.pending = 1 ∧ t = { s with regs := t.regs, qos := t.qos } ∧
        sameRegsBut [R.QOS_STATUS] s t) ∧
      (v % 2 = 1 → s.qosRefused s.qosShadow = 0 → s.defers = false → completes (.qosCommit v) s fun t =>
        t.qos = { s.qos with active := s.qosShadow, pend := none, capDef := [], minDef := [], at_ := [], lat := [] } ∧
        t.getF R.QOS_STATUS.pending = 0 ∧ s.lay = t.lay ∧ t.mem = s.mem)) ∧
    (∀ arb input,
      let w := Tbl.get (0, 0, 0) s.qos.waits (arb * 64 + input)
      (max 1 (s.getF R.QOS_STARVE_LIMIT.limit) < w.1 → Tbl.get false s.qos.episode (arb * 64 + input) = false →
        completes (.starvation arb input) s fun t =>
          t.getF R.QOS_STARVE_WHO.level = w.2.1 % 8 ∧ t.getF R.QOS_STARVE_WHO.master = w.2.2 % 256 ∧
          t.getF R.QOS_STARVE_WHO.kind = arb / 4096 % 4 ∧ t.getF R.QOS_STARVE_WHO.chest = arb / 1024 % 4 ∧ t.getF R.QOS_STARVE_WHO.position = arb / 64 % 16 ∧
          t.isSet R.QOS_FLAGS.starvation = true ∧ t.getBit R.GLB_INT_STATUS.cause 4 = true ∧
          Tbl.get false t.qos.episode (arb * 64 + input) = true) ∧
      (w.1 ≤ max 1 (s.getF R.QOS_STARVE_LIMIT.limit) ∨ Tbl.get false s.qos.episode (arb * 64 + input) = true →
        completes (.starvation arb input) s fun t => untouched s t))

/-- R377: a request of class L0, L1 or L2 that matches no entry travels at level 0, the level of L3, with no bucket, and QOS_UNMATCHED counts it up to its
maximum; one of class L3 travels at level 0 with no bucket and is not counted.
The model's readings behind it: log entry 136. -/
def Obligations.UnmatchedRequests : Prop :=
  ∀ (s : State) (q : PortReq), s.up = true → q.master < 256 → q.chest < 4 → q.slice < 9 → s.entryFor q = none →
    (s.classOf q ≠ 3 → completes (.requestLeave q) s fun t =>
      t.out = s.out ++ [.stamped q (s.classOf q) 0] ∧ t.qos = (s.unhold q).qos ∧ t.getF R.QOS_UNMATCHED.count = satAdd (2 ^ 32 - 1) (s.getF R.QOS_UNMATCHED.count) 1 ∧
      t = { s with regs := t.regs, out := t.out, qos := t.qos } ∧ sameRegsBut [R.QOS_UNMATCHED] s t) ∧
    (s.classOf q = 3 → completes (.requestLeave q) s fun t =>
      t = { s with regs := t.regs, out := s.out ++ [.stamped q 3 0], qos := (s.unhold q).qos } ∧ sameRegsBut [] s t)

/-! ### Power (chapter 18, R476-R491) -/

/-- R476, R480, R483-R488: power samples and their averages over a millisecond (the averaging window is the model's reading: log entry 60); what a model update shows; the
budget a chest grants itself; a message, and one that is missing; the package check; the mode, the cap and PWRBRK_N, whose active cap is always the least of what R483 and R485
name; Sprint windows, and one update of a chest's governor. A form whose chest, control core or time is not there changes nothing.
The model's readings behind it: log entries 60, 61, 62 and 63. -/
def Obligations.PowerManagement : Prop :=
  ∀ s : State,
    (s.up = true →
      (∀ pkg chests islands, completes (.powerSample pkg chests islands) s fun t =>
        let sum := fun k => Tbl.get 0 s.thm.pwrSum k + (if k = 4 then pkg else chests.getD k 0)
        (∀ k < 5, Tbl.get 0 t.thm.pwrNow k = if k = 4 then pkg else chests.getD k 0) ∧
        (s.thm.pwrN + 1 < 100 → t.thm.pwrN = s.thm.pwrN + 1 ∧ (∀ k < 5, Tbl.get 0 t.thm.pwrSum k = sum k) ∧ sameRegsBut [] s t) ∧
        (100 ≤ s.thm.pwrN + 1 → t.thm.pwrN = 0 ∧ t.getF R.PWR_PKG.power = min 4095 (sum 4 / 100000) ∧
          t.getF R.PWR_PKG.peak = max (s.getF R.PWR_PKG.peak) (min 4095 (sum 4 / 100000)) ∧
          ∀ c < 4, t.getF (R.CHS_POWER.power c) = min 4095 (sum c / 100000)) ∧
        t = { s with regs := t.regs, thm := t.thm }) ∧
      (s.floorOk 0 = true → completes .packageCheck s fun t =>
        let sum := Tbl.get 0 s.thm.pwrLast 4
        let total := (List.range 4).foldl (fun n c => n + s.getF (R.CHS_BUDGET.active c)) 0
        let excess := (sum + 99999) / 100000 - s.capActive
        let twice := s.capActive * 102000 < sum ∧ s.thm.overCap = 1
        t.thm = { s.thm with overCap := if s.capActive * 102000 < sum then 1 else 0 } ∧
        (∀ c < 4, t.getF (R.CHS_BUDGET.active c) =
          if twice then s.getF (R.CHS_BUDGET.active c) * (total - excess) / total else s.getF (R.CHS_BUDGET.active c)) ∧
        t = { s with regs := t.regs, thm := t.thm } ∧ sameRegsBut [R.CHS_BUDGET 0, R.CHS_BUDGET 1, R.CHS_BUDGET 2, R.CHS_BUDGET 3] s t) ∧
      (s.floorOk 0 = false → completes .packageCheck s fun t => untouched s t) ∧
      (∀ c md withheld d demand ceiling, ¬(c < 4 ∧ s.ccRuns (1 + c) = true) → ∀ i ∈ [Instr.thermalModelUpdate c md, .budgetExchange c withheld,
        .budgetMessage c d demand ceiling, .budgetMissing c d], completes i s fun t => untouched s t) ∧
      (∀ c, c < 4 → s.ccRuns (1 + c) = true →
        (∀ md : ModelOut, completes (.thermalModelUpdate c md) s fun t =>
          t.getF (R.CHS_POWER.ceiling c) = min 4095 md.ceiling ∧ t.getF (R.CHS_FORECAST.sensor c) = md.fcSensor % 128 ∧
          t.getF (R.CHS_FORECAST.temp c) = unsigned 12 md.fcTemp ∧
          ((md.model.map (·.1)).Nodup → ∀ e ∈ md.model, e.1 < 116 → t.getF (R.CHS_TEMP.model c e.1) = unsigned 16 e.2) ∧
          ((∀ k < 4, Tbl.get 0 s.thm.estimate k < 65536) → t.getF R.THM_RTH.estimate =
            (List.range 4).foldl (fun n k => max n (if k = c then min 65535 md.estimate else Tbl.get 0 s.thm.estimate k)) 0) ∧
          (md.crosses = true → s.defers = false → t.sprintOpen = false) ∧
          (md.crosses = true → s.defers = true → s.sprintOpen = true → t.thm.windowDue = some (false, true)) ∧ t.mem = s.mem) ∧
        (∀ withheld, completes (.budgetExchange c withheld) s fun t =>
          let m := (s.getF (R.CHS_POWER.power c) + withheld, s.getF (R.CHS_POWER.ceiling c))
          let level := waterLevel ((List.range 4).map (t.want c)) (s.capActive - s.floorPower)
          let cur := s.getF (R.CHS_BUDGET.budget c)
          t.out = s.out ++ [.budget c m.1 m.2] ∧ t.budgetOf c c = m ∧ (∀ d < 4, Tbl.get 0 t.thm.grants (c * 4 + d) = min (t.want c d) level) ∧
          t.getF (R.CHS_BUDGET.budget c) = min (min (t.want c c) level) (cur + cur / 10) ∧
          t.getF (R.CHS_BUDGET.active c) = t.getF (R.CHS_BUDGET.budget c) ∧
          t = { s with regs := t.regs, thm := t.thm, out := t.out } ∧ sameRegsBut [R.CHS_BUDGET c] s t) ∧
        (∀ d, d < 4 → c ≠ d →
          (∀ demand ceiling, completes (.budgetMessage c d demand ceiling) s fun t =>
            t.budgetOf c d = (demand, ceiling) ∧ Tbl.get 0 t.thm.msgAt (c * 4 + d) = s.now ∧ t = { s with regs := t.regs, thm := t.thm } ∧ sameRegsBut [] s t) ∧
          (Tbl.get 0 s.thm.msgAt (c * 4 + d) + 3000000 ≤ s.now → completes (.budgetMissing c d) s fun t =>
            t.budgetOf c d = (Tbl.get 0 s.thm.grants (c * 4 + d), 4095) ∧
            (s.pathTo0 c = true → t.getF R.ERR_SEQ.seq = (s.getF R.ERR_SEQ.seq + 1) % 2 ^ 32) ∧ sameRegsButNotes [] s t) ∧
          (s.now < Tbl.get 0 s.thm.msgAt (c * 4 + d) + 3000000 → completes (.budgetMissing c d) s fun t => untouched s t))) ∧
      (∀ v,
        let m := bits v 1 0
        (m = 3 ∨ (m = 1 ∧ s.licensed 0 = false) → completes (.pwrModeWrite v) s fun t =>
          t.isSet R.PWR_MODE.refused = true ∧ t.getF R.PWR_MODE.mode = s.getF R.PWR_MODE.mode ∧ t.getF R.PWR_MODE.mode_active = s.getF R.PWR_MODE.mode_active ∧
          t.getF R.PWR_MODE.steady = s.getF R.PWR_MODE.steady ∧ t = { s with regs := t.regs } ∧ sameRegsBut [R.PWR_MODE] s t) ∧
        (m ≠ 3 → (m = 1 → s.licensed 0 = true) → completes (.pwrModeWrite v) s fun t =>
          t.isSet R.PWR_MODE.refused = false ∧ t.getF R.PWR_MODE.mode = m ∧ t.isSet R.PWR_MODE.steady = bit v 4 ∧
          (s.defers = false → t.getF R.PWR_MODE.mode_active = m ∧ t.isSet R.PWR_MODE.steady_active = bit v 4 ∧ t.capActive = t.capNow ∧
            (m ≠ 1 → t.sprintOpen = false)) ∧
          (s.defers = true → t.getF R.PWR_MODE.mode_active = s.getF R.PWR_MODE.mode_active ∧ t.thm.modeDue = some (m, if bit v 4 then 1 else 0)))) ∧
      (∀ v, completes (.pwrCapWrite v) s fun t =>
        t.getF R.PWR_CAP.cap = v % 4096 ∧ t.capActive = t.capNow ∧ (t.capActive < 1400 → s.defers = false → t.sprintOpen = false)) ∧
      (∀ c high, (c, high) ∈ [(Instr.pwrbrkNAssert, false), (.pwrbrkNRelease, true)] → completes c s fun t =>
        t.pins = { s.pins with pwrbrkN := high } ∧ t.capActive = t.capNow ∧ (high = false → t.capActive ≤ 800) ∧
        (t.capActive < 1400 → s.defers = false → t.sprintOpen = false)) ∧
      (∀ early ms, s.sprintOpen = true → early = true ∨ s.thm.sprintAt + 250000000 ≤ s.now →
        let len := if early then min ms 250 else 250
        (s.defers = false → completes (.sprintWindowClose early ms) s fun t =>
          (0 < len → t.sprintOpen = false) ∧ t.getF R.PWR_SPRINT.last_ms = len ∧ t.thm.sprintPrev = len ∧ t.thm.sprintEnd = s.now ∧ t.capActive = t.capNow ∧
          t.getF R.PWR_SPRINT.cut = (if early then satAdd 255 (s.getF R.PWR_SPRINT.cut) 1 else s.getF R.PWR_SPRINT.cut)) ∧
        (s.defers = true → completes (.sprintWindowClose early ms) s fun t =>
          t.sprintOpen = true ∧ t.thm = { s.thm with windowDue := some (false, early) } ∧ sameRegsBut [] s t)) ∧
      (∀ early ms, ¬(s.sprintOpen = true ∧ (early = true ∨ s.thm.sprintAt + 250000000 ≤ s.now)) → completes (.sprintWindowClose early ms) s fun t => untouched s t) ∧
      (∀ c, ¬(c < 4 ∧ s.chestUp c = true ∧ s.floorOk c = true ∧ s.paused = false ∧ s.park.current = none) → completes (.governorUpdate c) s fun t => untouched s t) ∧
      (∀ c, c < 4 → s.chestUp c = true → s.floorOk c = true → s.paused = false → s.park.current = none →
        let l := s.govLoad c
        let g := govNext s.topRung s.now l.1 l.2 (Tbl.get (s.gov c) s.thm.govPend c)
        let waits := s.defers && !s.isSet (R.CHS_GOV.chest_fallback c)
        (waits = true → completes (.governorUpdate c) s fun t => t.gov c = s.gov c ∧ Tbl.get GovSt.absent t.thm.govPend c = g) ∧
        (waits = false → completes (.governorUpdate c) s fun t =>
          (s.sprintOpen = false ∨ 1200 < s.demandSum ∨ s.defers = true →
            t.gov c = g ∧ t.getF (R.CHS_GOV.duty c) = g.duty % 128 ∧ t.getF (R.CHS_GOV.aclk c) = g.aclk % 8) ∧
          (s.sprintMayOpen = true → s.defers = false → t.sprintOpen = true ∧ t.thm.sprintAt = s.now ∧
            t.getF R.PWR_SPRINT.windows = satAdd 65535 (s.getF R.PWR_SPRINT.windows) 1) ∧
          (s.sprintOpen = false → s.sprintMayOpen = false → t.sprintOpen = false) ∧
          (s.sprintOpen = true → t.sprintOpen = (decide (1200 < s.demandSum) || s.defers))))) ∧
    (s.up = false → ∀ c high, (c, high) ∈ [(Instr.pwrbrkNAssert, false), (.pwrbrkNRelease, true)] → completes c s fun t =>
      t.pins = { s.pins with pwrbrkN := high } ∧ t = { s with regs := t.regs, pins := t.pins } ∧ sameRegsBut [] s t)

/-! ### Sensors, cooling, the pause (chapter 18, R479-R482, R491-R499) -/

/-- R479, R481, R482, R491-R499: a conversion is shown; one out of range declares its sensor broken; over the hard limit its column or plinth falls back; a fast rise warns
or pauses; both sensors of a pair at 120 °C trip; a pair more than 5 °C apart disagrees; the end of a disagreement window; coolant values and their staleness; degraded
cooling; COOL_FAULT_N; the pause, its completion, a request held too long, and resumption. Each interval counts from what the rule names; before its end nothing changes.
The model's readings behind it: log entries 65, 66 and 68. -/
def Obligations.SensorsAndCooling : Prop :=
  ∀ s : State,
    (s.up = true →
      (∀ c i (x : SensorIn), s.sensorThere c i = true →
        let j := sensorPartner i
        let h := sensorSpot i
        completes (.sensorSample c i x) s fun t =>
          t.getF (R.CHS_TEMP.reading c i) = unsigned 16 x.reading ∧ t.mem = s.mem ∧
          (s.sensorBroken c i = true → t = { s with regs := t.regs, thm := t.thm } ∧ sameRegsBut [R.CHS_TEMP c i] s t) ∧
          Tbl.get 0 t.thm.convAt (sensorKey c i) = s.now ∧ (s.softLimit i ≤ x.reading → Tbl.get 0 t.thm.warmAt (sensorKey c i) = s.now) ∧
          (s.sensorBroken c i = false → x.reading < -200 ∨ 1500 < x.reading → t.sensorBroken c i = true ∧ t.isSet R.THM_FLAGS.broken = true) ∧
          (s.sensorBroken c i = false → -200 ≤ x.reading → x.reading ≤ 1500 →
            (hardLimit i < x.reading → s.sensorOver c i = false →
              (if i < 108 then t.columnFalls (c * 9 + sensorCol i) = true else t.isSet (R.CHS_GOV.chest_fallback c) = true) ∧
              t.isSet R.THM_FLAGS.over_limit = true) ∧
            (i < 72 → (x.reading - s.model c i).natAbs ≤ 80 →
              bits (t.getF (R.SLC_BANDS.band (c * 9 + i % 9))) (2 * (i / 9) + 1) (2 * (i / 9)) =
                nextBand (bits (s.getF (R.SLC_BANDS.band (c * 9 + i % 9))) (2 * (i / 9) + 1) (2 * (i / 9))) x.reading) ∧
            (72 ≤ i → i < 108 → 50 < x.rise2 → t.isSet R.THM_FLAGS.rise_warn = true) ∧
            (72 ≤ i → i < 108 → 300 < x.rise → t.isSet R.THM_FLAGS.rise_emerg = true ∧
              (s.paused = false → t.thm.pausing = true ∧ t.thm.pauseSensor = c * 116 + i ∧ t.thm.pauseAt = s.now)) ∧
            (72 ≤ i → s.sensorWorks c j = true → 1200 ≤ x.reading → 1200 ≤ s.reading c j → s.isSet R.THM_STATUS.tripped = false →
              t.isSet R.THM_STATUS.tripped = true ∧ t.pins.thermtrip = true ∧ t.paused = true) ∧
            (72 ≤ i → s.sensorWorks c j = true → 50 < (x.reading - s.reading c j).natAbs → s.disagrees c h = false →
              t.disagrees c h = true ∧ t.isSet R.THM_FLAGS.disagree = true))) ∧
      (∀ c i, s.sensorThere c i = true →
        (s.sensorBroken c i = false → Tbl.get 0 s.thm.convAt (sensorKey c i) + 1000000 ≤ s.now → completes (.sensorNoConversion c i) s fun t => t.sensorBroken c i = true ∧ t.isSet R.THM_FLAGS.broken = true ∧ t.mem = s.mem) ∧
        (s.sensorBroken c i = true ∨ s.now < Tbl.get 0 s.thm.convAt (sensorKey c i) + 1000000 → completes (.sensorNoConversion c i) s fun t => untouched s t) ∧
        let cool := fun j => s.reading c j < s.softLimit j ∧ Tbl.get 0 s.thm.warmAt (sensorKey c j) + 100000000 ≤ s.now
        let rests := cool i ∧ (i < 72 ∨ s.disagrees c (sensorSpot i) = false ∨ cool (sensorPartner i))
        (s.sensorOver c i = true → rests → completes (.fallbackRelease c i) s fun t =>
            t.sensorOver c i = false ∧ (∀ p < 9, t.columnFalls (c * 9 + p) = t.columnOver c p) ∧
            t.isSet (R.CHS_GOV.chest_fallback c) = t.chestOver c ∧ t.mem = s.mem) ∧
        (s.sensorOver c i = false ∨ ¬rests → completes (.fallbackRelease c i) s fun t => untouched s t)) ∧
      (∀ c i x, s.sensorThere c i = false → ∀ k ∈ [Instr.sensorSample c i x, .sensorNoConversion c i, .fallbackRelease c i], completes k s fun t => untouched s t) ∧
      (∀ c h, ¬(c < 4 ∧ h < 22 ∧ s.disagrees c h = true ∧ s.spotWorks c h = true ∧ Tbl.get 0 s.thm.winAt (spotKey c h) + 50000000 ≤ s.now) →
        completes (.disagreeWindowEnd c h) s fun t => untouched s t) ∧
      (∀ c h, c < 4 → h < 22 → s.disagrees c h = true → s.spotWorks c h = true → Tbl.get 0 s.thm.winAt (spotKey c h) + 50000000 ≤ s.now →
        let off := fun m => s.arbitrates c h = true ∧ s.windowOff c h m = true
        let bad := Tbl.get false s.thm.winBad (spotKey c h * 2)
        (off 0 ∨ off 1 → completes (.disagreeWindowEnd c h) s fun t => ∀ m < 2, off m → t.sensorBroken c (spotFirst h + m) = true) ∧
        (¬ off 0 → ¬ off 1 → s.spotDiffers c h = false → bad = false → completes (.disagreeWindowEnd c h) s fun t =>
          t.disagrees c h = false ∧ t = { s with regs := t.regs } ∧ sameRegsBut [R.CHS_DISAGREE c] s t) ∧
        (¬ off 0 → ¬ off 1 → s.spotDiffers c h = true ∨ bad = true → completes (.disagreeWindowEnd c h) s fun t =>
          t.disagrees c h = true ∧ t.arbitrates c h = s.spotDiffers c h ∧ t = { s with regs := t.regs, thm := t.thm } ∧ sameRegsBut [] s t)) ∧
      (∀ v, completes (.thmCoolantWrite v) s fun t =>
        t.getF R.THM_COOLANT.inlet = bits v 11 0 ∧ t.getF R.THM_COOLANT.flow = bits v 23 12 ∧ t.isSet R.THM_COOLANT.stale = false ∧
        t.isSet R.THM_STATUS.coolant_stale = false ∧ t = { s with regs := t.regs, thm := { s.thm with coolantAt := s.now } } ∧ sameRegsBut [R.THM_COOLANT, R.THM_STATUS] s t) ∧
      (s.isSet R.THM_COOLANT.stale = false → s.thm.coolantAt + 5000000000 ≤ s.now → completes .coolantStale s fun t =>
        t.isSet R.THM_COOLANT.stale = true ∧ t.isSet R.THM_STATUS.coolant_stale = true ∧ sameRegsButNotes [R.THM_COOLANT, R.THM_STATUS] s t) ∧
      (s.isSet R.THM_COOLANT.stale = true ∨ s.now < s.thm.coolantAt + 5000000000 → completes .coolantStale s fun t => untouched s t) ∧
      (let degrades := s.getF R.THM_RTH.limit ≠ 0 ∧ s.getF R.THM_RTH.limit < s.getF R.THM_RTH.estimate ∧ s.thm.rthOver ≠ 0 ∧
         s.thm.rthOver + 100000000 ≤ s.now + 1 ∧ s.isSet R.THM_STATUS.degraded = false;
       (degrades → completes .coolingDegraded s fun t => t.isSet R.THM_STATUS.degraded = true ∧ t.isSet R.THM_FLAGS.degraded = true ∧
         t.getBit R.GLB_INT_STATUS.cause 6 = true ∧ sameRegsButNotes [R.THM_STATUS, R.THM_FLAGS] s t) ∧
       (¬ degrades → completes .coolingDegraded s fun t => untouched s t)) ∧
      (let cold := s.getF R.THM_RTH.estimate < s.getF R.THM_RTH.limit ∧ s.thm.rthUnder ≠ 0 ∧ s.thm.rthUnder + 1000000000 ≤ s.now + 1;
       (cold → completes .coolingRecovered s fun t =>
         t.isSet R.THM_STATUS.degraded = false ∧ t = { s with regs := t.regs } ∧ sameRegsBut [R.THM_STATUS] s t) ∧
       (¬ cold → completes .coolingRecovered s fun t => untouched s t)) ∧
      (s.pins.coolFaultN = true → completes .coolFaultNAssert s fun t =>
        t.pins = { s.pins with coolFaultN := false } ∧ t.isSet R.THM_STATUS.cool_fault = true ∧ t.isSet R.THM_FLAGS.cool_fault = true ∧
        t.thm.stirAt = s.now ∧ (s.isSet R.THM_STATUS.paused = false → t.thm.pausing = true ∧ t.thm.pauseByPin = true)) ∧
      (s.pins.coolFaultN = false → completes .coolFaultNAssert s fun t => untouched s t) ∧
      (completes .coolFaultNRelease s fun t => t.pins = { s.pins with coolFaultN := true } ∧ t.isSet R.THM_STATUS.cool_fault = false ∧
        t = { s with regs := t.regs, pins := t.pins, thm := { s.thm with stirAt := s.now } } ∧ sameRegsBut [R.THM_STATUS] s t) ∧
      (s.thm.pausing = true → completes .pauseComplete s fun t =>
        t.isSet R.THM_STATUS.paused = true ∧ t.thm.pausing = false ∧ t.isSet R.THM_FLAGS.paused = true ∧ t.getBit R.GLB_INT_STATUS.cause 7 = true ∧
        ((∀ u < 36, (s.pup u).run = none ∧ (s.pup u).strays = 0) →
          t.mem = s.mem ∧ ∀ u < 36, s.chestUp (u / 9) = true → s.chestInReset (u / 9) = false → (t.slice u).selfRefresh = true)) ∧
      (s.thm.pausing = false → completes .pauseComplete s fun t => untouched s t) ∧
      (∀ q, s.thm.held.find? (fun (h : Nat × MemReq) => reqExternal h.2) = some q → q.1 + 5000000 ≤ s.now → completes .pausedRequestTimeout s fun t =>
        t.thm.held = s.thm.held.erase q ∧ (q.2.host = true → q.2.write = none → .abort (.host 0) q.2.addr ∈ t.out) ∧ t.mem = s.mem) ∧
      ((∀ q, s.thm.held.find? (fun (h : Nat × MemReq) => reqExternal h.2) = some q → s.now < q.1 + 5000000) → completes .pausedRequestTimeout s fun t => untouched s t) ∧
      (let resumes := s.isSet R.THM_STATUS.paused = true ∧ s.isSet R.THM_STATUS.resuming = false ∧ s.coolEnough = true ∧
         s.thm.stirAt + 100000000 ≤ s.now;
       let waits := s.runsEpochs = true ∧ s.lay.switchDue = false;
       (resumes → completes .resume s fun t =>
         (s.park.current = none → s.thm.held = [] →
           (∀ u < 36, s.chestUp (u / 9) = true → s.chestInReset (u / 9) = false → (t.slice u).selfRefresh = false) ∧ t.mem = s.mem) ∧
         (s.park.current = none → waits → t.thm.resumeDue = true ∧ t.isSet R.THM_STATUS.resuming = true ∧ t.isSet R.THM_STATUS.paused = true) ∧
         (s.park.current = none → s.thm.held = [] → ¬waits → t.isSet R.THM_STATUS.paused = false ∧ t.isSet R.THM_STATUS.resuming = false ∧ t.getBit R.GLB_INT_STATUS.cause 7 = true ∧
           ∀ k < 40, (t.gov k).duty = 32 ∧ (t.gov k).aclk = max s.topRung 3) ∧
         (∀ x, s.park.current = some x → s.thm.pauseAt + 1000000000 < s.now → Tbl.get 0 t.park.outcomes (parkKey x) = 3)) ∧
       (¬ resumes → completes .resume s fun t => untouched s t))) ∧
    (s.up = false → ∀ c high, (c, high) ∈ [(Instr.coolFaultNAssert, false), (.coolFaultNRelease, true)] → completes c s fun t =>
      t.pins = { s.pins with coolFaultN := high } ∧ t = { s with regs := t.regs, pins := t.pins } ∧ sameRegsBut [] s t)

/-! ### Parks, tokens, debug, JTAG (chapters 19, 20) -/

/-- R506-R511: a write of BST_CTRL parks the part or is refused with its code; the tests run kind by kind and end with the signed record in host memory; an excursion of the
supplies makes the running kind inconclusive. R523-R529: a token of a kind takes effect, or is refused with its code; the burn of an owner slot and the zeroing
before invasive debug end; the JTAG port.
The model's readings behind it: log entries 77, 78 and 99. -/
def Obligations.ParksTokensDebug : Prop :=
  ∀ s : State,
    (s.up = true →
      (∀ v (x : Supplies),
        let p := s.setF R.BST_CTRL.select (bits v 2 1)
        let chests := (List.range 4).filter (fun c => s.getBit R.GLB_BOOT_CTRL.chests c && s.chestUp c)
        let items := chests.flatMap (fun c => p.parkKinds.map (fun k => (c, k)))
        (bit v 0 = false → completes (.bstPark v x) s fun t => t.getF R.BST_CTRL.select = bits v 2 1 ∧ t = { s with regs := t.regs } ∧ sameRegsBut [R.BST_CTRL] s t) ∧
        (bit v 0 = true → p.parkRefusal x ≠ 0 → completes (.bstPark v x) s fun t =>
          t.getF R.BST_STATUS.refuse_code = p.parkRefusal x ∧ logged s t (s.entry 0xC 0 0x1A 2 false 0 (p.parkRefusal x * 256) 1) ∧ s.notesOnly t ∧
          sameRegsButNotes [R.BST_CTRL, R.BST_STATUS] s t) ∧
        (bit v 0 = true → p.parkRefusal x = 0 → completes (.bstPark v x) s fun t =>
          t.mem = [] ∧ t.memLost ≠ 0 ∧ t.lines = [] ∧ t.park.off = true ∧ t.getF R.GLB_SERVICE.tier = 1 ∧ t.getF R.GLB_SERVICE.chest_usable = 0 ∧
          t.park.current = items.head? ∧ t.park.todo = items.tail ∧ t.getF R.BST_STATUS.state = (if items = [] then 3 else 1) ∧ t.park.outcomes = [] ∧
          t.park.parkTime = s.stamp.1)) ∧
      (∀ fails chans cores lost, ∀ x, s.park.current = some x →
        (s.paused = true → completes (.parkTestEnd fails chans cores lost) s fun t => untouched s t) ∧
        (s.paused = false → completes (.parkTestEnd fails chans cores lost) s fun t =>
          Tbl.get 0 t.park.outcomes (x.1 * 4 + x.2) = (if fails = 0 then 1 else 2) ∧ Tbl.get 0 t.park.counts (x.1 * 4 + x.2) = fails % 2 ^ 32 ∧
          (fails ≠ 0 → t.isSet R.BST_FLAGS.item_fail = true) ∧ t.mem = s.mem ∧
          (∀ y rest, s.park.todo = y :: rest → t.park.current = some y ∧ t.park.todo = rest ∧ t.getF R.BST_STATUS.state = 1 ∧
            t.getF R.BST_STATUS.chest = y.1 % 4 ∧ t.getF R.BST_STATUS.kind = y.2 % 4 ∧ t.out = s.out) ∧
          (s.park.todo = [] → t.park.current = none ∧ t.getF R.BST_STATUS.kind = 0 ∧ t.getF R.BST_STATUS.state = (if lost then 4 else 3) ∧
            (lost = true → t.out = s.out) ∧ (lost = false → t.getBit R.GLB_INT_STATUS.cause 1 = true ∧
              ∃ b : List Byte, .hostWrite (s.getPair R.BST_DST_LO) b ∈ t.out ∧ t.getF R.BST_REC_LEN.units = b.length / 64 % 2 ^ 18 ∧
                b.drop (b.length - 64) = deviceSign (b.take (b.length - 64)))))) ∧
      (∀ x, s.suppliesOk x = false → ∀ y, s.park.current = some y → completes (.supplySample x) s fun t =>
        Tbl.get 0 t.park.outcomes (y.1 * 4 + y.2) = 3 ∧ t.isSet R.BST_FLAGS.excursion = true ∧ t.mem = s.mem) ∧
      (∀ x, s.suppliesOk x = true ∨ s.park.current = none → completes (.supplySample x) s fun t => untouched s t) ∧
      (s.park.current = none → ∀ fails chans cores lost, completes (.parkTestEnd fails chans cores lost) s fun t => untouched s t) ∧
      (let b := s.token
       (∀ (x : Supplies) c kind ok, (c, kind, ok) ∈ [(Instr.tokenRegisterOwnerKey x, 1, s.suppliesOk x), (.tokenRevokeOwnerKey x, 2, s.suppliesOk x),
            (.tokenDebugUnlock, 3, true)] →
          (tokKnown b = false ∨ tokKind b ≠ kind → completes c s fun t => untouched s t) ∧
          (tokKnown b = true → tokKind b = kind → completes c s fun t =>
            t.getF R.SEC_STATUS.refuse_code = s.tokenRefusal b ok ∧
            (s.tokenRefusal b ok ≠ 0 → t.isSet R.SEC_FLAGS.refused = true ∧ t = { s with regs := t.regs } ∧ sameRegsBut [R.SEC_STATUS, R.SEC_FLAGS] s t) ∧
            (s.tokenRefusal b ok = 0 → kind < 3 → t.isSet R.SEC_STATUS.busy = true ∧
              t.sec = { s.sec with burn := some (kind, tokSlot b, BitVec.ofNat 256 (fieldAt b 0x40 32)) } ∧
              t = { s with regs := t.regs, sec := t.sec } ∧ sameRegsBut [R.SEC_STATUS] s t) ∧
            (s.tokenRefusal b ok = 0 → kind = 3 →
              (bit (tokScope b) 0 = true → t.isSet R.SEC_STATUS.non_invasive = true ∧ t.isSet R.SEC_FLAGS.debug_opened = true) ∧
              (bit (tokScope b) 1 = true → t.isSet R.SEC_STATUS.busy = true ∧ t.sec.zeroing = true) ∧
              t = { s with regs := t.regs, sec := t.sec } ∧ sameRegsBut [R.SEC_STATUS, R.SEC_FLAGS] s t))) ∧
       (tokKnown b = true → completes .tokenRefusedKind s fun t => untouched s t) ∧
       (tokKnown b = false → completes .tokenRefusedKind s fun t =>
         t.getF R.SEC_STATUS.refuse_code = (if s.isSet R.SEC_STATUS.busy then 1 else 2) ∧ t.isSet R.SEC_FLAGS.refused = true ∧
         t = { s with regs := t.regs } ∧ sameRegsBut [R.SEC_STATUS, R.SEC_FLAGS] s t)) ∧
      (∀ ok,
        (s.sec.burn = none → completes (.fuseBurnEnd ok) s fun t => untouched s t) ∧
        (∀ kind slot key, s.sec.burn = some (kind, slot, key) → completes (.fuseBurnEnd ok) s fun t =>
          t.sec = { s.sec with burn := none } ∧ t.ownerState slot = (if ok then kind else 3) ∧ (∀ k, k ≠ slot → t.ownerState k = s.ownerState k) ∧
          (∀ k, Tbl.get 0 t.fuse.ownerKey k = if ok = true ∧ kind = 1 ∧ k = slot then key else Tbl.get 0 s.fuse.ownerKey k) ∧
          t.isSet R.SEC_STATUS.busy = false ∧ t.isSet R.SEC_FLAGS.fuse_written = true ∧
          t.getF R.SEC_STATUS.refuse_code = (if ok then s.getF R.SEC_STATUS.refuse_code else 8) ∧
          t = { s with regs := t.regs, sec := t.sec, fuse := t.fuse } ∧ sameRegsBut [R.SEC_STATUS, R.SEC_FLAGS] s t)) ∧
      (s.sec.zeroing = false → completes .debugZeroEnd s fun t => untouched s t) ∧
      (s.sec.zeroing = true → completes .debugZeroEnd s fun t =>
        (∀ a, t.rdByte a = 0#8) ∧ t.bad = [] ∧ t.lines = [] ∧ t.journal = [] ∧ (∀ u a, tileByte (t.core u) a = 0#8) ∧
        (∀ e ∈ t.slots, ∃ e' ∈ s.slots, e = (e'.1, slotCleared e'.2)) ∧
        t.sec = { s.sec with zeroing := false } ∧ t.isSet R.SEC_STATUS.invasive = true ∧ t.isSet R.SEC_STATUS.busy = false ∧
        t.isSet R.SEC_FLAGS.debug_opened = true ∧ sameRegsBut [R.SEC_STATUS, R.SEC_FLAGS] s t)) ∧
    (∀ ir c j, (c, j) ∈ [(Instr.jtagBypass, Jtag.bypass), (.jtagIdcode, .idcode), (.jtagSamplePreload, .sample),
        (.jtagExtest, if s.pins.perstN then .bypass else .extest), (.jtagClamp, if s.pins.perstN then .bypass else .clamp),
        (.jtagPrivate ir, if s.up && s.isSet R.SEC_STATUS.invasive then .priv ir else .bypass)] →
      (s.pins.vio = false → completes c s fun t => untouched s t) ∧
      (s.pins.vio = true → completes c s fun t =>
        t.jtag = j ∧ (j = .bypass ∨ j = .clamp → t.out = s.out ++ [.jtag 0 0]) ∧ (j = .idcode → t.out = s.out ++ [.jtag 1 s.fuse.idcode]) ∧
        (j = .sample ∨ j = .extest → ∃ v, t.out = s.out ++ [.jtag 2 v]) ∧ (j = .priv ir → ∃ v, t.out = s.out ++ [.jtag 3 v]) ∧
        t = { s with regs := t.regs, jtag := j, out := t.out, fresh := t.fresh } ∧ sameRegsBut [] s t))

/-! ### SPDM and IDE keys (chapter 20) -/

/-- R518, R520, R532-R534: requests come in the order of a connection and any other is answered with an error; the certificate chain is read in portions; measurements carry
what Table 20-7 names; four sessions at most, opened, finished, kept alive, rekeyed and ended; an unlisted request is unsupported; an IDE_KM message in a session programs
a key and puts a key set in or out of use. The codes and the bodies the spec does not spell out are the model's (log entries 75 and 76).
The model's readings behind it: log entry 73. -/
def Obligations.SpdmAndIde : Prop :=
  ∀ s : State, s.up = true →
    let rsp := fun (code p1 p2 : Nat) (body : List Byte) =>
      OutEvent.spdm code ([0x12, BitVec.ofNat 8 code, BitVec.ofNat 8 p1, BitVec.ofNat 8 p2] ++ body)
    let only := fun (t : State) (l : List OutEvent) => t.out = s.out ++ l ∧ t = { s with regs := t.regs, out := t.out, sec := t.sec, fresh := t.fresh }
    (completes .getVersion s fun t => t.sec = { s.sec with conn := 1 } ∧ only t [.spdm 4 [0x10, 4, 0, 0, 0, 1, 0x00, 0x12]] ∧ sameRegsBut [] s t) ∧
    (∀ code, completes (.spdmUnsupported code) s fun t => t.sec = s.sec ∧ only t [rsp 0x7F 7 (code % 256) []] ∧ sameRegsBut [] s t) ∧
    (∀ b slot off len nonce c stage, (c, stage) ∈ [(Instr.getCapabilities, 1), (.negotiateAlgorithms b, 2), (.getDigests, 3),
        (.getCertificate slot off len, 3), (.challenge slot nonce, 3), (.getMeasurements slot b nonce, 3), (.keyExchange slot, 3)] → s.sec.conn < stage →
      completes c s fun t => t.sec = s.sec ∧ only t [rsp 0x7F 4 0 []] ∧ sameRegsBut [] s t) ∧
    (1 ≤ s.sec.conn → completes .getCapabilities s fun t => t.sec = { s.sec with conn := 2 } ∧ (∃ b, only t [rsp 0x61 0 0 b]) ∧ sameRegsBut [] s t) ∧
    (2 ≤ s.sec.conn →
      (completes (.negotiateAlgorithms true) s fun t => t.sec = { s.sec with conn := 3 } ∧ (∃ b, only t [rsp 0x63 0 0 b]) ∧ sameRegsBut [] s t) ∧
      (completes (.negotiateAlgorithms false) s fun t => t.sec = s.sec ∧ only t [rsp 0x7F 1 0 []] ∧ sameRegsBut [] s t)) ∧
    (3 ≤ s.sec.conn →
      (completes .getDigests s fun t => t.sec = s.sec ∧ only t [rsp 1 0 1 (digestBytes Config.certChain)] ∧ sameRegsBut [] s t) ∧
      (∀ slot off len, completes (.getCertificate slot off len) s fun t =>
        let part := (Config.certChain.drop off).take len
        t.sec = s.sec ∧ sameRegsBut [] s t ∧
        only t [if slot ≠ 0 ∨ Config.certChain.length < off then rsp 0x7F 1 0 []
          else rsp 2 0 0 (leBytes 2 part.length ++ leBytes 2 (Config.certChain.length - off - part.length) ++ part)]) ∧
      (∀ slot nonce,
        (slot ≠ 0 → completes (.challenge slot nonce) s fun t => t.sec = s.sec ∧ only t [rsp 0x7F 1 0 []] ∧ sameRegsBut [] s t) ∧
        (slot = 0 → completes (.challenge slot nonce) s fun t => t.sec = s.sec ∧ sameRegsBut [] s t ∧
          ∃ b, only t [rsp 3 0 1 (digestBytes Config.certChain ++ b ++ deviceSign (nonce ++ (digestBytes Config.certChain ++ b)))])) ∧
      (∀ i signed nonce,
        let blocks := (if i = 0 then [] else if i = 0xFF then [1, 2, 3, 4, 5, 6] else [i]).flatMap s.measurementBlock
        let body := leBytes 1 (if i = 0 then 0 else if i = 0xFF then 6 else 1) ++ leBytes 3 blocks.length ++ blocks
        (6 < i → i ≠ 0xFF → completes (.getMeasurements i signed nonce) s fun t => t.sec = s.sec ∧ only t [rsp 0x7F 1 0 []] ∧ sameRegsBut [] s t) ∧
        (i ≤ 6 ∨ i = 0xFF → completes (.getMeasurements i signed nonce) s fun t => t.sec = s.sec ∧ sameRegsBut [] s t ∧
          ∃ b, only t [rsp 0x60 (if i = 0 then 6 else 0) 0 (body ++ b ++ (if signed then deviceSign (nonce ++ (body ++ b)) else []))])) ∧
      (∀ slot, slot ≠ 0 → completes (.keyExchange slot) s fun t => t.sec = s.sec ∧ only t [rsp 0x7F 1 0 []] ∧ sameRegsBut [] s t) ∧
      (4 ≤ s.sec.sessions.length → completes (.keyExchange 0) s fun t => t.sec = s.sec ∧ only t [rsp 0x7F 0xA 4 []] ∧ sameRegsBut [] s t) ∧
      (s.sec.sessions.length < 4 → completes (.keyExchange 0) s fun t =>
        t.sec = { s.sec with nextSession := s.sec.nextSession + 1, sessions := s.sec.sessions ++ [(s.sec.nextSession, false, 0)] } ∧
        t.getF R.SEC_SPDM.sessions = s.sec.sessions.length + 1 ∧ sameRegsBut [R.SEC_SPDM] s t ∧
        ∃ b, only t [rsp 0x64 0 0 (leBytes 2 s.sec.nextSession ++ b ++ deviceSign (leBytes 2 s.sec.nextSession ++ b))])) ∧
    (∀ id ok, s.inSession id false = false → completes (.finishSpdm id ok) s fun t => t.sec = s.sec ∧ only t [rsp 0x7F 2 0 []] ∧ sameRegsBut [] s t) ∧
    (∀ id, s.inSession id false = true → s.sec.sessions.length ≤ 4 →
      (completes (.finishSpdm id true) s fun t =>
        t.sec = { s.sec with sessions := s.sec.sessions.map (fun x => if x.1 = id then (x.1, true, x.2.2) else x) } ∧ (∃ b, only t [rsp 0x65 0 0 b]) ∧
        t.getF R.SEC_SPDM.sessions = s.sec.sessions.length ∧ sameRegsBut [R.SEC_SPDM] s t) ∧
      (completes (.finishSpdm id false) s fun t =>
        t.sec = { s.sec with sessions := s.sec.sessions.filter (fun x => x.1 != id) } ∧ only t [rsp 0x7F 6 0 []] ∧
        t.getF R.SEC_SPDM.sessions = t.sec.sessions.length ∧ sameRegsBut [R.SEC_SPDM] s t)) ∧
    (∀ id, s.inSession id true = false → ∀ c ∈ [Instr.spdmHeartbeat id, .keyUpdate id, .endSession id], completes c s fun t =>
      t.sec = s.sec ∧ only t [rsp 0x7F 2 0 []] ∧ sameRegsBut [] s t) ∧
    (∀ id, s.inSession id true = true → s.sec.sessions.length ≤ 4 →
      (completes (.spdmHeartbeat id) s fun t => t.sec = s.sec ∧ only t [rsp 0x68 0 0 []] ∧ sameRegsBut [] s t) ∧
      (completes (.keyUpdate id) s fun t =>
        t.sec = { s.sec with sessions := s.sec.sessions.map (fun x => if x.1 = id then (x.1, x.2.1, x.2.2 + 1) else x) } ∧
        (∃ b, only t [rsp 0x69 0 0 b]) ∧ sameRegsBut [R.SEC_SPDM] s t) ∧
      (completes (.endSession id) s fun t =>
        t.sec = { s.sec with sessions := s.sec.sessions.filter (fun x => x.1 != id) } ∧ only t [rsp 0x6C 0 0 []] ∧
        t.getF R.SEC_SPDM.sessions = t.sec.sessions.length ∧ sameRegsBut [R.SEC_SPDM] s t) ∧
      (∀ stream msg sub set key, stream < 4 → sub < 3 → set < 2 → completes (.ideKm id stream msg sub set key) s fun t =>
        let was := Tbl.get IdeSt.zero s.sec.ide stream
        let now := Tbl.get IdeSt.zero t.sec.ide stream
        (∀ k, Tbl.get 0 now.keys k = if msg = 0 ∧ k = sub * 2 + set then key else Tbl.get 0 was.keys k) ∧
        (∀ j, Tbl.get 0 now.active j = if msg = 1 ∧ j = sub then set + 1
          else if msg = 2 ∧ j = sub ∧ Tbl.get 0 was.active sub = set + 1 then 0 else Tbl.get 0 was.active j) ∧
        (∀ r, r ≠ stream → Tbl.get IdeSt.zero t.sec.ide r = Tbl.get IdeSt.zero s.sec.ide r) ∧
        (t.getBit R.SEC_SPDM.ide_streams stream = true ↔ ∀ j < 3, Tbl.get 0 now.active j ≠ 0) ∧
        t = { s with regs := t.regs, sec := t.sec } ∧ sameRegsBut [R.SEC_SPDM] s t)) ∧
    (∀ id stream msg sub set key, s.inSession id true = false ∨ 4 ≤ stream ∨ 3 ≤ sub ∨ 2 ≤ set →
      completes (.ideKm id stream msg sub set key) s fun t => untouched s t)

/-! ### Reset values and service tiers (chapters 1, 16) -/

/-- The Reset values that the register tables state, in the state right after a whole-device reset: management tier with no usable chest (Table 1-10), bring-up step 1 done
(Table 16-10), no takeover (GLB_CHEST_MAP), duty 64 and a drained array in every core, slices offline, the error and row thresholds, fabric ports 0-3 enabled and licensed with
every lane good, the regulation defaults, both caps at 1,200 W; nothing waits, runs or is logged.
The model's readings behind it: log entries 47, 53 and 101. -/
def Obligations.ResetValues : Prop :=
  let s := State.reset
  s.up = true ∧ s.pending = [] ∧ s.journal = [] ∧ s.mem = [] ∧ s.lay = LaySt.zero ∧ s.log.ring = [] ∧ s.trays = [] ∧
  s.getF R.GLB_SERVICE.tier = 1 ∧ s.getF R.GLB_SERVICE.chest_usable = 0 ∧ s.getF R.GLB_BOOT_STATUS.steps = 2 ∧ s.stepState 1 = 2 ∧ s.layState = 0 ∧
  (∀ c < 4, s.getF (R.GLB_CHEST_MAP.takeover_logical c) = 0xF) ∧
  (∀ u < 36, s.getF (R.COR_ARR_DUTY.duty u) = 0x40 ∧ s.getF (R.COR_ARR_DUTY.duty_active u) = 0x40 ∧ s.isSet (R.COR_ARR_STATUS.drained u) = true ∧
    s.isSet (R.SLC_STATUS.offline u) = true ∧ s.getF (R.SLC_CH_CTRL.ce_thresh u) = 1000 ∧
    s.getF (R.SLC_ROW.row_thresh u) = 8) ∧
  (∀ p < 8, s.getF (R.PZL_P_STATUS.local_good p) = 0xFF ∧ s.isSet (R.PZL_P_CTRL.enable p) = decide (p < 4) ∧
    s.isSet (R.PZL_P_STATUS.licensed p) = decide (p < 4) ∧ s.getF (R.PZL_P_STATUS.state p) = 0) ∧
  s.getF R.QOS_STARVE_LIMIT.limit = 0x1000 ∧ (∀ i < 36, s.getF (R.QOS_SHORT.factor i) = 256) ∧
  s.getF R.PWR_CAP.cap = 1200 ∧ s.getF R.PWR_CAP.cap_active = 1200

/-- R32, R33, R439: when a bring-up step ends, GLB_SERVICE reports the highest tier of Table 1-9 whose conditions hold and which chests are usable (none while a park or a
brown-out keeps the part at management, the model's reading: log entry 40); any change is logged as event 0x18 and raises cause 2. -/
def Obligations.ServiceTiers : Prop :=
  ∀ (s : State) (timeUs k : Nat), s.up = true → k < 7 → s.stepState k = 1 → (∀ j < k, s.stepState j ≠ 1) →
    completes (.bootStepEnd timeUs) s fun t =>
      let serves := fun c => t.chestUsable c && !(s.park.off || s.pins.brownOut)
      let full := (∀ c < 4, serves c = true) ∧ (∀ id < 32, t.present (id / 8) (id % 8) = true) ∧ (∀ u < 36, t.getF (R.SLC_STATUS.state u) < 2) ∧
        ∀ e < 4, t.edgeUp e = true
      let tier := t.getF R.GLB_SERVICE.tier
      (∀ c < 4, t.getBit R.GLB_SERVICE.chest_usable c = serves c) ∧
      ((∀ c < 4, serves c = false) → tier = 1) ∧ ((∃ c < 4, serves c = true) → ¬ full → tier = 2) ∧ (full → tier = 3) ∧
      (t.getW R.GLB_SERVICE ≠ s.getW R.GLB_SERVICE → logged s t (s.entry 0xC 0 0x18 (if tier < s.getF R.GLB_SERVICE.tier then 1 else 0) false 0
        (s.getF R.GLB_SERVICE.tier + tier * 4 + t.getF R.GLB_SERVICE.chest_usable * 16) 1)) ∧
      (t.getW R.GLB_SERVICE ≠ s.getW R.GLB_SERVICE → t.getBit R.GLB_INT_STATUS.cause 2 = true)
end

