-- ==== Sys2Proof/Laws/Tbl.lean ====
section
/-!
SUPPORT. Reading after writing a sparse table, and the canonical form every table operation keeps.
-/

namespace Sys2Proof

variable {α : Type}

@[simp] theorem Tbl.get_nil (d : α) (i : Nat) : Tbl.get d [] i = d := rfl

theorem Tbl.get_insert (d v : α) (t : Tbl α) (i j : Nat) (h : i ∉ t.map Prod.fst) :
    Tbl.get d (Tbl.insert i v t) j = if j = i then v else Tbl.get d t j := by
  induction t with
  | nil => simp [Tbl.insert, Tbl.get]
  | cons p t ih =>
    obtain ⟨k, w⟩ := p
    simp only [List.map_cons, List.mem_cons, not_or] at h
    unfold Tbl.insert
    split
    · simp [Tbl.get]
    · by_cases hj : j = k
      · have : j ≠ i := fun e => h.1 (e.symm.trans hj)
        simp [Tbl.get, hj, Ne.symm h.1]
      · simp [Tbl.get, hj, ih h.2]

theorem Tbl.get_filter_ne (d : α) (t : Tbl α) (i j : Nat) :
    Tbl.get d (t.filter (fun p => p.1 != i)) j = if j = i then d else Tbl.get d t j := by
  induction t with
  | nil => simp [Tbl.get]
  | cons p t ih =>
    obtain ⟨k, w⟩ := p
    by_cases hk : k = i
    · subst hk
      by_cases hj : j = k <;> simp_all [Tbl.get]
    · by_cases hj : j = i
      · subst hj
        simp_all [Tbl.get, Ne.symm hk]
      · simp_all [Tbl.get]

theorem Tbl.filter_ne_not_mem (t : Tbl α) (i : Nat) : i ∉ (t.filter (fun p => p.1 != i)).map Prod.fst := by
  simp

/-- A read after a write. -/
theorem Tbl.get_set [DecidableEq α] (d v : α) (t : Tbl α) (i j : Nat) :
    Tbl.get d (Tbl.set d t i v) j = if j = i then v else Tbl.get d t j := by
  unfold Tbl.set
  by_cases hv : v = d
  · simp [hv, Tbl.get_filter_ne]
  · simp only [hv, if_false]
    rw [Tbl.get_insert _ _ _ _ _ (Tbl.filter_ne_not_mem t i)]
    by_cases hj : j = i <;> simp [hj, Tbl.get_filter_ne]

@[simp] theorem Tbl.get_set_same [DecidableEq α] (d v : α) (t : Tbl α) (i : Nat) :
    Tbl.get d (Tbl.set d t i v) i = v := by simp [Tbl.get_set]

theorem Tbl.get_set_ne [DecidableEq α] (d v : α) (t : Tbl α) {i j : Nat} (h : j ≠ i) :
    Tbl.get d (Tbl.set d t i v) j = Tbl.get d t j := by simp [Tbl.get_set, h]

/-- A read under one unlisted value after a write under another, of a different key: tables whose unlisted value depends on
the key. -/
theorem Tbl.get_set_ne' [DecidableEq α] (d e v : α) (t : Tbl α) {i j : Nat} (h : j ≠ i) :
    Tbl.get d (Tbl.set e t i v) j = Tbl.get d t j := by
  unfold Tbl.set
  by_cases hv : v = e
  · simp [hv, Tbl.get_filter_ne, h]
  · simp only [hv, if_false]
    rw [Tbl.get_insert _ _ _ _ _ (Tbl.filter_ne_not_mem t i)]
    simp [h, Tbl.get_filter_ne]

@[simp] theorem Tbl.get_modify [DecidableEq α] (d : α) (t : Tbl α) (i j : Nat) (f : α → α) :
    Tbl.get d (Tbl.modify d t i f) j = if j = i then f (Tbl.get d t i) else Tbl.get d t j := by
  simp [Tbl.modify, Tbl.get_set]

theorem Tbl.get_keep (d : α) (t : Tbl α) (p : Nat → Bool) (j : Nat) :
    Tbl.get d (Tbl.keep t p) j = if p j then Tbl.get d t j else d := by
  induction t with
  | nil => simp [Tbl.keep, Tbl.get]
  | cons e t ih =>
    obtain ⟨k, w⟩ := e
    unfold Tbl.keep at ih ⊢
    by_cases hk : p k <;> by_cases hj : j = k <;> simp_all [Tbl.get]

theorem Tbl.get_setList [DecidableEq α] (d : α) (vs : List α) : ∀ (t : Tbl α) (a j : Nat),
    Tbl.get d (Tbl.setList d t a vs) j = if a ≤ j ∧ j < a + vs.length then vs.getD (j - a) d else Tbl.get d t j := by
  induction vs with
  | nil =>
    intro t a j
    have h : ¬(a ≤ j ∧ j < a + ([] : List α).length) := by simp only [List.length_nil]; omega
    rw [if_neg h]
    rfl
  | cons v vs ih =>
    intro t a j
    simp only [Tbl.setList, ih, Tbl.get_set, List.length_cons]
    by_cases hj : j = a
    · rw [if_neg (by omega), if_pos hj, if_pos (by omega), hj, Nat.sub_self]
      rfl
    · rw [if_neg hj]
      by_cases h1 : a + 1 ≤ j ∧ j < a + 1 + vs.length
      · have h3 : j - a = (j - (a + 1)) + 1 := by omega
        rw [if_pos h1, if_pos (by omega), h3]
        rfl
      · rw [if_neg h1, if_neg (by omega)]

/-! ### The canonical form -/

theorem Tbl.mem_insert (i : Nat) (v : α) (t : Tbl α) (p : Nat × α) :
    p ∈ Tbl.insert i v t ↔ p = (i, v) ∨ p ∈ t := by
  induction t with
  | nil => simp [Tbl.insert]
  | cons q t ih =>
    obtain ⟨k, w⟩ := q
    unfold Tbl.insert
    split
    · simp
    · simp only [List.mem_cons, ih]
      exact or_left_comm

theorem Tbl.wf_filter (d : α) (t : Tbl α) (p : Nat × α → Bool) (h : Tbl.wf d t) : Tbl.wf d (t.filter p) :=
  ⟨h.1.filter p, fun q hq => h.2 q ((List.mem_filter.mp hq).1)⟩

theorem Tbl.insert_sorted (i : Nat) (v : α) (t : Tbl α) (h : t.Pairwise (fun p q => p.1 < q.1))
    (hi : i ∉ t.map Prod.fst) : (Tbl.insert i v t).Pairwise (fun p q => p.1 < q.1) := by
  induction t with
  | nil => simp [Tbl.insert]
  | cons q t ih =>
    obtain ⟨k, w⟩ := q
    simp only [List.map_cons, List.mem_cons, not_or] at hi
    rw [List.pairwise_cons] at h
    unfold Tbl.insert
    split
    · rename_i hlt
      refine List.Pairwise.cons ?_ (List.Pairwise.cons h.1 h.2)
      intro p hp
      rcases List.mem_cons.mp hp with rfl | hp
      · exact hlt
      · exact Nat.lt_trans hlt (h.1 p hp)
    · rename_i hlt
      refine List.Pairwise.cons ?_ (ih h.2 hi.2)
      intro p hp
      rcases (Tbl.mem_insert i v t p).mp hp with rfl | hp
      · have := hi.1
        simp only
        omega
      · exact h.1 p hp

/-- A write keeps the canonical form. -/
theorem Tbl.set_wf [DecidableEq α] (d v : α) (t : Tbl α) (i : Nat) (h : Tbl.wf d t) : Tbl.wf d (Tbl.set d t i v) := by
  unfold Tbl.set
  by_cases hv : v = d
  · simp only [hv, if_true]
    exact Tbl.wf_filter d t _ h
  · simp only [hv, if_false]
    have hf := Tbl.wf_filter d t (fun p => p.1 != i) h
    refine ⟨Tbl.insert_sorted i v _ hf.1 (Tbl.filter_ne_not_mem t i), ?_⟩
    intro p hp
    rcases (Tbl.mem_insert i v _ p).mp hp with rfl | hp
    · exact hv
    · exact hf.2 p hp

theorem Tbl.modify_wf [DecidableEq α] (d : α) (t : Tbl α) (i : Nat) (f : α → α) (h : Tbl.wf d t) :
    Tbl.wf d (Tbl.modify d t i f) := Tbl.set_wf d _ t i h

theorem Tbl.keep_wf (d : α) (t : Tbl α) (p : Nat → Bool) (h : Tbl.wf d t) : Tbl.wf d (Tbl.keep t p) :=
  Tbl.wf_filter d t _ h

theorem Tbl.setList_wf [DecidableEq α] (d : α) (vs : List α) : ∀ (t : Tbl α) (a : Nat), Tbl.wf d t →
    Tbl.wf d (Tbl.setList d t a vs) := by
  induction vs with
  | nil => exact fun t a h => h
  | cons v vs ih => exact fun t a h => ih _ _ (Tbl.set_wf d v t a h)

theorem Tbl.nil_wf (d : α) : Tbl.wf d ([] : Tbl α) := ⟨List.Pairwise.nil, by simp⟩

end Sys2Proof
end

