-- ==== Sys2Proof/Laws/Regs.lean ====
section
/-!
SUPPORT. Registers and fields: reading one after writing one, for every state.
-/

namespace Sys2Proof

/-! ### Bit fields of a number -/

theorem bits_lt (v hi lo : Nat) : bits v hi lo < 2 ^ (hi + 1 - lo) := Nat.mod_lt _ (Nat.two_pow_pos _)

theorem bits_zero (v : Nat) (hi : Nat) : bits v hi 0 = v % 2 ^ (hi + 1) := by simp [bits]

/-- Bits below 32 survive a store in a 32-bit register. -/
theorem bits_mod (v hi lo w : Nat) (h : hi < w) : bits (v % 2 ^ w) hi lo = bits v hi lo := by
  unfold bits
  apply Nat.eq_of_testBit_eq
  intro i
  simp only [Nat.testBit_mod_two_pow, Nat.testBit_div_two_pow]
  by_cases hi' : i < hi + 1 - lo
  · have : i + lo < w := by omega
    simp [hi', this]
  · simp [hi']

namespace Machine

/-- What `putBits` leaves: the bits below, the field, the bits above. -/
theorem putBits_eq (w hi lo v : Nat) :
    putBits w hi lo v = w / 2 ^ (lo + (hi + 1 - lo)) * 2 ^ (lo + (hi + 1 - lo)) + v % 2 ^ (hi + 1 - lo) * 2 ^ lo + w % 2 ^ lo := by
  unfold putBits bits
  generalize hi + 1 - lo = n
  have h1 : w = w / 2 ^ lo * 2 ^ lo + w % 2 ^ lo := by rw [Nat.mul_comm]; exact (Nat.div_add_mod w (2 ^ lo)).symm
  have h2 : w / 2 ^ lo = w / 2 ^ lo / 2 ^ n * 2 ^ n + w / 2 ^ lo % 2 ^ n := by
    rw [Nat.mul_comm]; exact (Nat.div_add_mod (w / 2 ^ lo) (2 ^ n)).symm
  have h3 : w / 2 ^ (lo + n) = w / 2 ^ lo / 2 ^ n := by rw [Nat.pow_add, Nat.div_div_eq_div_mul]
  rw [h3]
  generalize v % 2 ^ n * 2 ^ lo = V
  generalize hC : w % 2 ^ lo = C at *
  generalize hB : w / 2 ^ lo % 2 ^ n = B at *
  generalize hA : w / 2 ^ lo / 2 ^ n = A at *
  rw [h2] at h1
  have h4 : A * 2 ^ (lo + n) = A * 2 ^ n * 2 ^ lo := by rw [Nat.pow_add]; grind
  rw [h4, h1, Nat.add_mul]
  omega

theorem bits_putBits_same (w hi lo v : Nat) : bits (putBits w hi lo v) hi lo = v % 2 ^ (hi + 1 - lo) := by
  rw [putBits_eq]
  unfold bits
  generalize hi + 1 - lo = n
  have h : w / 2 ^ (lo + n) * 2 ^ (lo + n) + v % 2 ^ n * 2 ^ lo + w % 2 ^ lo =
      w % 2 ^ lo + (w / 2 ^ (lo + n) * 2 ^ n + v % 2 ^ n) * 2 ^ lo := by rw [Nat.pow_add]; grind
  rw [h, Nat.add_mul_div_right _ _ (Nat.two_pow_pos _), Nat.div_eq_of_lt (Nat.mod_lt _ (Nat.two_pow_pos _)), Nat.zero_add,
    Nat.add_comm, Nat.add_mul_mod_self_right, Nat.mod_mod]

/-- A field above the one written keeps its value. -/
theorem bits_putBits_above (w hi lo v hi' lo' : Nat) (h : lo + (hi + 1 - lo) ≤ lo') :
    bits (putBits w hi lo v) hi' lo' = bits w hi' lo' := by
  rw [putBits_eq]
  unfold bits
  generalize hi + 1 - lo = n at *
  have hdiv : (w / 2 ^ (lo + n) * 2 ^ (lo + n) + v % 2 ^ n * 2 ^ lo + w % 2 ^ lo) / 2 ^ (lo + n) = w / 2 ^ (lo + n) := by
    have hb : v % 2 ^ n * 2 ^ lo + w % 2 ^ lo < 2 ^ (lo + n) := by
      have h1 : v % 2 ^ n + 1 ≤ 2 ^ n := Nat.mod_lt _ (Nat.two_pow_pos _)
      have h2 : w % 2 ^ lo < 2 ^ lo := Nat.mod_lt _ (Nat.two_pow_pos _)
      have h3 : (v % 2 ^ n + 1) * 2 ^ lo ≤ 2 ^ n * 2 ^ lo := Nat.mul_le_mul_right _ h1
      rw [Nat.pow_add, Nat.mul_comm (2 ^ lo)]
      rw [Nat.add_mul, Nat.one_mul] at h3
      omega
    rw [Nat.add_assoc, Nat.add_comm, Nat.add_mul_div_right _ _ (Nat.two_pow_pos _), Nat.div_eq_of_lt hb, Nat.zero_add]
  obtain ⟨k, rfl⟩ := Nat.exists_eq_add_of_le h
  rw [Nat.pow_add 2 (lo + n) k, ← Nat.div_div_eq_div_mul, ← Nat.div_div_eq_div_mul, hdiv]

/-- A field below the one written keeps its value. -/
theorem bits_putBits_below (w hi lo v hi' lo' : Nat) (h : lo' + (hi' + 1 - lo') ≤ lo) :
    bits (putBits w hi lo v) hi' lo' = bits w hi' lo' := by
  have hm : ∀ x, bits x hi' lo' = bits (x % 2 ^ lo) hi' lo' := by
    intro x
    unfold bits
    apply Nat.eq_of_testBit_eq
    intro i
    simp only [Nat.testBit_mod_two_pow, Nat.testBit_div_two_pow]
    by_cases hi' : i < hi' + 1 - lo'
    · have : i + lo' < lo := by omega
      simp [hi', this]
    · simp [hi']
  rw [hm, hm w, putBits_eq]
  congr 1
  have : w / 2 ^ (lo + (hi + 1 - lo)) * 2 ^ (lo + (hi + 1 - lo)) + v % 2 ^ (hi + 1 - lo) * 2 ^ lo + w % 2 ^ lo =
      w % 2 ^ lo + 2 ^ lo * (w / 2 ^ (lo + (hi + 1 - lo)) * 2 ^ (hi + 1 - lo) + v % 2 ^ (hi + 1 - lo)) := by
    rw [Nat.pow_add]; grind
  rw [this, Nat.add_mul_mod_self_left, Nat.mod_mod]

/-! ### Words of the register file -/

theorem State.getW_lt (s : State) (off : Nat) : s.getW off < 2 ^ 32 := BitVec.isLt _

theorem State.getW_setW (s : State) (off v j : Nat) :
    (s.setW off v).getW j = if j = off then v % 2 ^ 32 else s.getW j := by
  unfold State.getW State.setW
  by_cases h : j = off
  · subst h
    simp
  · simp only [h, if_false, Tbl.get_set_ne' _ _ _ _ h]

@[simp] theorem State.getW_setW_same (s : State) (off v : Nat) : (s.setW off v).getW off = v % 2 ^ 32 := by
  simp [State.getW_setW]

theorem State.getW_setW_ne (s : State) (off v : Nat) {j : Nat} (h : j ≠ off) : (s.setW off v).getW j = s.getW j := by
  simp [State.getW_setW, h]

theorem State.getW_setF_ne (s : State) (f : Fld) (v : Nat) {j : Nat} (h : j ≠ f.off) : (s.setF f v).getW j = s.getW j :=
  State.getW_setW_ne _ _ _ h

/-- A read of a field after a write of it, for a field of a 32-bit register. -/
theorem State.getF_setF_same (s : State) (f : Fld) (v : Nat) (h : f.hi < 32) :
    (s.setF f v).getF f = v % 2 ^ (f.hi + 1 - f.lo) := by
  unfold State.getF State.setF
  rw [State.getW_setW_same, bits_mod _ _ _ _ h, bits_putBits_same]

/-- A write of a field of another register leaves a field. -/
theorem State.getF_setF_off (s : State) (f g : Fld) (v : Nat) (h : g.off ≠ f.off) : (s.setF f v).getF g = s.getF g := by
  unfold State.getF
  rw [State.getW_setF_ne _ _ _ h]

/-- A write of a disjoint field leaves a field. -/
theorem State.getF_setF_disjoint (s : State) (f g : Fld) (v : Nat) (hg : g.hi < 32) (hl : f.lo ≤ f.hi)
    (h : f.hi < g.lo ∨ (g.hi < f.lo ∧ g.lo ≤ g.hi)) : (s.setF f v).getF g = s.getF g := by
  by_cases ho : g.off = f.off
  · unfold State.getF State.setF
    rw [ho, State.getW_setW_same, bits_mod _ _ _ _ hg]
    rcases h with h | h
    · exact bits_putBits_above _ _ _ _ _ _ (by omega)
    · exact bits_putBits_below _ _ _ _ _ _ (by omega)
  · exact State.getF_setF_off _ _ _ _ ho

theorem State.getF_setW_off (s : State) (off : Nat) (g : Fld) (v : Nat) (h : g.off ≠ off) : (s.setW off v).getF g = s.getF g := by
  unfold State.getF
  rw [State.getW_setW_ne _ _ _ h]

theorem State.getF_setW_same (s : State) (g : Fld) (v : Nat) (h : g.hi < 32) : (s.setW g.off v).getF g = bits v g.hi g.lo := by
  unfold State.getF
  rw [State.getW_setW_same, bits_mod _ _ _ _ h]

end Machine

end Sys2Proof
end

