-- ==== Sys2Proof/Laws/State.lean ====
section
/-!
SUPPORT. What each update of the state leaves as it was, field by field, and what a command's end (`State.seal`) does.
-/

set_option Elab.async false

namespace Sys2Proof.Machine

/-! ### Updates of one field -/

@[simp] theorem State.setW_fields (s : State) (off v : Nat) :
    (s.setW off v).pending = s.pending ∧ (s.setW off v).out = s.out ∧ (s.setW off v).fresh = s.fresh ∧
    (s.setW off v).now = s.now ∧ (s.setW off v).ftime = s.ftime ∧ (s.setW off v).up = s.up ∧
    (s.setW off v).latch = s.latch ∧ (s.setW off v).msix = s.msix ∧ (s.setW off v).pba = s.pba ∧
    (s.setW off v).log = s.log ∧ (s.setW off v).fuse = s.fuse ∧ (s.setW off v).pins = s.pins ∧
    (s.setW off v).boot = s.boot ∧ (s.setW off v).rst = s.rst ∧ (s.setW off v).cores = s.cores ∧
    (s.setW off v).slices = s.slices ∧ (s.setW off v).pups = s.pups ∧ (s.setW off v).mem = s.mem ∧
    (s.setW off v).bad = s.bad ∧ (s.setW off v).memLost = s.memLost ∧ (s.setW off v).lines = s.lines ∧
    (s.setW off v).slots = s.slots ∧ (s.setW off v).kv = s.kv ∧ (s.setW off v).lay = s.lay ∧
    (s.setW off v).ports = s.ports ∧ (s.setW off v).fab = s.fab ∧ (s.setW off v).sides = s.sides ∧
    (s.setW off v).mesh = s.mesh ∧ (s.setW off v).qos = s.qos ∧ (s.setW off v).trays = s.trays ∧
    (s.setW off v).trayTurn = s.trayTurn ∧ (s.setW off v).journal = s.journal ∧
    (s.setW off v).nextJid = s.nextJid ∧ (s.setW off v).vfEnable = s.vfEnable ∧ (s.setW off v).ctl = s.ctl ∧
    (s.setW off v).holes = s.holes ∧ (s.setW off v).thm = s.thm ∧ (s.setW off v).park = s.park ∧
    (s.setW off v).sec = s.sec ∧ (s.setW off v).jtag = s.jtag ∧ (s.setW off v).bmcRoute = s.bmcRoute := by
  repeat' apply And.intro
  all_goals rfl

@[simp] theorem State.setF_fields (s : State) (f : Fld) (v : Nat) :
    (s.setF f v).pending = s.pending ∧ (s.setF f v).out = s.out ∧ (s.setF f v).fresh = s.fresh ∧
    (s.setF f v).now = s.now ∧ (s.setF f v).ftime = s.ftime ∧ (s.setF f v).up = s.up ∧
    (s.setF f v).latch = s.latch ∧ (s.setF f v).msix = s.msix ∧ (s.setF f v).pba = s.pba ∧
    (s.setF f v).log = s.log ∧ (s.setF f v).fuse = s.fuse ∧ (s.setF f v).pins = s.pins ∧
    (s.setF f v).boot = s.boot ∧ (s.setF f v).rst = s.rst ∧ (s.setF f v).cores = s.cores ∧
    (s.setF f v).slices = s.slices ∧ (s.setF f v).pups = s.pups ∧ (s.setF f v).mem = s.mem ∧
    (s.setF f v).bad = s.bad ∧ (s.setF f v).memLost = s.memLost ∧ (s.setF f v).lines = s.lines ∧
    (s.setF f v).slots = s.slots ∧ (s.setF f v).kv = s.kv ∧ (s.setF f v).lay = s.lay ∧
    (s.setF f v).ports = s.ports ∧ (s.setF f v).fab = s.fab ∧ (s.setF f v).sides = s.sides ∧
    (s.setF f v).mesh = s.mesh ∧ (s.setF f v).qos = s.qos ∧ (s.setF f v).trays = s.trays ∧
    (s.setF f v).trayTurn = s.trayTurn ∧ (s.setF f v).journal = s.journal ∧ (s.setF f v).nextJid = s.nextJid ∧
    (s.setF f v).vfEnable = s.vfEnable ∧ (s.setF f v).ctl = s.ctl ∧ (s.setF f v).holes = s.holes ∧
    (s.setF f v).thm = s.thm ∧ (s.setF f v).park = s.park ∧ (s.setF f v).sec = s.sec ∧ (s.setF f v).jtag = s.jtag ∧
    (s.setF f v).bmcRoute = s.bmcRoute := by simp [State.setF]

@[simp] theorem State.incSat_fields (s : State) (f : Fld) (n : Nat) :
    (s.incSat f n).pending = s.pending ∧ (s.incSat f n).out = s.out ∧ (s.incSat f n).fresh = s.fresh ∧
    (s.incSat f n).now = s.now ∧ (s.incSat f n).ftime = s.ftime ∧ (s.incSat f n).up = s.up ∧
    (s.incSat f n).latch = s.latch ∧ (s.incSat f n).msix = s.msix ∧ (s.incSat f n).pba = s.pba ∧
    (s.incSat f n).log = s.log ∧ (s.incSat f n).fuse = s.fuse ∧ (s.incSat f n).pins = s.pins ∧
    (s.incSat f n).boot = s.boot ∧ (s.incSat f n).rst = s.rst ∧ (s.incSat f n).cores = s.cores ∧
    (s.incSat f n).slices = s.slices ∧ (s.incSat f n).pups = s.pups ∧ (s.incSat f n).mem = s.mem ∧
    (s.incSat f n).bad = s.bad ∧ (s.incSat f n).memLost = s.memLost ∧ (s.incSat f n).lines = s.lines ∧
    (s.incSat f n).slots = s.slots ∧ (s.incSat f n).kv = s.kv ∧ (s.incSat f n).lay = s.lay ∧
    (s.incSat f n).ports = s.ports ∧ (s.incSat f n).fab = s.fab ∧ (s.incSat f n).sides = s.sides ∧
    (s.incSat f n).mesh = s.mesh ∧ (s.incSat f n).qos = s.qos ∧ (s.incSat f n).trays = s.trays ∧
    (s.incSat f n).trayTurn = s.trayTurn ∧ (s.incSat f n).journal = s.journal ∧
    (s.incSat f n).nextJid = s.nextJid ∧ (s.incSat f n).vfEnable = s.vfEnable ∧ (s.incSat f n).ctl = s.ctl ∧
    (s.incSat f n).holes = s.holes ∧ (s.incSat f n).thm = s.thm ∧ (s.incSat f n).park = s.park ∧
    (s.incSat f n).sec = s.sec ∧ (s.incSat f n).jtag = s.jtag ∧ (s.incSat f n).bmcRoute = s.bmcRoute := by simp [State.incSat]

@[simp] theorem State.incWrap_fields (s : State) (f : Fld) (n : Nat) :
    (s.incWrap f n).pending = s.pending ∧ (s.incWrap f n).out = s.out ∧ (s.incWrap f n).fresh = s.fresh ∧
    (s.incWrap f n).now = s.now ∧ (s.incWrap f n).ftime = s.ftime ∧ (s.incWrap f n).up = s.up ∧
    (s.incWrap f n).latch = s.latch ∧ (s.incWrap f n).msix = s.msix ∧ (s.incWrap f n).pba = s.pba ∧
    (s.incWrap f n).log = s.log ∧ (s.incWrap f n).fuse = s.fuse ∧ (s.incWrap f n).pins = s.pins ∧
    (s.incWrap f n).boot = s.boot ∧ (s.incWrap f n).rst = s.rst ∧ (s.incWrap f n).cores = s.cores ∧
    (s.incWrap f n).slices = s.slices ∧ (s.incWrap f n).pups = s.pups ∧ (s.incWrap f n).mem = s.mem ∧
    (s.incWrap f n).bad = s.bad ∧ (s.incWrap f n).memLost = s.memLost ∧ (s.incWrap f n).lines = s.lines ∧
    (s.incWrap f n).slots = s.slots ∧ (s.incWrap f n).kv = s.kv ∧ (s.incWrap f n).lay = s.lay ∧
    (s.incWrap f n).ports = s.ports ∧ (s.incWrap f n).fab = s.fab ∧ (s.incWrap f n).sides = s.sides ∧
    (s.incWrap f n).mesh = s.mesh ∧ (s.incWrap f n).qos = s.qos ∧ (s.incWrap f n).trays = s.trays ∧
    (s.incWrap f n).trayTurn = s.trayTurn ∧ (s.incWrap f n).journal = s.journal ∧
    (s.incWrap f n).nextJid = s.nextJid ∧ (s.incWrap f n).vfEnable = s.vfEnable ∧ (s.incWrap f n).ctl = s.ctl ∧
    (s.incWrap f n).holes = s.holes ∧ (s.incWrap f n).thm = s.thm ∧ (s.incWrap f n).park = s.park ∧
    (s.incWrap f n).sec = s.sec ∧ (s.incWrap f n).jtag = s.jtag ∧ (s.incWrap f n).bmcRoute = s.bmcRoute := by simp [State.incWrap]

@[simp] theorem State.putBit_fields (s : State) (f : Fld) (i : Nat) (b : Bool) :
    (s.putBit f i b).pending = s.pending ∧ (s.putBit f i b).out = s.out ∧ (s.putBit f i b).fresh = s.fresh ∧
    (s.putBit f i b).now = s.now ∧ (s.putBit f i b).ftime = s.ftime ∧ (s.putBit f i b).up = s.up ∧
    (s.putBit f i b).latch = s.latch ∧ (s.putBit f i b).msix = s.msix ∧ (s.putBit f i b).pba = s.pba ∧
    (s.putBit f i b).log = s.log ∧ (s.putBit f i b).fuse = s.fuse ∧ (s.putBit f i b).pins = s.pins ∧
    (s.putBit f i b).boot = s.boot ∧ (s.putBit f i b).rst = s.rst ∧ (s.putBit f i b).cores = s.cores ∧
    (s.putBit f i b).slices = s.slices ∧ (s.putBit f i b).pups = s.pups ∧ (s.putBit f i b).mem = s.mem ∧
    (s.putBit f i b).bad = s.bad ∧ (s.putBit f i b).memLost = s.memLost ∧ (s.putBit f i b).lines = s.lines ∧
    (s.putBit f i b).slots = s.slots ∧ (s.putBit f i b).kv = s.kv ∧ (s.putBit f i b).lay = s.lay ∧
    (s.putBit f i b).ports = s.ports ∧ (s.putBit f i b).fab = s.fab ∧ (s.putBit f i b).sides = s.sides ∧
    (s.putBit f i b).mesh = s.mesh ∧ (s.putBit f i b).qos = s.qos ∧ (s.putBit f i b).trays = s.trays ∧
    (s.putBit f i b).trayTurn = s.trayTurn ∧ (s.putBit f i b).journal = s.journal ∧
    (s.putBit f i b).nextJid = s.nextJid ∧ (s.putBit f i b).vfEnable = s.vfEnable ∧ (s.putBit f i b).ctl = s.ctl ∧
    (s.putBit f i b).holes = s.holes ∧ (s.putBit f i b).thm = s.thm ∧ (s.putBit f i b).park = s.park ∧
    (s.putBit f i b).sec = s.sec ∧ (s.putBit f i b).jtag = s.jtag ∧ (s.putBit f i b).bmcRoute = s.bmcRoute := by simp [State.putBit]

@[simp] theorem State.setPair_fields (s : State) (lo v : Nat) :
    (s.setPair lo v).pending = s.pending ∧ (s.setPair lo v).out = s.out ∧ (s.setPair lo v).fresh = s.fresh ∧
    (s.setPair lo v).now = s.now ∧ (s.setPair lo v).ftime = s.ftime ∧ (s.setPair lo v).up = s.up ∧
    (s.setPair lo v).latch = s.latch ∧ (s.setPair lo v).msix = s.msix ∧ (s.setPair lo v).pba = s.pba ∧
    (s.setPair lo v).log = s.log ∧ (s.setPair lo v).fuse = s.fuse ∧ (s.setPair lo v).pins = s.pins ∧
    (s.setPair lo v).boot = s.boot ∧ (s.setPair lo v).rst = s.rst ∧ (s.setPair lo v).cores = s.cores ∧
    (s.setPair lo v).slices = s.slices ∧ (s.setPair lo v).pups = s.pups ∧ (s.setPair lo v).mem = s.mem ∧
    (s.setPair lo v).bad = s.bad ∧ (s.setPair lo v).memLost = s.memLost ∧ (s.setPair lo v).lines = s.lines ∧
    (s.setPair lo v).slots = s.slots ∧ (s.setPair lo v).kv = s.kv ∧ (s.setPair lo v).lay = s.lay ∧
    (s.setPair lo v).ports = s.ports ∧ (s.setPair lo v).fab = s.fab ∧ (s.setPair lo v).sides = s.sides ∧
    (s.setPair lo v).mesh = s.mesh ∧ (s.setPair lo v).qos = s.qos ∧ (s.setPair lo v).trays = s.trays ∧
    (s.setPair lo v).trayTurn = s.trayTurn ∧ (s.setPair lo v).journal = s.journal ∧
    (s.setPair lo v).nextJid = s.nextJid ∧ (s.setPair lo v).vfEnable = s.vfEnable ∧ (s.setPair lo v).ctl = s.ctl ∧
    (s.setPair lo v).holes = s.holes ∧ (s.setPair lo v).thm = s.thm ∧ (s.setPair lo v).park = s.park ∧
    (s.setPair lo v).sec = s.sec ∧ (s.setPair lo v).jtag = s.jtag ∧ (s.setPair lo v).bmcRoute = s.bmcRoute := by simp [State.setPair]

@[simp] theorem State.addPair_fields (s : State) (lo n : Nat) :
    (s.addPair lo n).pending = s.pending ∧ (s.addPair lo n).out = s.out ∧ (s.addPair lo n).fresh = s.fresh ∧
    (s.addPair lo n).now = s.now ∧ (s.addPair lo n).ftime = s.ftime ∧ (s.addPair lo n).up = s.up ∧
    (s.addPair lo n).latch = s.latch ∧ (s.addPair lo n).msix = s.msix ∧ (s.addPair lo n).pba = s.pba ∧
    (s.addPair lo n).log = s.log ∧ (s.addPair lo n).fuse = s.fuse ∧ (s.addPair lo n).pins = s.pins ∧
    (s.addPair lo n).boot = s.boot ∧ (s.addPair lo n).rst = s.rst ∧ (s.addPair lo n).cores = s.cores ∧
    (s.addPair lo n).slices = s.slices ∧ (s.addPair lo n).pups = s.pups ∧ (s.addPair lo n).mem = s.mem ∧
    (s.addPair lo n).bad = s.bad ∧ (s.addPair lo n).memLost = s.memLost ∧ (s.addPair lo n).lines = s.lines ∧
    (s.addPair lo n).slots = s.slots ∧ (s.addPair lo n).kv = s.kv ∧ (s.addPair lo n).lay = s.lay ∧
    (s.addPair lo n).ports = s.ports ∧ (s.addPair lo n).fab = s.fab ∧ (s.addPair lo n).sides = s.sides ∧
    (s.addPair lo n).mesh = s.mesh ∧ (s.addPair lo n).qos = s.qos ∧ (s.addPair lo n).trays = s.trays ∧
    (s.addPair lo n).trayTurn = s.trayTurn ∧ (s.addPair lo n).journal = s.journal ∧
    (s.addPair lo n).nextJid = s.nextJid ∧ (s.addPair lo n).vfEnable = s.vfEnable ∧ (s.addPair lo n).ctl = s.ctl ∧
    (s.addPair lo n).holes = s.holes ∧ (s.addPair lo n).thm = s.thm ∧ (s.addPair lo n).park = s.park ∧
    (s.addPair lo n).sec = s.sec ∧ (s.addPair lo n).jtag = s.jtag ∧ (s.addPair lo n).bmcRoute = s.bmcRoute := by simp [State.addPair]

@[simp] theorem State.resetW_fields (s : State) (off : Nat) :
    (s.resetW off).pending = s.pending ∧ (s.resetW off).out = s.out ∧ (s.resetW off).fresh = s.fresh ∧
    (s.resetW off).now = s.now ∧ (s.resetW off).ftime = s.ftime ∧ (s.resetW off).up = s.up ∧
    (s.resetW off).latch = s.latch ∧ (s.resetW off).msix = s.msix ∧ (s.resetW off).pba = s.pba ∧
    (s.resetW off).log = s.log ∧ (s.resetW off).fuse = s.fuse ∧ (s.resetW off).pins = s.pins ∧
    (s.resetW off).boot = s.boot ∧ (s.resetW off).rst = s.rst ∧ (s.resetW off).cores = s.cores ∧
    (s.resetW off).slices = s.slices ∧ (s.resetW off).pups = s.pups ∧ (s.resetW off).mem = s.mem ∧
    (s.resetW off).bad = s.bad ∧ (s.resetW off).memLost = s.memLost ∧ (s.resetW off).lines = s.lines ∧
    (s.resetW off).slots = s.slots ∧ (s.resetW off).kv = s.kv ∧ (s.resetW off).lay = s.lay ∧
    (s.resetW off).ports = s.ports ∧ (s.resetW off).fab = s.fab ∧ (s.resetW off).sides = s.sides ∧
    (s.resetW off).mesh = s.mesh ∧ (s.resetW off).qos = s.qos ∧ (s.resetW off).trays = s.trays ∧
    (s.resetW off).trayTurn = s.trayTurn ∧ (s.resetW off).journal = s.journal ∧
    (s.resetW off).nextJid = s.nextJid ∧ (s.resetW off).vfEnable = s.vfEnable ∧ (s.resetW off).ctl = s.ctl ∧
    (s.resetW off).holes = s.holes ∧ (s.resetW off).thm = s.thm ∧ (s.resetW off).park = s.park ∧
    (s.resetW off).sec = s.sec ∧ (s.resetW off).jtag = s.jtag ∧ (s.resetW off).bmcRoute = s.bmcRoute := by simp [State.resetW]

@[simp] theorem State.flag_fields (s : State) (f : Fld) :
    (s.flag f).pending = s.pending ∧ (s.flag f).out = s.out ∧ (s.flag f).fresh = s.fresh ∧ (s.flag f).now = s.now ∧
    (s.flag f).ftime = s.ftime ∧ (s.flag f).up = s.up ∧ (s.flag f).latch = s.latch ∧ (s.flag f).msix = s.msix ∧
    (s.flag f).pba = s.pba ∧ (s.flag f).log = s.log ∧ (s.flag f).fuse = s.fuse ∧ (s.flag f).pins = s.pins ∧
    (s.flag f).boot = s.boot ∧ (s.flag f).rst = s.rst ∧ (s.flag f).cores = s.cores ∧ (s.flag f).slices = s.slices ∧
    (s.flag f).pups = s.pups ∧ (s.flag f).mem = s.mem ∧ (s.flag f).bad = s.bad ∧ (s.flag f).memLost = s.memLost ∧
    (s.flag f).lines = s.lines ∧ (s.flag f).slots = s.slots ∧ (s.flag f).kv = s.kv ∧ (s.flag f).lay = s.lay ∧
    (s.flag f).ports = s.ports ∧ (s.flag f).fab = s.fab ∧ (s.flag f).sides = s.sides ∧ (s.flag f).mesh = s.mesh ∧
    (s.flag f).qos = s.qos ∧ (s.flag f).trays = s.trays ∧ (s.flag f).trayTurn = s.trayTurn ∧
    (s.flag f).journal = s.journal ∧ (s.flag f).nextJid = s.nextJid ∧ (s.flag f).vfEnable = s.vfEnable ∧
    (s.flag f).ctl = s.ctl ∧ (s.flag f).holes = s.holes ∧ (s.flag f).thm = s.thm ∧ (s.flag f).park = s.park ∧
    (s.flag f).sec = s.sec ∧ (s.flag f).jtag = s.jtag ∧ (s.flag f).bmcRoute = s.bmcRoute := by simp [State.flag]

@[simp] theorem State.emit_fields (s : State) (e : OutEvent) :
    (s.emit e).pending = s.pending ∧ (s.emit e).fresh = s.fresh ∧ (s.emit e).now = s.now ∧
    (s.emit e).ftime = s.ftime ∧ (s.emit e).up = s.up ∧ (s.emit e).regs = s.regs ∧ (s.emit e).latch = s.latch ∧
    (s.emit e).msix = s.msix ∧ (s.emit e).pba = s.pba ∧ (s.emit e).log = s.log ∧ (s.emit e).fuse = s.fuse ∧
    (s.emit e).pins = s.pins ∧ (s.emit e).boot = s.boot ∧ (s.emit e).rst = s.rst ∧ (s.emit e).cores = s.cores ∧
    (s.emit e).slices = s.slices ∧ (s.emit e).pups = s.pups ∧ (s.emit e).mem = s.mem ∧ (s.emit e).bad = s.bad ∧
    (s.emit e).memLost = s.memLost ∧ (s.emit e).lines = s.lines ∧ (s.emit e).slots = s.slots ∧
    (s.emit e).kv = s.kv ∧ (s.emit e).lay = s.lay ∧ (s.emit e).ports = s.ports ∧ (s.emit e).fab = s.fab ∧
    (s.emit e).sides = s.sides ∧ (s.emit e).mesh = s.mesh ∧ (s.emit e).qos = s.qos ∧ (s.emit e).trays = s.trays ∧
    (s.emit e).trayTurn = s.trayTurn ∧ (s.emit e).journal = s.journal ∧ (s.emit e).nextJid = s.nextJid ∧
    (s.emit e).vfEnable = s.vfEnable ∧ (s.emit e).ctl = s.ctl ∧ (s.emit e).holes = s.holes ∧
    (s.emit e).thm = s.thm ∧ (s.emit e).park = s.park ∧ (s.emit e).sec = s.sec ∧ (s.emit e).jtag = s.jtag ∧
    (s.emit e).bmcRoute = s.bmcRoute := by
  repeat' apply And.intro
  all_goals rfl

@[simp] theorem State.tick_fields (s : State) :
    (s.tick).pending = s.pending ∧ (s.tick).out = s.out ∧ (s.tick).now = s.now ∧ (s.tick).ftime = s.ftime ∧
    (s.tick).up = s.up ∧ (s.tick).regs = s.regs ∧ (s.tick).latch = s.latch ∧ (s.tick).msix = s.msix ∧
    (s.tick).pba = s.pba ∧ (s.tick).log = s.log ∧ (s.tick).fuse = s.fuse ∧ (s.tick).pins = s.pins ∧
    (s.tick).boot = s.boot ∧ (s.tick).rst = s.rst ∧ (s.tick).cores = s.cores ∧ (s.tick).slices = s.slices ∧
    (s.tick).pups = s.pups ∧ (s.tick).mem = s.mem ∧ (s.tick).bad = s.bad ∧ (s.tick).memLost = s.memLost ∧
    (s.tick).lines = s.lines ∧ (s.tick).slots = s.slots ∧ (s.tick).kv = s.kv ∧ (s.tick).lay = s.lay ∧
    (s.tick).ports = s.ports ∧ (s.tick).fab = s.fab ∧ (s.tick).sides = s.sides ∧ (s.tick).mesh = s.mesh ∧
    (s.tick).qos = s.qos ∧ (s.tick).trays = s.trays ∧ (s.tick).trayTurn = s.trayTurn ∧
    (s.tick).journal = s.journal ∧ (s.tick).nextJid = s.nextJid ∧ (s.tick).vfEnable = s.vfEnable ∧
    (s.tick).ctl = s.ctl ∧ (s.tick).holes = s.holes ∧ (s.tick).thm = s.thm ∧ (s.tick).park = s.park ∧
    (s.tick).sec = s.sec ∧ (s.tick).jtag = s.jtag ∧ (s.tick).bmcRoute = s.bmcRoute := by
  repeat' apply And.intro
  all_goals rfl

@[simp] theorem State.setCore_fields (s : State) (u : Nat) (f : CoreSt → CoreSt) :
    (s.setCore u f).pending = s.pending ∧ (s.setCore u f).out = s.out ∧ (s.setCore u f).fresh = s.fresh ∧
    (s.setCore u f).now = s.now ∧ (s.setCore u f).ftime = s.ftime ∧ (s.setCore u f).up = s.up ∧
    (s.setCore u f).regs = s.regs ∧ (s.setCore u f).latch = s.latch ∧ (s.setCore u f).msix = s.msix ∧
    (s.setCore u f).pba = s.pba ∧ (s.setCore u f).log = s.log ∧ (s.setCore u f).fuse = s.fuse ∧
    (s.setCore u f).pins = s.pins ∧ (s.setCore u f).boot = s.boot ∧ (s.setCore u f).rst = s.rst ∧
    (s.setCore u f).slices = s.slices ∧ (s.setCore u f).pups = s.pups ∧ (s.setCore u f).mem = s.mem ∧
    (s.setCore u f).bad = s.bad ∧ (s.setCore u f).memLost = s.memLost ∧ (s.setCore u f).lines = s.lines ∧
    (s.setCore u f).slots = s.slots ∧ (s.setCore u f).kv = s.kv ∧ (s.setCore u f).lay = s.lay ∧
    (s.setCore u f).ports = s.ports ∧ (s.setCore u f).fab = s.fab ∧ (s.setCore u f).sides = s.sides ∧
    (s.setCore u f).mesh = s.mesh ∧ (s.setCore u f).qos = s.qos ∧ (s.setCore u f).trays = s.trays ∧
    (s.setCore u f).trayTurn = s.trayTurn ∧ (s.setCore u f).journal = s.journal ∧
    (s.setCore u f).nextJid = s.nextJid ∧ (s.setCore u f).vfEnable = s.vfEnable ∧ (s.setCore u f).ctl = s.ctl ∧
    (s.setCore u f).holes = s.holes ∧ (s.setCore u f).thm = s.thm ∧ (s.setCore u f).park = s.park ∧
    (s.setCore u f).sec = s.sec ∧ (s.setCore u f).jtag = s.jtag ∧ (s.setCore u f).bmcRoute = s.bmcRoute := by
  repeat' apply And.intro
  all_goals rfl

@[simp] theorem State.setSlice_fields (s : State) (u : Nat) (f : SliceSt → SliceSt) :
    (s.setSlice u f).pending = s.pending ∧ (s.setSlice u f).out = s.out ∧ (s.setSlice u f).fresh = s.fresh ∧
    (s.setSlice u f).now = s.now ∧ (s.setSlice u f).ftime = s.ftime ∧ (s.setSlice u f).up = s.up ∧
    (s.setSlice u f).regs = s.regs ∧ (s.setSlice u f).latch = s.latch ∧ (s.setSlice u f).msix = s.msix ∧
    (s.setSlice u f).pba = s.pba ∧ (s.setSlice u f).log = s.log ∧ (s.setSlice u f).fuse = s.fuse ∧
    (s.setSlice u f).pins = s.pins ∧ (s.setSlice u f).boot = s.boot ∧ (s.setSlice u f).rst = s.rst ∧
    (s.setSlice u f).cores = s.cores ∧ (s.setSlice u f).pups = s.pups ∧ (s.setSlice u f).mem = s.mem ∧
    (s.setSlice u f).bad = s.bad ∧ (s.setSlice u f).memLost = s.memLost ∧ (s.setSlice u f).lines = s.lines ∧
    (s.setSlice u f).slots = s.slots ∧ (s.setSlice u f).kv = s.kv ∧ (s.setSlice u f).lay = s.lay ∧
    (s.setSlice u f).ports = s.ports ∧ (s.setSlice u f).fab = s.fab ∧ (s.setSlice u f).sides = s.sides ∧
    (s.setSlice u f).mesh = s.mesh ∧ (s.setSlice u f).qos = s.qos ∧ (s.setSlice u f).trays = s.trays ∧
    (s.setSlice u f).trayTurn = s.trayTurn ∧ (s.setSlice u f).journal = s.journal ∧
    (s.setSlice u f).nextJid = s.nextJid ∧ (s.setSlice u f).vfEnable = s.vfEnable ∧ (s.setSlice u f).ctl = s.ctl ∧
    (s.setSlice u f).holes = s.holes ∧ (s.setSlice u f).thm = s.thm ∧ (s.setSlice u f).park = s.park ∧
    (s.setSlice u f).sec = s.sec ∧ (s.setSlice u f).jtag = s.jtag ∧ (s.setSlice u f).bmcRoute = s.bmcRoute := by
  repeat' apply And.intro
  all_goals rfl

@[simp] theorem State.setPup_fields (s : State) (u : Nat) (f : PupSt → PupSt) :
    (s.setPup u f).pending = s.pending ∧ (s.setPup u f).out = s.out ∧ (s.setPup u f).fresh = s.fresh ∧
    (s.setPup u f).now = s.now ∧ (s.setPup u f).ftime = s.ftime ∧ (s.setPup u f).up = s.up ∧
    (s.setPup u f).regs = s.regs ∧ (s.setPup u f).latch = s.latch ∧ (s.setPup u f).msix = s.msix ∧
    (s.setPup u f).pba = s.pba ∧ (s.setPup u f).log = s.log ∧ (s.setPup u f).fuse = s.fuse ∧
    (s.setPup u f).pins = s.pins ∧ (s.setPup u f).boot = s.boot ∧ (s.setPup u f).rst = s.rst ∧
    (s.setPup u f).cores = s.cores ∧ (s.setPup u f).slices = s.slices ∧ (s.setPup u f).mem = s.mem ∧
    (s.setPup u f).bad = s.bad ∧ (s.setPup u f).memLost = s.memLost ∧ (s.setPup u f).lines = s.lines ∧
    (s.setPup u f).slots = s.slots ∧ (s.setPup u f).kv = s.kv ∧ (s.setPup u f).lay = s.lay ∧
    (s.setPup u f).ports = s.ports ∧ (s.setPup u f).fab = s.fab ∧ (s.setPup u f).sides = s.sides ∧
    (s.setPup u f).mesh = s.mesh ∧ (s.setPup u f).qos = s.qos ∧ (s.setPup u f).trays = s.trays ∧
    (s.setPup u f).trayTurn = s.trayTurn ∧ (s.setPup u f).journal = s.journal ∧
    (s.setPup u f).nextJid = s.nextJid ∧ (s.setPup u f).vfEnable = s.vfEnable ∧ (s.setPup u f).ctl = s.ctl ∧
    (s.setPup u f).holes = s.holes ∧ (s.setPup u f).thm = s.thm ∧ (s.setPup u f).park = s.park ∧
    (s.setPup u f).sec = s.sec ∧ (s.setPup u f).jtag = s.jtag ∧ (s.setPup u f).bmcRoute = s.bmcRoute := by
  repeat' apply And.intro
  all_goals rfl

@[simp] theorem State.setPort_fields (s : State) (p : Nat) (f : PortSt → PortSt) :
    (s.setPort p f).pending = s.pending ∧ (s.setPort p f).out = s.out ∧ (s.setPort p f).fresh = s.fresh ∧
    (s.setPort p f).now = s.now ∧ (s.setPort p f).ftime = s.ftime ∧ (s.setPort p f).up = s.up ∧
    (s.setPort p f).regs = s.regs ∧ (s.setPort p f).latch = s.latch ∧ (s.setPort p f).msix = s.msix ∧
    (s.setPort p f).pba = s.pba ∧ (s.setPort p f).log = s.log ∧ (s.setPort p f).fuse = s.fuse ∧
    (s.setPort p f).pins = s.pins ∧ (s.setPort p f).boot = s.boot ∧ (s.setPort p f).rst = s.rst ∧
    (s.setPort p f).cores = s.cores ∧ (s.setPort p f).slices = s.slices ∧ (s.setPort p f).pups = s.pups ∧
    (s.setPort p f).mem = s.mem ∧ (s.setPort p f).bad = s.bad ∧ (s.setPort p f).memLost = s.memLost ∧
    (s.setPort p f).lines = s.lines ∧ (s.setPort p f).slots = s.slots ∧ (s.setPort p f).kv = s.kv ∧
    (s.setPort p f).lay = s.lay ∧ (s.setPort p f).fab = s.fab ∧ (s.setPort p f).sides = s.sides ∧
    (s.setPort p f).mesh = s.mesh ∧ (s.setPort p f).qos = s.qos ∧ (s.setPort p f).trays = s.trays ∧
    (s.setPort p f).trayTurn = s.trayTurn ∧ (s.setPort p f).journal = s.journal ∧
    (s.setPort p f).nextJid = s.nextJid ∧ (s.setPort p f).vfEnable = s.vfEnable ∧ (s.setPort p f).ctl = s.ctl ∧
    (s.setPort p f).holes = s.holes ∧ (s.setPort p f).thm = s.thm ∧ (s.setPort p f).park = s.park ∧
    (s.setPort p f).sec = s.sec ∧ (s.setPort p f).jtag = s.jtag ∧ (s.setPort p f).bmcRoute = s.bmcRoute := by
  repeat' apply And.intro
  all_goals rfl

@[simp] theorem State.setTray_fields (s : State) (t : Nat) (v : TraySt) :
    (s.setTray t v).pending = s.pending ∧ (s.setTray t v).out = s.out ∧ (s.setTray t v).fresh = s.fresh ∧
    (s.setTray t v).now = s.now ∧ (s.setTray t v).ftime = s.ftime ∧ (s.setTray t v).up = s.up ∧
    (s.setTray t v).regs = s.regs ∧ (s.setTray t v).latch = s.latch ∧ (s.setTray t v).msix = s.msix ∧
    (s.setTray t v).pba = s.pba ∧ (s.setTray t v).log = s.log ∧ (s.setTray t v).fuse = s.fuse ∧
    (s.setTray t v).pins = s.pins ∧ (s.setTray t v).boot = s.boot ∧ (s.setTray t v).rst = s.rst ∧
    (s.setTray t v).cores = s.cores ∧ (s.setTray t v).slices = s.slices ∧ (s.setTray t v).pups = s.pups ∧
    (s.setTray t v).mem = s.mem ∧ (s.setTray t v).bad = s.bad ∧ (s.setTray t v).memLost = s.memLost ∧
    (s.setTray t v).lines = s.lines ∧ (s.setTray t v).slots = s.slots ∧ (s.setTray t v).kv = s.kv ∧
    (s.setTray t v).lay = s.lay ∧ (s.setTray t v).ports = s.ports ∧ (s.setTray t v).fab = s.fab ∧
    (s.setTray t v).sides = s.sides ∧ (s.setTray t v).mesh = s.mesh ∧ (s.setTray t v).qos = s.qos ∧
    (s.setTray t v).trayTurn = s.trayTurn ∧ (s.setTray t v).journal = s.journal ∧
    (s.setTray t v).nextJid = s.nextJid ∧ (s.setTray t v).vfEnable = s.vfEnable ∧ (s.setTray t v).ctl = s.ctl ∧
    (s.setTray t v).holes = s.holes ∧ (s.setTray t v).thm = s.thm ∧ (s.setTray t v).park = s.park ∧
    (s.setTray t v).sec = s.sec ∧ (s.setTray t v).jtag = s.jtag ∧ (s.setTray t v).bmcRoute = s.bmcRoute := by
  repeat' apply And.intro
  all_goals rfl

@[simp] theorem State.setCc_fields (s : State) (i : Nat) (f : CcSt → CcSt) :
    (s.setCc i f).pending = s.pending ∧ (s.setCc i f).out = s.out ∧ (s.setCc i f).fresh = s.fresh ∧
    (s.setCc i f).now = s.now ∧ (s.setCc i f).ftime = s.ftime ∧ (s.setCc i f).up = s.up ∧
    (s.setCc i f).regs = s.regs ∧ (s.setCc i f).latch = s.latch ∧ (s.setCc i f).msix = s.msix ∧
    (s.setCc i f).pba = s.pba ∧ (s.setCc i f).log = s.log ∧ (s.setCc i f).fuse = s.fuse ∧
    (s.setCc i f).pins = s.pins ∧ (s.setCc i f).boot = s.boot ∧ (s.setCc i f).rst = s.rst ∧
    (s.setCc i f).cores = s.cores ∧ (s.setCc i f).slices = s.slices ∧ (s.setCc i f).pups = s.pups ∧
    (s.setCc i f).mem = s.mem ∧ (s.setCc i f).bad = s.bad ∧ (s.setCc i f).memLost = s.memLost ∧
    (s.setCc i f).lines = s.lines ∧ (s.setCc i f).slots = s.slots ∧ (s.setCc i f).kv = s.kv ∧
    (s.setCc i f).lay = s.lay ∧ (s.setCc i f).ports = s.ports ∧ (s.setCc i f).fab = s.fab ∧
    (s.setCc i f).sides = s.sides ∧ (s.setCc i f).mesh = s.mesh ∧ (s.setCc i f).qos = s.qos ∧
    (s.setCc i f).trays = s.trays ∧ (s.setCc i f).trayTurn = s.trayTurn ∧ (s.setCc i f).journal = s.journal ∧
    (s.setCc i f).nextJid = s.nextJid ∧ (s.setCc i f).vfEnable = s.vfEnable ∧ (s.setCc i f).holes = s.holes ∧
    (s.setCc i f).thm = s.thm ∧ (s.setCc i f).park = s.park ∧ (s.setCc i f).sec = s.sec ∧
    (s.setCc i f).jtag = s.jtag ∧ (s.setCc i f).bmcRoute = s.bmcRoute := by
  repeat' apply And.intro
  all_goals rfl

@[simp] theorem State.setLines_fields (s : State) (key : Nat) (ls : List Line) :
    (s.setLines key ls).pending = s.pending ∧ (s.setLines key ls).out = s.out ∧
    (s.setLines key ls).fresh = s.fresh ∧ (s.setLines key ls).now = s.now ∧ (s.setLines key ls).ftime = s.ftime ∧
    (s.setLines key ls).up = s.up ∧ (s.setLines key ls).regs = s.regs ∧ (s.setLines key ls).latch = s.latch ∧
    (s.setLines key ls).msix = s.msix ∧ (s.setLines key ls).pba = s.pba ∧ (s.setLines key ls).log = s.log ∧
    (s.setLines key ls).fuse = s.fuse ∧ (s.setLines key ls).pins = s.pins ∧ (s.setLines key ls).boot = s.boot ∧
    (s.setLines key ls).rst = s.rst ∧ (s.setLines key ls).cores = s.cores ∧ (s.setLines key ls).slices = s.slices ∧
    (s.setLines key ls).pups = s.pups ∧ (s.setLines key ls).mem = s.mem ∧ (s.setLines key ls).bad = s.bad ∧
    (s.setLines key ls).memLost = s.memLost ∧ (s.setLines key ls).slots = s.slots ∧ (s.setLines key ls).kv = s.kv ∧
    (s.setLines key ls).lay = s.lay ∧ (s.setLines key ls).ports = s.ports ∧ (s.setLines key ls).fab = s.fab ∧
    (s.setLines key ls).sides = s.sides ∧ (s.setLines key ls).mesh = s.mesh ∧ (s.setLines key ls).qos = s.qos ∧
    (s.setLines key ls).trays = s.trays ∧ (s.setLines key ls).trayTurn = s.trayTurn ∧
    (s.setLines key ls).journal = s.journal ∧ (s.setLines key ls).nextJid = s.nextJid ∧
    (s.setLines key ls).vfEnable = s.vfEnable ∧ (s.setLines key ls).ctl = s.ctl ∧
    (s.setLines key ls).holes = s.holes ∧ (s.setLines key ls).thm = s.thm ∧ (s.setLines key ls).park = s.park ∧
    (s.setLines key ls).sec = s.sec ∧ (s.setLines key ls).jtag = s.jtag ∧ (s.setLines key ls).bmcRoute = s.bmcRoute := by
  repeat' apply And.intro
  all_goals rfl

@[simp] theorem State.setSlot_fields (s : State) (k : Nat) (v : Slot) :
    (s.setSlot k v).pending = s.pending ∧ (s.setSlot k v).out = s.out ∧ (s.setSlot k v).fresh = s.fresh ∧
    (s.setSlot k v).now = s.now ∧ (s.setSlot k v).ftime = s.ftime ∧ (s.setSlot k v).up = s.up ∧
    (s.setSlot k v).regs = s.regs ∧ (s.setSlot k v).latch = s.latch ∧ (s.setSlot k v).msix = s.msix ∧
    (s.setSlot k v).pba = s.pba ∧ (s.setSlot k v).log = s.log ∧ (s.setSlot k v).fuse = s.fuse ∧
    (s.setSlot k v).pins = s.pins ∧ (s.setSlot k v).boot = s.boot ∧ (s.setSlot k v).rst = s.rst ∧
    (s.setSlot k v).cores = s.cores ∧ (s.setSlot k v).slices = s.slices ∧ (s.setSlot k v).pups = s.pups ∧
    (s.setSlot k v).mem = s.mem ∧ (s.setSlot k v).bad = s.bad ∧ (s.setSlot k v).memLost = s.memLost ∧
    (s.setSlot k v).lines = s.lines ∧ (s.setSlot k v).kv = s.kv ∧ (s.setSlot k v).lay = s.lay ∧
    (s.setSlot k v).ports = s.ports ∧ (s.setSlot k v).fab = s.fab ∧ (s.setSlot k v).sides = s.sides ∧
    (s.setSlot k v).mesh = s.mesh ∧ (s.setSlot k v).qos = s.qos ∧ (s.setSlot k v).trays = s.trays ∧
    (s.setSlot k v).trayTurn = s.trayTurn ∧ (s.setSlot k v).journal = s.journal ∧
    (s.setSlot k v).nextJid = s.nextJid ∧ (s.setSlot k v).vfEnable = s.vfEnable ∧ (s.setSlot k v).ctl = s.ctl ∧
    (s.setSlot k v).holes = s.holes ∧ (s.setSlot k v).thm = s.thm ∧ (s.setSlot k v).park = s.park ∧
    (s.setSlot k v).sec = s.sec ∧ (s.setSlot k v).jtag = s.jtag ∧ (s.setSlot k v).bmcRoute = s.bmcRoute := by
  repeat' apply And.intro
  all_goals rfl

@[simp] theorem State.setPayload_fields (s : State) (i : Nat) (p : List Byte) :
    (s.setPayload i p).pending = s.pending ∧ (s.setPayload i p).out = s.out ∧ (s.setPayload i p).fresh = s.fresh ∧
    (s.setPayload i p).now = s.now ∧ (s.setPayload i p).ftime = s.ftime ∧ (s.setPayload i p).up = s.up ∧
    (s.setPayload i p).regs = s.regs ∧ (s.setPayload i p).latch = s.latch ∧ (s.setPayload i p).msix = s.msix ∧
    (s.setPayload i p).pba = s.pba ∧ (s.setPayload i p).log = s.log ∧ (s.setPayload i p).fuse = s.fuse ∧
    (s.setPayload i p).pins = s.pins ∧ (s.setPayload i p).boot = s.boot ∧ (s.setPayload i p).rst = s.rst ∧
    (s.setPayload i p).cores = s.cores ∧ (s.setPayload i p).slices = s.slices ∧ (s.setPayload i p).pups = s.pups ∧
    (s.setPayload i p).mem = s.mem ∧ (s.setPayload i p).bad = s.bad ∧ (s.setPayload i p).memLost = s.memLost ∧
    (s.setPayload i p).lines = s.lines ∧ (s.setPayload i p).slots = s.slots ∧ (s.setPayload i p).kv = s.kv ∧
    (s.setPayload i p).lay = s.lay ∧ (s.setPayload i p).ports = s.ports ∧ (s.setPayload i p).fab = s.fab ∧
    (s.setPayload i p).sides = s.sides ∧ (s.setPayload i p).mesh = s.mesh ∧ (s.setPayload i p).qos = s.qos ∧
    (s.setPayload i p).trays = s.trays ∧ (s.setPayload i p).trayTurn = s.trayTurn ∧
    (s.setPayload i p).journal = s.journal ∧ (s.setPayload i p).nextJid = s.nextJid ∧
    (s.setPayload i p).vfEnable = s.vfEnable ∧ (s.setPayload i p).ctl = s.ctl ∧ (s.setPayload i p).thm = s.thm ∧
    (s.setPayload i p).park = s.park ∧ (s.setPayload i p).sec = s.sec ∧ (s.setPayload i p).jtag = s.jtag ∧
    (s.setPayload i p).bmcRoute = s.bmcRoute := by
  repeat' apply And.intro
  all_goals rfl

/-! ### Interrupts and the error log: registers, pending bits, the log and messages -/

theorem State.notesOnly.refl (s : State) : s.notesOnly s := rfl

theorem State.notesOnly.trans {s t u : State} (h : s.notesOnly t) (k : t.notesOnly u) : s.notesOnly u := by
  unfold State.notesOnly at *
  rw [h] at k
  exact k

theorem State.notesOnly.each {α : Type} {s : State} (l : List α) (f : State → α → State) (h : ∀ (t : State) (a : α), t.notesOnly (f t a)) :
    s.notesOnly (s.each l f) := by
  unfold State.each
  induction l generalizing s with
  | nil => exact .refl s
  | cons a l ih => exact (h s a).trans ih

theorem State.setW_notes (s : State) (off v : Nat) : s.notesOnly (s.setW off v) := rfl

theorem State.setF_notes (s : State) (f : Fld) (v : Nat) : s.notesOnly (s.setF f v) := rfl

theorem State.incSat_notes (s : State) (f : Fld) (n : Nat) : s.notesOnly (s.incSat f n) := rfl

theorem State.putBit_notes (s : State) (f : Fld) (i : Nat) (b : Bool) : s.notesOnly (s.putBit f i b) := rfl

theorem State.emit_notes (s : State) (e : OutEvent) : s.notesOnly (s.emit e) := rfl

theorem State.sendMsix_notes (s : State) (f v : Nat) : s.notesOnly (s.sendMsix f v) := by
  unfold State.sendMsix
  split <;> rfl

theorem State.raise_notes (s : State) (i : Nat) : s.notesOnly (s.raise i) := by
  unfold State.raise
  simp only
  split
  · exact (State.putBit_notes s _ _ _).trans (State.sendMsix_notes _ _ _)
  · exact State.putBit_notes s _ _ _

theorem State.flag_notes (s : State) (f : Fld) : s.notesOnly (s.flag f) := rfl

theorem State.flagC_notes (s : State) (f : Fld) (c : Nat) : s.notesOnly (s.flagC f c) :=
  (State.setF_notes s f 1).trans (State.raise_notes _ _)

theorem State.logCause_notes (s : State) (c : Nat) : s.notesOnly (s.logCause c) := by
  unfold State.logCause
  split
  · exact State.raise_notes s 0
  · exact .refl s

theorem State.logNew_notes (s : State) (e : LogEntry) : s.notesOnly (s.logNew e) := by
  unfold State.logNew
  extract_lets seq lost log0 s1 s2 s3 s4
  have h1 : s.notesOnly s1 := rfl
  have h2 : s1.notesOnly s2 := State.setF_notes _ _ _
  have h3 : s2.notesOnly s3 := by
    simp only [s3]
    split
    · exact (State.incSat_notes _ _ _).trans (State.flagC_notes _ _ _)
    · exact .refl _
  have h4 : s3.notesOnly s4 := by
    simp only [s4]
    split
    · exact State.flag_notes _ _
    · exact .refl _
  exact (((h1.trans h2).trans h3).trans h4).trans ((State.incSat_notes _ _ _).trans (State.logCause_notes _ _))

theorem State.logArrive_notes (s : State) (e : LogEntry) : s.notesOnly (s.logArrive e) := by
  unfold State.logArrive
  split
  · extract_lets q log0 s1
    have h : s.notesOnly s1 := rfl
    exact h.trans ((State.incSat_notes _ _ _).trans (State.logCause_notes _ _))
  · simp only
    split
    · exact (State.logNew_notes s e).trans rfl
    · exact State.logNew_notes s e

theorem State.logSend_notes (s : State) (c : Nat) (e : LogEntry) : s.notesOnly (s.logSend c e) := by
  unfold State.logSend
  simp only
  split
  · exact State.logArrive_notes s e
  · split <;> rfl

theorem State.logE_notes (s : State) (chest kind idx ev cls : Nat) (av : Bool) (addr detail count : Nat) :
    s.notesOnly (s.logE chest kind idx ev cls av addr detail count) := State.logSend_notes _ _ _

theorem State.logP_notes (s : State) (kind idx ev addr detail : Nat) : s.notesOnly (s.logP kind idx ev addr detail) :=
  State.logE_notes _ _ _ _ _ _ _ _ _ _

theorem State.updateService_notes (s : State) : s.notesOnly s.updateService := by
  unfold State.updateService
  extract_lets off usable tier old s1
  have h : s.notesOnly s1 := rfl
  split
  · exact .refl s
  · exact h.trans ((State.logE_notes _ _ _ _ _ _ _ _ _ _).trans (State.raise_notes _ _))

/-! ### Folds and guards -/

/-- What every step of a fold keeps, the fold keeps. -/
theorem State.each_keeps {α β : Type} (p : State → β) (f : State → α → State) (h : ∀ s a, p (f s a) = p s) (l : List α) (s : State) :
    p (s.each l f) = p s := by
  unfold State.each
  induction l generalizing s with
  | nil => rfl
  | cons a l ih => rw [List.foldl_cons, ih, h]

@[simp] theorem State.each_nil {α : Type} (s : State) (f : State → α → State) : s.each [] f = s := rfl

@[simp] theorem State.each_cons {α : Type} (s : State) (a : α) (l : List α) (f : State → α → State) :
    s.each (a :: l) f = (f s a).each l f := rfl

@[simp] theorem State.guard_true (s : State) (f : State → State) : s.guard true f = f s := rfl

@[simp] theorem State.guard_false (s : State) (f : State → State) : s.guard false f = s := rfl

/-! ### The end of a command -/

/-- The queue of waiting commands is the one the command found. -/
@[simp] theorem State.seal_pending (s t : State) : (s.seal t).pending = s.pending := rfl

@[simp] theorem State.seal_fields (s t : State) :
    (s.seal t).out = t.out ∧ (s.seal t).fresh = t.fresh ∧ (s.seal t).now = t.now ∧ (s.seal t).ftime = t.ftime ∧
    (s.seal t).up = t.up ∧ (s.seal t).latch = t.latch ∧ (s.seal t).msix = t.msix ∧ (s.seal t).pba = t.pba ∧
    (s.seal t).log = t.log ∧ (s.seal t).fuse = t.fuse ∧ (s.seal t).pins = t.pins ∧ (s.seal t).boot = t.boot ∧
    (s.seal t).rst = t.rst ∧ (s.seal t).cores = t.cores ∧ (s.seal t).slices = t.slices ∧ (s.seal t).pups = t.pups ∧
    (s.seal t).mem = t.mem ∧ (s.seal t).bad = t.bad ∧ (s.seal t).memLost = t.memLost ∧ (s.seal t).lines = t.lines ∧
    (s.seal t).slots = t.slots ∧ (s.seal t).kv = t.kv ∧ (s.seal t).lay = t.lay ∧ (s.seal t).ports = t.ports ∧
    (s.seal t).fab = t.fab ∧ (s.seal t).sides = t.sides ∧ (s.seal t).mesh = t.mesh ∧ (s.seal t).qos = t.qos ∧
    (s.seal t).trays = t.trays ∧ (s.seal t).trayTurn = t.trayTurn ∧ (s.seal t).journal = t.journal ∧
    (s.seal t).nextJid = t.nextJid ∧ (s.seal t).vfEnable = t.vfEnable ∧ (s.seal t).ctl = t.ctl ∧
    (s.seal t).holes = t.holes ∧ (s.seal t).thm = t.thm ∧ (s.seal t).park = t.park ∧ (s.seal t).sec = t.sec ∧
    (s.seal t).jtag = t.jtag ∧ (s.seal t).bmcRoute = t.bmcRoute := by
  repeat' apply And.intro
  all_goals rfl

/-- Beside the queue only registers differ. -/
theorem State.seal_only (s t : State) : s.seal t = { t with pending := s.pending, regs := (s.seal t).regs } := rfl

/-- A command whose effect writes registers alone. -/
theorem State.seal_regsOnly {s t : State} (h : t = { s with regs := t.regs }) : s.seal t = { s with regs := (s.seal t).regs } := by
  rw [h]
  rfl

/-- A command's end writes HQ_STATUS alone. -/
theorem State.getW_seal (s t : State) {off : Nat} (h : off ≠ R.HQ_STATUS) : (s.seal t).getW off = t.getW off :=
  State.getW_setF_ne _ _ _ h

theorem State.getF_seal (s t : State) (f : Fld) (h : f.off ≠ R.HQ_STATUS) : (s.seal t).getF f = t.getF f := by
  unfold State.getF
  rw [State.getW_seal _ _ h]

/-- HQ_STATUS.journal_used counts the journal after every command. -/
theorem State.seal_journalUsed (s t : State) :
    (s.seal t).getF R.HQ_STATUS.journal_used = t.journal.length % 2 ^ 16 :=
  State.getF_setF_same _ _ _ (by decide)

/-- What a command that is served whenever the part runs answers. -/
theorem whenUp_up (s : State) (f : State → State) (h : s.up = true) : whenUp s f = .next (s.seal (f s)) := by
  simp [whenUp, h]

/-- Held in reset such a command changes nothing. -/
theorem whenUp_down (s : State) (f : State → State) (h : s.up = false) : whenUp s f = .next s := by
  simp [whenUp, h]

end Sys2Proof.Machine
end

