-- ==== Sys2Proof/Laws/Log.lean ====
section
/-!
SUPPORT. What interrupts and log entries do: the registers they leave, the entry that a new one leaves in the ring.
-/

set_option Elab.async false

namespace Sys2Proof.Machine

/-! ### Registers that notes leave -/

@[simp] theorem State.getW_emit (s : State) (e : OutEvent) (off : Nat) : (s.emit e).getW off = s.getW off := rfl

@[simp] theorem State.getF_emit (s : State) (e : OutEvent) (f : Fld) : (s.emit e).getF f = s.getF f := rfl

@[simp] theorem State.getW_sendMsix (s : State) (f v off : Nat) : (s.sendMsix f v).getW off = s.getW off := by
  unfold State.sendMsix
  split <;> rfl

theorem State.getW_incSat_ne (s : State) (f : Fld) (n : Nat) {j : Nat} (h : j ≠ f.off) : (s.incSat f n).getW j = s.getW j :=
  State.getW_setF_ne _ _ _ h

theorem State.getW_putBit_ne (s : State) (f : Fld) (i : Nat) (b : Bool) {j : Nat} (h : j ≠ f.off) :
    (s.putBit f i b).getW j = s.getW j := State.getW_setF_ne _ _ _ h

theorem State.getW_flag_ne (s : State) (f : Fld) {j : Nat} (h : j ≠ f.off) : (s.flag f).getW j = s.getW j :=
  State.getW_setF_ne _ _ _ h

/-- An interrupt writes GLB_INT_STATUS alone. -/
theorem State.getW_raise (s : State) (i : Nat) {off : Nat} (h : off ≠ R.GLB_INT_STATUS) : (s.raise i).getW off = s.getW off := by
  unfold State.raise
  simp only
  split
  · rw [State.getW_sendMsix, State.getW_putBit_ne _ _ _ _ h]
  · exact State.getW_putBit_ne _ _ _ _ h

theorem State.getW_flagC (s : State) (f : Fld) (c : Nat) {off : Nat} (h : off ≠ f.off) (hn : off ≠ R.GLB_INT_STATUS) :
    (s.flagC f c).getW off = s.getW off := by
  unfold State.flagC
  rw [State.getW_raise _ _ hn, State.getW_setF_ne _ _ _ h]

theorem State.getW_logCause (s : State) (c : Nat) {off : Nat} (h : off ≠ R.GLB_INT_STATUS) :
    (s.logCause c).getW off = s.getW off := by
  unfold State.logCause
  split
  · exact State.getW_raise _ _ h
  · rfl

/-! ### The log that notes leave -/

@[simp] theorem State.raise_log (s : State) (i : Nat) : (s.raise i).log = s.log := by
  unfold State.raise
  simp only
  split
  · unfold State.sendMsix
    split <;> rfl
  · rfl

@[simp] theorem State.flagC_log (s : State) (f : Fld) (c : Nat) : (s.flagC f c).log = s.log := by
  simp [State.flagC]

@[simp] theorem State.logCause_log (s : State) (c : Nat) : (s.logCause c).log = s.log := by
  unfold State.logCause
  split <;> simp

/-! ### A new entry -/

/-- Without the flags and counters: the ring takes the entry and ERR_SEQ counts it. -/
theorem State.logNew_ring (s : State) (e : LogEntry) :
    (s.logNew e).log.ring = Tbl.set LogEntry.zero s.log.ring (s.getF R.ERR_SEQ.seq % 512) { e with seq := s.getF R.ERR_SEQ.seq } := by
  unfold State.logNew
  simp only [State.logCause_log, State.incSat_fields]
  split <;> split <;> simp

theorem State.getW_logNew (s : State) (e : LogEntry) (hc : e.cls ≤ 4) {off : Nat} (h : ¬ noteReg off) :
    (s.logNew e).getW off = s.getW off := by
  have h1 : off ≠ R.GLB_INT_STATUS := fun x => h (Or.inl x)
  have h2 : ∀ k, k < 0x28 → off ≠ 0x500000 + k := by
    intro k hk x
    apply h
    refine Or.inr ⟨?_, ?_⟩ <;> simp only [R.ERR_SEQ, R.ERR_INT_CLASS, x] <;> omega
  have hcc : off ≠ (classCnt e.cls).off := by
    have := h2 (0x14 + 4 * e.cls) (by omega)
    simp only [classCnt, R.ERR_CLASS_CNT.count, R.ERR_CLASS_CNT]
    omega
  have hseq : off ≠ R.ERR_SEQ.seq.off := h2 0 (by omega)
  have hlost : off ≠ R.ERR_LOST.count.off := h2 0x10 (by omega)
  have hov : off ≠ R.ERR_FLAGS.overflow.off := h2 8 (by omega)
  have hue : off ≠ R.ERR_FLAGS.ue_logged.off := h2 8 (by omega)
  unfold State.logNew
  extract_lets seq lost log0 s1 s2 s3 s4
  have e2 : s2.getW off = s.getW off := State.getW_setF_ne _ _ _ hseq
  have e3 : s3.getW off = s2.getW off := by
    simp only [s3]
    split
    · rw [State.getW_flagC _ _ _ hov h1, State.getW_incSat_ne _ _ _ hlost]
    · rfl
  have e4 : s4.getW off = s3.getW off := by
    simp only [s4]
    split
    · exact State.getW_flag_ne _ _ hue
    · rfl
  rw [State.getW_logCause _ _ h1, State.getW_incSat_ne _ _ _ hcc, e4, e3, e2]

/-- The sequence number counts the new entry. -/
theorem State.logNew_seq (s : State) (e : LogEntry) :
    (s.logNew e).getF R.ERR_SEQ.seq = (s.getF R.ERR_SEQ.seq + 1) % 2 ^ 32 := by
  have hk : ∀ k, R.ERR_SEQ.seq.off ≠ R.ERR_CLASS_CNT k := by
    intro k
    simp only [R.ERR_SEQ.seq, R.ERR_SEQ, R.ERR_CLASS_CNT]
    omega
  have h1 : R.ERR_SEQ.seq.off ≠ R.GLB_INT_STATUS := by decide
  unfold State.logNew
  extract_lets seq lost log0 s1 s2 s3 s4
  have e2 : s2.getF R.ERR_SEQ.seq = (seq + 1) % 2 ^ 32 := State.getF_setF_same _ _ _ (by decide)
  have e3 : s3.getW R.ERR_SEQ.seq.off = s2.getW R.ERR_SEQ.seq.off := by
    simp only [s3]
    split
    · rw [State.getW_flagC _ _ _ (by decide) h1, State.getW_incSat_ne _ _ _ (by decide)]
    · rfl
  have e4 : s4.getW R.ERR_SEQ.seq.off = s3.getW R.ERR_SEQ.seq.off := by
    simp only [s4]
    split
    · exact State.getW_flag_ne _ _ (by decide)
    · rfl
  unfold State.getF at *
  rw [State.getW_logCause _ _ h1, State.getW_incSat_ne _ _ _ (hk e.cls), e4, e3]
  exact e2

theorem State.logNew_logged (s : State) (e : LogEntry) :
    logged s (s.logNew e) { e with seq := s.getF R.ERR_SEQ.seq } :=
  ⟨by rw [State.logNew_ring, Tbl.get_set_same], State.logNew_seq s e⟩

/-! ### Events of the package -/

/-- Entries of another class than correctable never coalesce (R465). -/
theorem State.coalesces_false (s : State) (e : LogEntry) (h : e.cls ≠ 0) : s.coalesces e = false := by
  unfold State.coalesces
  simp [h]

/-- An event of a package unit that is not correctable is a new entry at once. -/
theorem State.logE_new (s : State) (kind idx ev cls : Nat) (av : Bool) (addr detail count : Nat) (h : cls ≠ 0) :
    s.logE 0 kind idx ev cls av addr detail count = s.logNew ⟨0, srcId 0 kind idx, cls, av, s.stamp.2, s.stamp.1, addr, ev, detail, count⟩ := by
  unfold State.logE State.logSend
  have hp : s.pathTo0 0 = true := by simp [State.pathTo0]
  simp only [hp, if_true]
  have hc := State.coalesces_false s ⟨0, srcId 0 kind idx, cls, av, s.stamp.2, s.stamp.1, addr, ev, detail, count⟩ h
  unfold State.logArrive
  simp [hc, h]

theorem State.logE_logged (s : State) (kind idx ev cls : Nat) (av : Bool) (addr detail count : Nat) (h : cls ≠ 0) :
    logged s (s.logE 0 kind idx ev cls av addr detail count) (s.entry kind idx ev cls av addr detail count) := by
  rw [State.logE_new _ _ _ _ _ _ _ _ _ h]
  exact State.logNew_logged s _

theorem State.logP_logged (s : State) (kind idx ev addr detail : Nat) :
    logged s (s.logP kind idx ev addr detail) (s.entry kind idx ev 2 false addr detail 1) :=
  State.logE_logged s kind idx ev 2 false addr detail 1 (by decide)

/-- A log entry of any chest writes no register but those of notes. -/
theorem State.getW_logE (s : State) (chest kind idx ev cls : Nat) (av : Bool) (addr detail count : Nat) (hc : cls ≤ 4) {off : Nat}
    (h : ¬ noteReg off) : (s.logE chest kind idx ev cls av addr detail count).getW off = s.getW off := by
  have h1 : off ≠ R.GLB_INT_STATUS := fun x => h (Or.inl x)
  have h0 : off ≠ (classCnt 0).off := by
    intro x
    apply h
    refine Or.inr ⟨?_, ?_⟩ <;> simp only [x] <;> decide
  unfold State.logE State.logSend
  simp only
  split
  · unfold State.logArrive
    split
    · rw [State.getW_logCause _ _ h1, State.getW_incSat_ne _ _ _ h0]
      rfl
    · simp only
      split
      · exact State.getW_logNew s _ hc h
      · exact State.getW_logNew s _ hc h
  · split <;> rfl

theorem State.getW_logP (s : State) (kind idx ev addr detail : Nat) {off : Nat}
    (h : ¬ noteReg off) : (s.logP kind idx ev addr detail).getW off = s.getW off :=
  State.getW_logE _ _ _ _ _ _ _ _ _ _ (by decide) h

/-- A message leaves what the log took. -/
theorem logged_emit {s t : State} {e : LogEntry} (h : logged s t e) (ev : OutEvent) : logged s (t.emit ev) e :=
  ⟨h.1, by rw [State.getF_emit]; exact h.2⟩

/-- The end of a command leaves what the log took. -/
theorem logged_seal {s t : State} {e : LogEntry} (h : logged s t e) : logged s (s.seal t) e :=
  ⟨h.1, by rw [State.getF_seal _ _ _ (by decide)]; exact h.2⟩

/-- A command whose effect writes notes alone. -/
theorem State.notesOnly_seal {s t : State} (h : s.notesOnly t) : s.notesOnly (s.seal t) := by
  unfold State.notesOnly at *
  unfold State.seal
  rw [h]
  rfl

/-- A command whose enabling condition fails. -/
theorem State.untouched_seal (s : State) : untouched s (s.seal s) :=
  ⟨rfl, fun _ h => State.getW_seal _ _ (by simpa using h)⟩

/-- What a command that is served whenever the part runs completes with. -/
theorem completes_whenUp {c : Instr} {s : State} {f : State → State} {P : State → Prop} (he : exec c s = whenUp s f)
    (h : s.up = true) (hp : P (s.seal (f s))) : completes c s P := ⟨s.seal (f s), he.trans (whenUp_up s f h), hp⟩

theorem completes_always {c : Instr} {s : State} {f : State → State} {P : State → Prop} (he : exec c s = always s f)
    (hp : P (s.seal (f s))) : completes c s P := ⟨s.seal (f s), he, hp⟩

end Sys2Proof.Machine
end

