-- ==== Sys2Proof/Laws/Map.lean ====
section
/-!
SUPPORT. The register map: the fields of every register are bit ranges of a 32-bit word that do not meet.
-/

set_option Elab.async false

namespace Sys2Proof.R

/-- Bit ranges of one 32-bit word that do not meet. -/
def fieldsOk (l : List FieldSpec) : Prop :=
  l.Pairwise (fun f g => g.hi < f.lo ∨ f.hi < g.lo) ∧ ∀ f ∈ l, f.lo ≤ f.hi ∧ f.hi < 32

theorem fieldsOk_ite (p : Prop) [Decidable p] (a b : List FieldSpec) (ha : fieldsOk a) (hb : fieldsOk b) :
    fieldsOk (if p then a else b) := by
  split
  · exact ha
  · exact hb

theorem fieldsOk_nil : fieldsOk [] := ⟨List.Pairwise.nil, by simp⟩

theorem glbFields_ok (k o : Nat) : fieldsOk (glbFields k o) := by
  unfold glbFields
  repeat' apply fieldsOk_ite
  all_goals simp [fieldsOk]

theorem hqFields_ok (k o : Nat) : fieldsOk (hqFields k o) := by
  unfold hqFields
  repeat' apply fieldsOk_ite
  all_goals simp [fieldsOk]

theorem trayFields_ok (k o : Nat) : fieldsOk (trayFields k o) := by
  unfold trayFields
  repeat' apply fieldsOk_ite
  all_goals simp [fieldsOk]

theorem mbxFields_ok (k o : Nat) : fieldsOk (mbxFields k o) := by
  unfold mbxFields
  repeat' apply fieldsOk_ite
  all_goals simp [fieldsOk]

theorem holeFields_ok (k o : Nat) : fieldsOk (holeFields k o) := by
  unfold holeFields
  repeat' apply fieldsOk_ite
  all_goals simp [fieldsOk]

theorem secFields_ok (k o : Nat) : fieldsOk (secFields k o) := by
  unfold secFields
  repeat' apply fieldsOk_ite
  all_goals simp [fieldsOk]

theorem thmFields_ok (k o : Nat) : fieldsOk (thmFields k o) := by
  unfold thmFields
  repeat' apply fieldsOk_ite
  all_goals simp [fieldsOk]

theorem errFields_ok (k o : Nat) : fieldsOk (errFields k o) := by
  unfold errFields
  repeat' apply fieldsOk_ite
  all_goals simp [fieldsOk]

theorem pzlFields_ok (k o : Nat) : fieldsOk (pzlFields k o) := by
  unfold pzlFields
  repeat' apply fieldsOk_ite
  all_goals simp [fieldsOk]

theorem portFields_ok (k o : Nat) : fieldsOk (portFields k o) := by
  unfold portFields
  repeat' apply fieldsOk_ite
  all_goals simp [fieldsOk]

theorem qosFields_ok (k o : Nat) : fieldsOk (qosFields k o) := by
  unfold qosFields
  repeat' apply fieldsOk_ite
  all_goals simp [fieldsOk]

theorem qregFields_ok (k o : Nat) : fieldsOk (qregFields k o) := by
  unfold qregFields
  repeat' apply fieldsOk_ite
  all_goals simp [fieldsOk]

theorem bstFields_ok (k o : Nat) : fieldsOk (bstFields k o) := by
  unfold bstFields
  repeat' apply fieldsOk_ite
  all_goals simp [fieldsOk]

theorem kvmFields_ok (k o : Nat) : fieldsOk (kvmFields k o) := by
  unfold kvmFields
  repeat' apply fieldsOk_ite
  all_goals simp [fieldsOk]

theorem layFields_ok (k o : Nat) : fieldsOk (layFields k o) := by
  unfold layFields
  repeat' apply fieldsOk_ite
  all_goals simp [fieldsOk]

theorem corFields_ok (k o : Nat) : fieldsOk (corFields k o) := by
  unfold corFields
  repeat' apply fieldsOk_ite
  all_goals simp [fieldsOk]

theorem slcFields_ok (k o : Nat) : fieldsOk (slcFields k o) := by
  unfold slcFields
  repeat' apply fieldsOk_ite
  all_goals simp [fieldsOk]

theorem lnkFields_ok (k o : Nat) : fieldsOk (lnkFields k o) := by
  unfold lnkFields
  repeat' apply fieldsOk_ite
  all_goals simp [fieldsOk]

theorem sideFields_ok (k o : Nat) : fieldsOk (sideFields k o) := by
  unfold sideFields
  repeat' apply fieldsOk_ite
  all_goals simp [fieldsOk]

theorem chsFields_ok (k o : Nat) : fieldsOk (chsFields k o) := by
  unfold chsFields
  repeat' apply fieldsOk_ite
  all_goals simp [fieldsOk]

set_option maxRecDepth 4000 in
/-- Table 14-3 and every register table: the fields of a register do not meet. -/
theorem fieldsAt_ok (off : Nat) : fieldsOk (fieldsAt off) := by
  unfold fieldsAt
  dsimp only
  refine fieldsOk_ite _ _ _ fieldsOk_nil ?_
  refine fieldsOk_ite _ _ _ (glbFields_ok _ _) ?_
  refine fieldsOk_ite _ _ _ (hqFields_ok _ _) ?_
  refine fieldsOk_ite _ _ _ (trayFields_ok _ _) ?_
  refine fieldsOk_ite _ _ _ fieldsOk_nil ?_
  refine fieldsOk_ite _ _ _ (mbxFields_ok _ _) ?_
  refine fieldsOk_ite _ _ _ (holeFields_ok _ _) ?_
  refine fieldsOk_ite _ _ _ fieldsOk_nil ?_
  refine fieldsOk_ite _ _ _ (secFields_ok _ _) ?_
  refine fieldsOk_ite _ _ _ (thmFields_ok _ _) ?_
  refine fieldsOk_ite _ _ _ (errFields_ok _ _) ?_
  refine fieldsOk_ite _ _ _ (pzlFields_ok _ _) ?_
  refine fieldsOk_ite _ _ _ (portFields_ok _ _) ?_
  refine fieldsOk_ite _ _ _ fieldsOk_nil ?_
  refine fieldsOk_ite _ _ _ (qosFields_ok _ _) ?_
  refine fieldsOk_ite _ _ _ (qregFields_ok _ _) ?_
  refine fieldsOk_ite _ _ _ fieldsOk_nil ?_
  refine fieldsOk_ite _ _ _ (bstFields_ok _ _) ?_
  refine fieldsOk_ite _ _ _ (kvmFields_ok _ _) ?_
  refine fieldsOk_ite _ _ _ (layFields_ok _ _) ?_
  refine fieldsOk_ite _ _ _ fieldsOk_nil ?_
  refine fieldsOk_ite _ _ _ ?_ fieldsOk_nil
  refine fieldsOk_ite _ _ _ (corFields_ok _ _) ?_
  refine fieldsOk_ite _ _ _ fieldsOk_nil ?_
  refine fieldsOk_ite _ _ _ (slcFields_ok _ _) ?_
  refine fieldsOk_ite _ _ _ fieldsOk_nil ?_
  refine fieldsOk_ite _ _ _ (lnkFields_ok _ _) ?_
  refine fieldsOk_ite _ _ _ (sideFields_ok _ _) ?_
  refine fieldsOk_ite _ _ _ fieldsOk_nil ?_
  exact chsFields_ok _ _

/-- No field of W1S access, but where a test holds. -/
def noW1s (p : Prop) (l : List FieldSpec) : Prop := ∀ f ∈ l, f.acc = .w1s → p

theorem noW1s_ite (q p : Prop) [Decidable q] (a b : List FieldSpec) (ha : q → noW1s p a) (hb : ¬q → noW1s p b) :
    noW1s p (if q then a else b) := by
  split
  · exact ha ‹_›
  · exact hb ‹_›

theorem glbFields_noW1s (k o : Nat) (p : Prop) : noW1s p (glbFields k o) := by
  unfold glbFields
  repeat' (refine noW1s_ite _ _ _ _ (fun _ => ?_) (fun _ => ?_))
  all_goals simp [noW1s]

theorem hqFields_noW1s (k o : Nat) (p : Prop) : noW1s p (hqFields k o) := by
  unfold hqFields
  repeat' (refine noW1s_ite _ _ _ _ (fun _ => ?_) (fun _ => ?_))
  all_goals simp [noW1s]

theorem trayFields_noW1s (k o : Nat) (p : Prop) : noW1s p (trayFields k o) := by
  unfold trayFields
  repeat' (refine noW1s_ite _ _ _ _ (fun _ => ?_) (fun _ => ?_))
  all_goals simp [noW1s]

theorem holeFields_noW1s (k o : Nat) (p : Prop) : noW1s p (holeFields k o) := by
  unfold holeFields
  repeat' (refine noW1s_ite _ _ _ _ (fun _ => ?_) (fun _ => ?_))
  all_goals simp [noW1s]

theorem secFields_noW1s (k o : Nat) (p : Prop) : noW1s p (secFields k o) := by
  unfold secFields
  repeat' (refine noW1s_ite _ _ _ _ (fun _ => ?_) (fun _ => ?_))
  all_goals simp [noW1s]

theorem thmFields_noW1s (k o : Nat) (p : Prop) : noW1s p (thmFields k o) := by
  unfold thmFields
  repeat' (refine noW1s_ite _ _ _ _ (fun _ => ?_) (fun _ => ?_))
  all_goals simp [noW1s]

theorem errFields_noW1s (k o : Nat) (p : Prop) : noW1s p (errFields k o) := by
  unfold errFields
  repeat' (refine noW1s_ite _ _ _ _ (fun _ => ?_) (fun _ => ?_))
  all_goals simp [noW1s]

theorem pzlFields_noW1s (k o : Nat) (p : Prop) : noW1s p (pzlFields k o) := by
  unfold pzlFields
  repeat' (refine noW1s_ite _ _ _ _ (fun _ => ?_) (fun _ => ?_))
  all_goals simp [noW1s]

theorem qosFields_noW1s (k o : Nat) (p : Prop) : noW1s p (qosFields k o) := by
  unfold qosFields
  repeat' (refine noW1s_ite _ _ _ _ (fun _ => ?_) (fun _ => ?_))
  all_goals simp [noW1s]

theorem qregFields_noW1s (k o : Nat) (p : Prop) : noW1s p (qregFields k o) := by
  unfold qregFields
  repeat' (refine noW1s_ite _ _ _ _ (fun _ => ?_) (fun _ => ?_))
  all_goals simp [noW1s]

theorem bstFields_noW1s (k o : Nat) (p : Prop) : noW1s p (bstFields k o) := by
  unfold bstFields
  repeat' (refine noW1s_ite _ _ _ _ (fun _ => ?_) (fun _ => ?_))
  all_goals simp [noW1s]

theorem kvmFields_noW1s (k o : Nat) (p : Prop) : noW1s p (kvmFields k o) := by
  unfold kvmFields
  repeat' (refine noW1s_ite _ _ _ _ (fun _ => ?_) (fun _ => ?_))
  all_goals simp [noW1s]

theorem layFields_noW1s (k o : Nat) (p : Prop) : noW1s p (layFields k o) := by
  unfold layFields
  repeat' (refine noW1s_ite _ _ _ _ (fun _ => ?_) (fun _ => ?_))
  all_goals simp [noW1s]

theorem corFields_noW1s (k o : Nat) (p : Prop) : noW1s p (corFields k o) := by
  unfold corFields
  repeat' (refine noW1s_ite _ _ _ _ (fun _ => ?_) (fun _ => ?_))
  all_goals simp [noW1s]

theorem slcFields_noW1s (k o : Nat) (p : Prop) : noW1s p (slcFields k o) := by
  unfold slcFields
  repeat' (refine noW1s_ite _ _ _ _ (fun _ => ?_) (fun _ => ?_))
  all_goals simp [noW1s]

theorem lnkFields_noW1s (k o : Nat) (p : Prop) : noW1s p (lnkFields k o) := by
  unfold lnkFields
  repeat' (refine noW1s_ite _ _ _ _ (fun _ => ?_) (fun _ => ?_))
  all_goals simp [noW1s]

theorem sideFields_noW1s (k o : Nat) (p : Prop) : noW1s p (sideFields k o) := by
  unfold sideFields
  repeat' (refine noW1s_ite _ _ _ _ (fun _ => ?_) (fun _ => ?_))
  all_goals simp [noW1s]

theorem chsFields_noW1s (k o : Nat) (p : Prop) : noW1s p (chsFields k o) := by
  unfold chsFields
  repeat' (refine noW1s_ite _ _ _ _ (fun _ => ?_) (fun _ => ?_))
  all_goals simp [noW1s]

theorem mbxFields_noW1s (k o : Nat) : noW1s (o = 0x100) (mbxFields k o) := by
  unfold mbxFields
  repeat' (refine noW1s_ite _ _ _ _ (fun _ => ?_) (fun _ => ?_))
  all_goals simp_all [noW1s]

theorem portFields_noW1s (k o : Nat) : noW1s (o = 4) (portFields k o) := by
  unfold portFields
  repeat' (refine noW1s_ite _ _ _ _ (fun _ => ?_) (fun _ => ?_))
  all_goals simp_all [noW1s]

/-- The registers with W1S fields: MBX_LOCK and PZL_Pn_CTRL. -/
theorem fieldsAt_w1s (off : Nat) :
    noW1s (off = 0x200100 ∨ (0x610000 ≤ off ∧ off < 0x618000 ∧ off % 0x1000 = 4)) (fieldsAt off) := by
  unfold fieldsAt
  dsimp only
  refine noW1s_ite _ _ _ _ (fun _ => by simp [noW1s]) (fun _ => ?_)
  refine noW1s_ite _ _ _ _ (fun _ => glbFields_noW1s _ _ _) (fun _ => ?_)
  refine noW1s_ite _ _ _ _ (fun _ => hqFields_noW1s _ _ _) (fun _ => ?_)
  refine noW1s_ite _ _ _ _ (fun _ => trayFields_noW1s _ _ _) (fun _ => ?_)
  refine noW1s_ite _ _ _ _ (fun _ => by simp [noW1s]) (fun _ => ?_)
  refine noW1s_ite _ _ _ _ (fun _ => fun f hf hw => ?_) (fun _ => ?_)
  · have := mbxFields_noW1s _ _ f hf hw
    omega
  refine noW1s_ite _ _ _ _ (fun _ => holeFields_noW1s _ _ _) (fun _ => ?_)
  refine noW1s_ite _ _ _ _ (fun _ => by simp [noW1s]) (fun _ => ?_)
  refine noW1s_ite _ _ _ _ (fun _ => secFields_noW1s _ _ _) (fun _ => ?_)
  refine noW1s_ite _ _ _ _ (fun _ => thmFields_noW1s _ _ _) (fun _ => ?_)
  refine noW1s_ite _ _ _ _ (fun _ => errFields_noW1s _ _ _) (fun _ => ?_)
  refine noW1s_ite _ _ _ _ (fun _ => pzlFields_noW1s _ _ _) (fun _ => ?_)
  refine noW1s_ite _ _ _ _ (fun _ => fun f hf hw => ?_) (fun _ => ?_)
  · have := portFields_noW1s _ _ f hf hw
    omega
  refine noW1s_ite _ _ _ _ (fun _ => by simp [noW1s]) (fun _ => ?_)
  refine noW1s_ite _ _ _ _ (fun _ => qosFields_noW1s _ _ _) (fun _ => ?_)
  refine noW1s_ite _ _ _ _ (fun _ => qregFields_noW1s _ _ _) (fun _ => ?_)
  refine noW1s_ite _ _ _ _ (fun _ => by simp [noW1s]) (fun _ => ?_)
  refine noW1s_ite _ _ _ _ (fun _ => bstFields_noW1s _ _ _) (fun _ => ?_)
  refine noW1s_ite _ _ _ _ (fun _ => kvmFields_noW1s _ _ _) (fun _ => ?_)
  refine noW1s_ite _ _ _ _ (fun _ => layFields_noW1s _ _ _) (fun _ => ?_)
  refine noW1s_ite _ _ _ _ (fun _ => by simp [noW1s]) (fun _ => ?_)
  refine noW1s_ite _ _ _ _ (fun _ => ?_) (fun _ => by simp [noW1s])
  refine noW1s_ite _ _ _ _ (fun _ => corFields_noW1s _ _ _) (fun _ => ?_)
  refine noW1s_ite _ _ _ _ (fun _ => by simp [noW1s]) (fun _ => ?_)
  refine noW1s_ite _ _ _ _ (fun _ => slcFields_noW1s _ _ _) (fun _ => ?_)
  refine noW1s_ite _ _ _ _ (fun _ => by simp [noW1s]) (fun _ => ?_)
  refine noW1s_ite _ _ _ _ (fun _ => lnkFields_noW1s _ _ _) (fun _ => ?_)
  refine noW1s_ite _ _ _ _ (fun _ => sideFields_noW1s _ _ _) (fun _ => ?_)
  refine noW1s_ite _ _ _ _ (fun _ => by simp [noW1s]) (fun _ => ?_)
  exact chsFields_noW1s _ _ _

end Sys2Proof.R
end

