-- ==== Sys2Proof/Laws/Access.lean ====
section
/-!
SUPPORT. Register accesses: what a read that clears and a write by access type do to each field of the register.
-/

set_option Elab.async false

namespace Sys2Proof

/-! ### Single bits -/

theorem bit_eq_bits (v i : Nat) : bit v i = (bits v i i == 1) := by
  simp [bit, bits]

namespace Machine

theorem setBit_eq_putBits (v i : Nat) (b : Bool) : setBit v i b = putBits v i i (if b then 1 else 0) := by
  unfold setBit putBits bit bits
  simp only [Nat.add_sub_cancel_left, Nat.pow_one]
  have h : v / 2 ^ i % 2 = 0 ∨ v / 2 ^ i % 2 = 1 := by omega
  rcases h with h | h <;> cases b <;> simp [h]
  have : 2 ^ i ≤ v := by
    apply Nat.le_of_not_lt
    intro hl
    rw [Nat.div_eq_of_lt hl] at h
    simp at h
  omega

theorem bit_setBit_same (v i : Nat) (b : Bool) : bit (setBit v i b) i = b := by
  rw [setBit_eq_putBits, bit_eq_bits, bits_putBits_same]
  cases b <;> simp

theorem bits_putBits_ne (w hi lo v hi' lo' : Nat) (hl : lo ≤ hi) (hl' : lo' ≤ hi') (h : hi < lo' ∨ hi' < lo) :
    bits (putBits w hi lo v) hi' lo' = bits w hi' lo' := by
  rcases h with h | h
  · exact bits_putBits_above _ _ _ _ _ _ (by omega)
  · exact bits_putBits_below _ _ _ _ _ _ (by omega)

theorem bits_setBit_ne (v i : Nat) (b : Bool) (hi lo : Nat) (hl : lo ≤ hi) (h : i < lo ∨ hi < i) :
    bits (setBit v i b) hi lo = bits v hi lo := by
  rw [setBit_eq_putBits, bits_putBits_ne _ _ _ _ _ _ (Nat.le_refl _) hl h]

theorem bit_setBit_ne (v i j : Nat) (b : Bool) (h : j ≠ i) : bit (setBit v i b) j = bit v j := by
  rw [bit_eq_bits, bit_eq_bits, bits_setBit_ne _ _ _ _ _ (Nat.le_refl _) (by omega)]

theorem bit_mod (v i w : Nat) (h : i < w) : bit (v % 2 ^ w) i = bit v i := by
  rw [bit_eq_bits, bit_eq_bits, bits_mod _ _ _ _ h]

/-! ### Reads that clear (R11) -/

theorem rcCleared_outside (fs : List FieldSpec) (h : R.fieldsOk fs) (w hi lo : Nat) (hl : lo ≤ hi)
    (hh : ∀ g ∈ fs, g.hi < lo ∨ hi < g.lo) : bits (rcCleared fs w) hi lo = bits w hi lo := by
  unfold rcCleared
  induction fs generalizing w with
  | nil => rfl
  | cons g fs ih =>
    have hg := h.2 g (by simp)
    rw [List.foldl_cons, ih ⟨h.1.of_cons, fun x hx => h.2 x (by simp [hx])⟩ _ (fun x hx => hh x (by simp [hx]))]
    split
    · exact bits_putBits_ne _ _ _ _ _ _ hg.1 hl (hh g (by simp))
    · rfl

/-- A read clears the RC fields of its register and leaves the rest. -/
theorem rcCleared_bits (fs : List FieldSpec) (h : R.fieldsOk fs) (w : Nat) (f : FieldSpec) (hf : f ∈ fs) :
    bits (rcCleared fs w) f.hi f.lo = if f.acc = .rc then 0 else bits w f.hi f.lo := by
  induction fs generalizing w with
  | nil => simp at hf
  | cons g fs ih =>
    have hok : R.fieldsOk fs := ⟨h.1.of_cons, fun x hx => h.2 x (by simp [hx])⟩
    have hgf := (List.pairwise_cons.mp h.1).1
    have hf' := h.2 f hf
    have hg := h.2 g (by simp)
    have e : rcCleared (g :: fs) w = rcCleared fs (if g.acc == .rc then putBits w g.hi g.lo 0 else w) := rfl
    rw [e]
    by_cases hfg : f ∈ fs
    · rw [ih hok _ hfg]
      split
      · rfl
      · split
        · exact bits_putBits_ne _ _ _ _ _ _ hg.1 hf'.1 (hgf f hfg).symm
        · rfl
    · have : f = g := by simpa [hfg] using hf
      subst this
      rw [rcCleared_outside fs hok _ _ _ hf'.1 (fun x hx => hgf x hx)]
      by_cases hc : f.acc = .rc
      · simp [hc, bits_putBits_same]
      · simp [hc]

/-! ### Writes by access type (R11, R12), hardware setting no flag in the same cycle -/

theorem State.clearFlag_plain (s : State) (off b : Nat) : s.clearFlag off b false = s.setW off (setBit (s.getW off) b false) := by
  simp [State.clearFlag, w1cBit]

/-- What clearing a list of bits of a register does to its word. -/
theorem State.clearBits_spec (s : State) (off v : Nat) (l : List Nat) (h32 : ∀ b ∈ l, b < 32) :
    let t := s.each (l.filter (bit v)) (fun s' b => s'.clearFlag off b false)
    t = { s with regs := t.regs } ∧ (∀ j, j ≠ off → t.getW j = s.getW j) ∧
      (∀ hi lo, lo ≤ hi → hi < 32 → (∀ b ∈ l, b < lo ∨ hi < b) → bits (t.getW off) hi lo = bits (s.getW off) hi lo) ∧
      (∀ b, b < 32 → bit (t.getW off) b = (bit (s.getW off) b && !(decide (b ∈ l) && bit v b))) := by
  induction l generalizing s with
  | nil => simp
  | cons a l ih =>
    have h32' : ∀ b ∈ l, b < 32 := fun b hb => h32 b (by simp [hb])
    have ha := h32 a (by simp)
    by_cases hv : bit v a = true
    · have e : (List.filter (bit v) (a :: l)) = a :: l.filter (bit v) := by simp [hv]
      simp only [e, State.each_cons]
      obtain ⟨h1, h2, h3, h4⟩ := ih (s.clearFlag off a false) h32'
      have hc := State.clearFlag_plain s off a
      refine ⟨?_, ?_, ?_, ?_⟩
      · rw [h1]
        simp [hc]
      · intro j hj
        rw [h2 j hj, hc, State.getW_setW_ne _ _ _ hj]
      · intro hi lo hl hh hb
        rw [h3 hi lo hl hh (fun b hb' => hb b (by simp [hb'])), hc, State.getW_setW_same, bits_mod _ _ _ _ hh,
          bits_setBit_ne _ _ _ _ _ hl (hb a (by simp))]
      · intro b hb
        rw [h4 b hb, hc, State.getW_setW_same, bit_mod _ _ _ hb]
        by_cases hba : b = a
        · subst hba
          simp [bit_setBit_same, hv]
        · simp [bit_setBit_ne _ _ _ _ hba, hba]
    · have e : (List.filter (bit v) (a :: l)) = l.filter (bit v) := by simp [hv]
      simp only [e]
      obtain ⟨h1, h2, h3, h4⟩ := ih s h32'
      refine ⟨h1, h2, fun hi lo hl hh hb => h3 hi lo hl hh (fun b hb' => hb b (by simp [hb'])), ?_⟩
      intro b hb
      rw [h4 b hb]
      by_cases hba : b = a
      · subst hba
        simp [hv]
      · simp [hba]

/-- What a write does to one field of its register. -/
def fieldWritten (o v : Nat) (f : FieldSpec) (s t : State) : Prop :=
  hasOwnRow o f = false →
    ((f.acc = .rw ∨ f.acc = .rws) → bits (t.getW o) f.hi f.lo = bits v f.hi f.lo) ∧
    (f.acc = .w1c → ∀ b, f.lo ≤ b → b ≤ f.hi → bit (t.getW o) b = (bit (s.getW o) b && !bit v b)) ∧
    ((f.acc = .ro ∨ f.acc = .wo ∨ f.acc = .rc) → bits (t.getW o) f.hi f.lo = bits (s.getW o) f.hi f.lo)

theorem State.writeField_spec (s : State) (o v : Nat) (f : FieldSpec) (hw : f.acc ≠ .w1s ∨ hasOwnRow o f = true) (hl : f.lo ≤ f.hi) (hh : f.hi < 32) :
    let t := s.writeField o v 0 f
    t = { s with regs := t.regs } ∧ (∀ j, j ≠ o → t.getW j = s.getW j) ∧
      (∀ hi lo, lo ≤ hi → hi < 32 → f.hi < lo ∨ hi < f.lo → bits (t.getW o) hi lo = bits (s.getW o) hi lo) ∧
      fieldWritten o v f s t := by
  by_cases ho : hasOwnRow o f = true
  · simp [State.writeField, ho, fieldWritten]
  · have ho' : hasOwnRow o f = false := by simpa using ho
    have hset : ∀ x, let t := s.setF ⟨o, f.hi, f.lo⟩ x
        t = { s with regs := t.regs } ∧ (∀ j, j ≠ o → t.getW j = s.getW j) ∧
        (∀ hi lo, lo ≤ hi → hi < 32 → f.hi < lo ∨ hi < f.lo → bits (t.getW o) hi lo = bits (s.getW o) hi lo) ∧
        bits (t.getW o) f.hi f.lo = x % 2 ^ (f.hi + 1 - f.lo) := by
      intro x
      refine ⟨rfl, fun j hj => State.getW_setF_ne _ _ _ hj, ?_, ?_⟩
      · intro hi lo hl' hh' hd
        exact (State.getW_setW_same s o _) ▸ (by rw [bits_mod _ _ _ _ hh', bits_putBits_ne _ _ _ _ _ _ hl hl' hd])
      · exact State.getF_setF_same s ⟨o, f.hi, f.lo⟩ x hh
    have hmod : bits v f.hi f.lo % 2 ^ (f.hi + 1 - f.lo) = bits v f.hi f.lo := Nat.mod_eq_of_lt (bits_lt _ _ _)
    rcases hacc : f.acc with _ | _ | _ | _ | _ | _ | _
    · simp [State.writeField, ho', hacc, fieldWritten]
    · obtain ⟨h1, h2, h3, h4⟩ := hset (bits v f.hi f.lo)
      simp only [State.writeField, ho', hacc]
      exact ⟨h1, h2, h3, fun _ => ⟨fun _ => h4.trans hmod, fun h => by simp [hacc] at h, fun h => by simp [hacc] at h⟩⟩
    · simp [State.writeField, ho', hacc, fieldWritten]
    · simp only [State.writeField, ho', hacc]
      have h32 : ∀ b ∈ (List.range (f.hi + 1 - f.lo)).map (· + f.lo), b < 32 := by
        intro b hb
        simp only [List.mem_map, List.mem_range] at hb
        omega
      have hb0 : ∀ (s' : State) b, s'.clearFlag o b (bit 0 b) = s'.clearFlag o b false := by
        intro s' b
        simp [bit]
      simp only [hb0]
      obtain ⟨h1, h2, h3, h4⟩ := State.clearBits_spec s o v ((List.range (f.hi + 1 - f.lo)).map (· + f.lo)) h32
      refine ⟨h1, h2, ?_, fun _ => ⟨fun h => by simp [hacc] at h, ?_, fun h => by simp [hacc] at h⟩⟩
      · intro hi lo hl' hh' hd
        refine h3 hi lo hl' hh' ?_
        intro b hb
        simp only [List.mem_map, List.mem_range] at hb
        omega
      · intro _ b hb1 hb2
        have := h4 b (by omega)
        rw [if_neg (by simp), this]
        have hm : b ∈ (List.range (f.hi + 1 - f.lo)).map (· + f.lo) := by
          simp only [List.mem_map, List.mem_range]
          exact ⟨b - f.lo, by omega, by omega⟩
        simp [hm]
    · simp [hacc, ho'] at hw
    · simp [State.writeField, ho', hacc, fieldWritten]
    · obtain ⟨h1, h2, h3, h4⟩ := hset (bits v f.hi f.lo)
      simp only [State.writeField, ho', hacc]
      exact ⟨h1, h2, h3, fun _ => ⟨fun _ => h4.trans hmod, fun h => by simp [hacc] at h, fun h => by simp [hacc] at h⟩⟩

/-- A write of a whole register, field by field. -/
theorem State.eachField_spec (fs : List FieldSpec) (hok : R.fieldsOk fs) (o v : Nat)
    (hw : ∀ f ∈ fs, f.acc ≠ .w1s ∨ hasOwnRow o f = true) (s : State) :
    let t := s.each fs (fun s' f => s'.writeField o v 0 f)
    t = { s with regs := t.regs } ∧ (∀ j, j ≠ o → t.getW j = s.getW j) ∧
      (∀ hi lo, lo ≤ hi → hi < 32 → (∀ f ∈ fs, f.hi < lo ∨ hi < f.lo) → bits (t.getW o) hi lo = bits (s.getW o) hi lo) ∧
      ∀ f ∈ fs, fieldWritten o v f s t := by
  induction fs generalizing s with
  | nil => simp
  | cons g fs ih =>
    have hgf := (List.pairwise_cons.mp hok.1).1
    have hg := hok.2 g (by simp)
    obtain ⟨a1, a2, a3, a4⟩ := State.writeField_spec s o v g (hw g (by simp)) hg.1 hg.2
    have hok' : R.fieldsOk fs := ⟨hok.1.of_cons, fun x hx => hok.2 x (by simp [hx])⟩
    obtain ⟨b1, b2, b3, b4⟩ := ih hok' (fun f hf => hw f (by simp [hf])) (s.writeField o v 0 g)
    simp only [State.each_cons]
    refine ⟨?_, fun j hj => (b2 j hj).trans (a2 j hj), ?_, ?_⟩
    · rw [b1, a1]
    · intro hi lo hl hh hf
      rw [b3 hi lo hl hh (fun f hf' => hf f (by simp [hf'])), a3 hi lo hl hh (hf g (by simp))]
    · intro f hf
      by_cases hff : f ∈ fs
      · have hff' := hok.2 f hf
        have hd := hgf f hff
        intro hown
        obtain ⟨c1, c2, c3⟩ := b4 f hff hown
        refine ⟨c1, ?_, ?_⟩
        · intro hc b hb1 hb2
          rw [c2 hc b hb1 hb2, bit_eq_bits ((s.writeField o v 0 g).getW o), a3 b b (Nat.le_refl _) (by omega) (by omega),
            ← bit_eq_bits]
        · intro hc
          rw [c3 hc, a3 f.hi f.lo hff'.1 hff'.2 hd.symm]
      · have : f = g := by simpa [hff] using hf
        subst this
        have hkeep : ∀ hi lo, lo ≤ hi → hi ≤ f.hi → f.lo ≤ lo →
            bits ((State.each (s.writeField o v 0 f) fs (fun s' f => s'.writeField o v 0 f)).getW o) hi lo =
              bits ((s.writeField o v 0 f).getW o) hi lo := by
          intro hi lo hl h1 h2
          refine b3 hi lo hl (by omega) ?_
          intro x hx
          rcases hgf x hx with h | h <;> omega
        intro hown
        obtain ⟨c1, c2, c3⟩ := a4 hown
        refine ⟨?_, ?_, ?_⟩
        · intro hc
          rw [hkeep _ _ hg.1 (Nat.le_refl _) (Nat.le_refl _), c1 hc]
        · intro hc b hb1 hb2
          rw [bit_eq_bits, hkeep b b (Nat.le_refl _) hb2 hb1, ← bit_eq_bits, c2 hc b hb1 hb2]
        · intro hc
          rw [hkeep _ _ hg.1 (Nat.le_refl _) (Nat.le_refl _), c3 hc]

end Machine

end Sys2Proof
end

