-- ==== Sys2Proof/Laws/Mem.lean ====
section
/-!
SUPPORT. Device memory: a read after a write, and the canonical form that every memory operation keeps.
-/

set_option Elab.async false

namespace Sys2Proof.Machine

/-! ### A read after a write -/

@[simp] theorem State.wrByte_memLost (s : State) (a : Nat) (v : Byte) : (s.wrByte a v).memLost = s.memLost := rfl

theorem byte_xor_cancel (v u : Byte) : v ^^^ u ^^^ u = v := by rw [BitVec.xor_assoc, BitVec.xor_self, BitVec.xor_zero]

theorem State.rdByte_wrByte (s : State) (a x : Nat) (v : Byte) :
    (s.wrByte a v).rdByte x = if x = a then v else s.rdByte x := by
  unfold State.rdByte State.wrByte State.unwritten
  simp only [Tbl.get_set]
  by_cases h : x = a
  · simp only [h, if_true]
    exact byte_xor_cancel v _
  · simp only [h, if_false]

theorem State.rdByte_wrBytes (l : List Byte) : ∀ (s : State) (a x : Nat),
    (s.wrBytes a l).rdByte x = if a ≤ x ∧ x < a + l.length then l.getD (x - a) 0 else s.rdByte x := by
  induction l with
  | nil =>
    intro s a x
    have h : ¬(a ≤ x ∧ x < a + ([] : List Byte).length) := by simp only [List.length_nil]; omega
    rw [if_neg h]
    rfl
  | cons b l ih =>
    intro s a x
    simp only [State.wrBytes, ih, State.rdByte_wrByte, List.length_cons]
    by_cases hx : x = a
    · rw [if_neg (by omega), if_pos hx, if_pos (by omega), hx, Nat.sub_self]
      rfl
    · rw [if_neg hx]
      by_cases h1 : a + 1 ≤ x ∧ x < a + 1 + l.length
      · have h3 : x - a = (x - (a + 1)) + 1 := by omega
        rw [if_pos h1, if_pos (by omega), h3]
        rfl
      · rw [if_neg h1, if_neg (by omega)]

/-! ### Operations that leave memory -/

/-- Memory and what it reads as are those of `s`. -/
def State.sameMem (s t : State) : Prop := t.mem = s.mem ∧ t.memLost = s.memLost

theorem State.sameMem.refl (s : State) : s.sameMem s := ⟨rfl, rfl⟩

theorem State.sameMem.trans {s t u : State} (h : s.sameMem t) (k : t.sameMem u) : s.sameMem u :=
  ⟨k.1.trans h.1, k.2.trans h.2⟩

theorem State.sameMem.wf {s t : State} (h : s.sameMem t) (w : Memory.wf s.mem) : Memory.wf t.mem := by
  rw [h.1]
  exact w

theorem State.sameMem.ite {s t u : State} {c : Prop} [Decidable c] (h : s.sameMem t) (k : s.sameMem u) :
    s.sameMem (if c then t else u) := by
  by_cases hc : c
  · rw [if_pos hc]
    exact h
  · rw [if_neg hc]
    exact k

theorem State.notesOnly.sameMem {s t : State} (h : s.notesOnly t) : s.sameMem t := by
  unfold State.notesOnly at h
  rw [h]
  exact ⟨rfl, rfl⟩

theorem State.setSlice_sameMem (s : State) (u : Nat) (f : SliceSt → SliceSt) : s.sameMem (s.setSlice u f) := ⟨rfl, rfl⟩

theorem State.recordDefect_sameMem (s : State) (d : Nat) : s.sameMem (s.recordDefect d) := by
  unfold State.recordDefect
  split <;> exact ⟨rfl, rfl⟩

theorem State.rowStays_sameMem (s : State) (u key : Nat) : s.sameMem (s.rowStays u key) := by
  unfold State.rowStays
  extract_lets b a
  generalize R.SLC_FLAGS.spare_rows_out u = f
  generalize defRow (u / 9) (u % 9) (b / 32) (b % 32) (key % 4096) = d
  generalize b / 32 * 16 + u % 9 = i
  exact (((State.flag_notes s f).trans (State.logE_notes _ (u / 9) 1 i 4 0 true a 0 1)).sameMem).trans (State.recordDefect_sameMem _ d)

theorem State.declareBad_sameMem (s : State) (u key : Nat) : s.sameMem (s.declareBad u key) := by
  unfold State.declareBad
  extract_lets s1
  have h : s.sameMem s1 := State.setSlice_sameMem s u _
  exact State.sameMem.ite (State.sameMem.refl s)
    (State.sameMem.ite (h.trans (State.rowStays_sameMem s1 u key)) (h.trans (State.setSlice_sameMem s1 u _)))

theorem State.countErr_sameMem (s : State) (u ch bank : Nat) : s.sameMem (s.countErr u ch bank) := by
  unfold State.countErr
  exact State.setSlice_sameMem s u _

theorem State.logSlice_sameMem (s : State) (l : Loc) (ev cls a detail : Nat) : s.sameMem (s.logSlice l ev cls a detail) :=
  (State.logE_notes _ _ _ _ _ _ _ _ _ _).sameMem

theorem State.noteCorrected_sameMem (s : State) (l : Loc) (a : Nat) : s.sameMem (s.noteCorrected l a) := by
  unfold State.noteCorrected
  extract_lets sec key s1 s2 s3 thr
  have h1 : s.sameMem s1 := ((State.incSat_notes s _ _).trans (State.flag_notes _ _)).sameMem
  have h2 : s1.sameMem s2 := State.logSlice_sameMem s1 l _ _ _ _
  have h3 : s2.sameMem s3 := (State.countErr_sameMem s2 _ _ _).trans (State.setSlice_sameMem _ _ _)
  have h : s.sameMem s3 := (h1.trans h2).trans h3
  split
  · exact h.trans (State.declareBad_sameMem s3 _ _)
  · exact h

theorem State.noteUncorrectable_sameMem (s : State) (l : Loc) (a : Nat) : s.sameMem (s.noteUncorrectable l a) := by
  unfold State.noteUncorrectable
  extract_lets sec s1
  have h1 : s.sameMem s1 := (State.flag_notes s _).sameMem.trans (State.logSlice_sameMem _ l _ _ _ _)
  exact (h1.trans (State.countErr_sameMem s1 _ _ _)).trans (State.declareBad_sameMem _ _ _)

theorem State.backsFirst_sameMem (s : State) (l : Loc) : s.sameMem (s.backsFirst l) := by
  unfold State.backsFirst
  split
  · exact State.sameMem.refl s
  · exact ⟨rfl, rfl⟩

/-- R197, R198: a read of a sector changes no byte. -/
theorem State.readSector_sameMem (s : State) (a : Nat) : s.sameMem (s.readSector a).1 := by
  unfold State.readSector
  extract_lets sec
  split
  · exact State.sameMem.refl s
  · rename_i l _
    extract_lets s1 e
    have h : s.sameMem s1 := State.backsFirst_sameMem s l
    split
    · exact h
    · split
      · exact h.trans (State.noteCorrected_sameMem s1 _ _)
      · split
        · exact h.trans (State.noteUncorrectable_sameMem s1 _ _)
        · exact h.trans ⟨rfl, rfl⟩

/-! ### The canonical form -/

theorem State.wrByte_wf (s : State) (a : Nat) (v : Byte) (h : Memory.wf s.mem) : Memory.wf (s.wrByte a v).mem :=
  Tbl.set_wf _ _ _ _ h

theorem State.wrBytes_wf (l : List Byte) : ∀ (s : State) (a : Nat), Memory.wf s.mem → Memory.wf (s.wrBytes a l).mem := by
  induction l with
  | nil => exact fun s a h => h
  | cons b l ih => exact fun s a h => ih _ _ (s.wrByte_wf a b h)

theorem State.writeSector_wf (s : State) (a : Nat) (l : List Byte) (h : Memory.wf s.mem) : Memory.wf (s.writeSector a l).mem := by
  unfold State.writeSector
  extract_lets sec s1 m s2 s3
  have h1 : Memory.wf s1.mem := State.wrBytes_wf l s sec h
  have h3 : Memory.wf s3.mem := by
    unfold s3
    split <;> exact h1
  split
  · exact h3
  · exact h3

/-- R194, R196: a write of part of a sector. -/
theorem State.writePart_wf (s : State) (sec : Nat) (upd : Nat → Option Byte) (h : Memory.wf s.mem) :
    Memory.wf (s.writePart sec upd).1.mem := by
  unfold State.writePart
  extract_lets full r
  have hr : Memory.wf r.1.mem := (s.readSector_sameMem sec).wf h
  split
  · exact s.writeSector_wf _ _ h
  · split
    · exact hr
    · exact State.writeSector_wf _ _ _ hr

theorem State.writeParts_wf (upd : Nat → Nat → Option Byte) (l : List Nat) : ∀ (st : State × Bool), Memory.wf st.1.mem →
    Memory.wf (l.foldl (fun (st : State × Bool) sec =>
      let q := st.1.writePart sec (upd sec)
      (q.1, st.2 && q.2)) st).1.mem := by
  induction l with
  | nil => exact fun st h => h
  | cons x l ih => exact fun st h => ih _ (State.writePart_wf st.1 x _ h)

theorem State.writeRange_wf (s : State) (a : Nat) (bytes : List Byte) (en : List Bool) (h : Memory.wf s.mem) :
    Memory.wf (s.writeRange a bytes en).1.mem :=
  State.writeParts_wf (updAt a bytes en) (sectorsOf a bytes.length) (s, true) h

/-- R442: zeroing a range. -/
theorem State.zeroRange_wf (s : State) (a n : Nat) (h : Memory.wf s.mem) : Memory.wf (s.zeroRange a n).mem := by
  unfold State.zeroRange
  extract_lets s1
  have h1 : Memory.wf s1.mem := by
    unfold s1
    split
    · exact Tbl.keep_wf 0 s.mem (fun k => !inRange k a n) h
    · exact State.wrBytes_wf _ _ _ h
  exact h1

/-! ### The sideboard cache -/

/-- What every step of a fold keeps in canonical form. -/
theorem State.each_wf {α : Type} (f : State → α → State) (h : ∀ s a, Memory.wf s.mem → Memory.wf (f s a).mem) (l : List α) :
    ∀ (s : State), Memory.wf s.mem → Memory.wf (s.each l f).mem := by
  unfold State.each
  induction l with
  | nil => exact fun s w => w
  | cons a l ih => exact fun s w => ih _ (h s a w)

/-- R214: the dirty sectors of a line at an address. -/
theorem State.writeSectors_wf (a : Nat) (d : Tbl Byte) (l : List Nat) (s : State) (h : Memory.wf s.mem) :
    Memory.wf (s.each l (fun s' i => s'.writeSector (a + 64 * i) (Tbl.getList 0 d (64 * i) 64))).mem :=
  State.each_wf _ (fun s i w => s.writeSector_wf (a + 64 * i) (Tbl.getList 0 d (64 * i) 64) w) l s h

theorem State.writeBackLine_wf (s : State) (key : Nat) (l : Line) (h : Memory.wf s.mem) : Memory.wf (s.writeBackLine key l).mem := by
  unfold State.writeBackLine
  extract_lets a
  split
  · exact h
  · split
    · exact (State.logE_notes _ _ _ _ _ _ _ _ _ _).sameMem.wf h
    · exact State.writeSectors_wf a l.data (lineSectors l.dirty) s h

theorem State.writeBackLines_wf (key : Nat) (l : List Line) : ∀ (s : State), Memory.wf s.mem →
    Memory.wf (l.foldl (fun s' x => s'.writeBackLine key x) s).mem := by
  induction l with
  | nil => exact fun s h => h
  | cons x l ih => exact fun s h => ih _ (s.writeBackLine_wf key x h)

/-- R213: making room in a set writes at most the line that is given up. -/
theorem State.evictLine_wf (s : State) (key : Nat) (h : Memory.wf s.mem) : Memory.wf (s.evictLine key).mem := by
  unfold State.evictLine
  extract_lets ls w s1
  split
  · exact h
  · exact State.writeBackLines_wf key _ s.tick h

/-- R213: a sector that the cache takes writes at most the line that is given up for it. -/
theorem State.putSector_wf (s : State) (a : Nat) (bytes : List Byte) (dirty : Bool) (h : Memory.wf s.mem) :
    Memory.wf (s.putSector a bytes dirty).mem := by
  unfold State.putSector
  extract_lets key i
  split
  · exact h
  · exact State.evictLine_wf s key h

/-- R213: filling a line. -/
theorem State.fillLine_wf (s : State) (a : Nat) (whole : List Nat) (h : Memory.wf s.mem) : Memory.wf (s.fillLine a whole).mem := by
  refine State.each_wf _ (fun s x w => ?_) _ s h
  split
  · exact w
  · extract_lets r
    have hr : Memory.wf r.1.mem := (s.readSector_sameMem x).wf w
    split
    · exact State.putSector_wf _ _ _ _ hr
    · exact hr

theorem State.cacheWriteSector_wf (s : State) (sec : Nat) (upd : Nat → Option Byte) (h : Memory.wf s.mem) :
    Memory.wf (s.cacheWriteSector sec upd).1.mem := by
  unfold State.cacheWriteSector
  split
  · exact s.writePart_wf _ _ h
  · split
    · exact State.putSector_wf _ _ _ _ h
    · exact h

theorem State.cacheWriteSectors_wf (upd : Nat → Nat → Option Byte) (l : List Nat) : ∀ (st : State × Bool), Memory.wf st.1.mem →
    Memory.wf (l.foldl (fun (st : State × Bool) sec =>
      let q := st.1.cacheWriteSector sec (upd sec)
      (q.1, st.2 && q.2)) st).1.mem := by
  induction l with
  | nil => exact fun st h => h
  | cons x l ih => exact fun st h => ih _ (State.cacheWriteSector_wf st.1 x _ h)

theorem State.cacheWrite_wf (s : State) (a : Nat) (bytes : List Byte) (en : List Bool) (h : Memory.wf s.mem) :
    Memory.wf (s.cacheWrite a bytes en).1.mem := by
  unfold State.cacheWrite
  extract_lets secs whole s1
  exact State.cacheWriteSectors_wf _ secs (s1, true) (State.each_wf _ (fun s x w => s.fillLine_wf x whole w) _ s h)

/-- R196, R213: a write keeps the canonical form, through the cache or past it. -/
theorem State.memWrite_wf (s : State) (a : Nat) (bytes : List Byte) (en : List Bool) (h : Memory.wf s.mem) :
    Memory.wf (s.memWrite a bytes en).1.mem := by
  unfold State.memWrite
  split
  · exact s.cacheWrite_wf _ _ _ h
  · exact s.writeRange_wf _ _ _ h

end Sys2Proof.Machine
end

