-- ==== Sys2Proof/Laws/PerInstr.lean ====
section
/-!
SUPPORT. Per-command lemmas of the family Named: the unit that a well-formed command names exists.
-/

set_option Elab.async false

namespace Sys2Proof.Laws.Named

open Sys2Proof

/-- The first numbered operand of a command (a core, a tray, a port, a chest, a value of a register field) and the
bound of its range. -/
def unitOf : Instr → Option (Nat × Nat)
  | .bar0BadAccess _ _ off _ => some (off, 2 ^ 26)
  | .reg64LoRead _ off => some (off, 2 ^ 26)
  | .reg64HiWrite _ off _ => some (off, 2 ^ 26)
  | .rcRead _ off => some (off, 2 ^ 26)
  | .registerWrite _ off _ _ => some (off, 2 ^ 26)
  | .powerUp _ => none
  | .powerRemoval => none
  | .brownOut => none
  | .vioExcursion => none
  | .vaonExcursion => none
  | .perstNAssert => none
  | .perstNRelease _ => none
  | .hotReset => none
  | .linkDown => none
  | .functionLevelReset f => some (f, 17)
  | .bootStep2 v _ _ => some (v, 2 ^ 32)
  | .bootStep3 v _ => some (v, 2 ^ 32)
  | .bootStep4 v _ => some (v, 2 ^ 32)
  | .bootStep5 v _ => some (v, 2 ^ 32)
  | .bootStep6 v _ => some (v, 2 ^ 32)
  | .bootStepOutOfOrder v => some (v, 2 ^ 32)
  | .bootStepEnd timeUs => some (timeUs, 2 ^ 24)
  | .resetCore v => some (v, 2 ^ 32)
  | .resetCluster v => some (v, 2 ^ 32)
  | .resetPartition v => some (v, 2 ^ 32)
  | .unitUncorrectableReset level _ _ => some (level, 3)
  | .partialResetEnd level _ _ _ => some (level, 3)
  | .islandRegulatorFault u => some (u, 36)
  | .arrSlotIssue u _ => some (u, 36)
  | .arrFillRow u _ => some (u, 36)
  | .arrSlotComplete u _ => some (u, 36)
  | .blockRotation u _ => some (u, 36)
  | .drain u _ => some (u, 36)
  | .arrHold u _ => some (u, 36)
  | .arrDuty u _ => some (u, 36)
  | .dutyWindow u => some (u, 36)
  | .landingWrite _ => none
  | .epilogueInvocation u => some (u, 36)
  | .prologueInvocation u _ => some (u, 36)
  | .vNop u _ => some (u, 36)
  | .vAdd u _ => some (u, 36)
  | .vSub u _ => some (u, 36)
  | .vMul u _ => some (u, 36)
  | .vFma u _ => some (u, 36)
  | .vFms u _ => some (u, 36)
  | .vMax u _ => some (u, 36)
  | .vMin u _ => some (u, 36)
  | .vUna u _ => some (u, 36)
  | .vCmp u _ => some (u, 36)
  | .vSel u _ => some (u, 36)
  | .vCvt u _ => some (u, 36)
  | .vExp2 u _ => some (u, 36)
  | .vLog2 u _ => some (u, 36)
  | .vRcp u _ => some (u, 36)
  | .vRsqrt u _ => some (u, 36)
  | .vShuf u _ => some (u, 36)
  | .vRred u _ => some (u, 36)
  | .vStrd u _ => some (u, 36)
  | .vStwr u _ => some (u, 36)
  | .vPgen u _ => some (u, 36)
  | .vPlog u _ => some (u, 36)
  | .vLd u _ => some (u, 36)
  | .vSt u _ => some (u, 36)
  | .vSend u _ => some (u, 36)
  | .sendArrival u => some (u, 36)
  | .vRecv u _ => some (u, 36)
  | .vSop u _ => some (u, 36)
  | .merge u _ => some (u, 36)
  | .deferredChain u => some (u, 36)
  | .finishPass u => some (u, 36)
  | .operationStart u => some (u, 36)
  | .shapeRecordRead u _ => some (u, 36)
  | .fetchUnit u _ _ => some (u, 36)
  | .memoryRead _ _ => none
  | .memoryWrite _ => none
  | .partialWrite _ _ => none
  | .correctedWriteBack u => some (u, 36)
  | .scrubBurst u _ _ => some (u, 36)
  | .refreshDue u _ => some (u, 36)
  | .refresh u _ => some (u, 36)
  | .rowRemap u _ _ => some (u, 36)
  | .channelRetire u _ => some (u, 36)
  | .channelErrorThreshold u _ => some (u, 36)
  | .channelRetrainFail u _ => some (u, 36)
  | .channelToSpare u => some (u, 36)
  | .rewritePassEnd u => some (u, 36)
  | .channelCutOff u => some (u, 36)
  | .atomicAdd _ => none
  | .atomicFadd _ => none
  | .atomicSmax _ => none
  | .atomicSmin _ => none
  | .atomicUmax _ => none
  | .atomicUmin _ => none
  | .atomicFmax _ => none
  | .atomicFmin _ => none
  | .atomicSwap _ => none
  | .atomicCas _ => none
  | .slotFp32Contribution _ => none
  | .slotFixedContribution _ => none
  | .slotZero _ => none
  | .slotRead _ => none
  | .marginTestStart u _ => some (u, 36)
  | .marginTestEnd u _ => some (u, 36)
  | .runSubmit u _ _ => some (u, 36)
  | .pupRunGo u _ => some (u, 36)
  | .runStart u => some (u, 36)
  | .cueDispatch u => some (u, 36)
  | .cueEnd u => some (u, 36)
  | .returnRecords u => some (u, 36)
  | .runEnd u => some (u, 36)
  | .pupHalt u _ => some (u, 36)
  | .pNop u _ _ => some (u, 36)
  | .pLdc u _ _ => some (u, 36)
  | .pStc u _ _ => some (u, 36)
  | .pCmul u _ _ => some (u, 36)
  | .pCfma u _ _ => some (u, 36)
  | .pCfmb u _ _ => some (u, 36)
  | .pLds u _ _ => some (u, 36)
  | .pSacc u _ _ => some (u, 36)
  | .pBcv u _ _ => some (u, 36)
  | .pAdd u _ _ => some (u, 36)
  | .pMul u _ _ => some (u, 36)
  | .pFma u _ _ => some (u, 36)
  | .pMax u _ _ => some (u, 36)
  | .pLim u _ _ => some (u, 36)
  | .pRsum u _ _ => some (u, 36)
  | .pRmax u _ _ => some (u, 36)
  | .pExp2 u _ _ => some (u, 36)
  | .pExp2r u _ _ => some (u, 36)
  | .pSop u _ _ => some (u, 36)
  | .pPuts u _ _ => some (u, 36)
  | .pPutv u _ _ => some (u, 36)
  | .pEnd u _ _ => some (u, 36)
  | .kvCreate c => some (c, 4)
  | .kvFork c => some (c, 4)
  | .kvAppend c => some (c, 4)
  | .kvVerifyCommit c => some (c, 4)
  | .kvFree c => some (c, 4)
  | .kvOpResume c => some (c, 4)
  | .kvmHold _ => none
  | .layoutLoad v => some (v, 2 ^ 32)
  | .imageFetchEnd _ => none
  | .layoutCommit _ => none
  | .layoutStart v => some (v, 2 ^ 32)
  | .layoutUnload v => some (v, 2 ^ 32)
  | .epochStart => none
  | .slotStart i _ => some (i, 2 ^ 16)
  | .sendDataReady i _ => some (i, 2 ^ 16)
  | .memberReady => none
  | .epochBoundary => none
  | .groupBroken => none
  | .actSwitch => none
  | .flitIdle p _ => some (p, 8)
  | .sched p _ => some (p, 8)
  | .fabricRead p _ => some (p, 8)
  | .fabricWrite p _ => some (p, 8)
  | .fabricAtomic p _ => some (p, 8)
  | .fabricData p _ => some (p, 8)
  | .fabricDone p _ => some (p, 8)
  | .close p _ => some (p, 8)
  | .time p _ => some (p, 8)
  | .assignId p _ => some (p, 8)
  | .setBound p _ => some (p, 8)
  | .init p _ => some (p, 8)
  | .flitDropped p _ => some (p, 8)
  | .flitSend p => some (p, 8)
  | .replayTimeout p => some (p, 8)
  | .requestTimeout tag => some (tag, 4096)
  | .timeSourceLoss p => some (p, 8)
  | .portEnable p _ => some (p, 8)
  | .portRetrain p => some (p, 8)
  | .portLoopback p _ => some (p, 8)
  | .laneRetire p _ => some (p, 8)
  | .laneErrorWindow p _ _ _ => some (p, 8)
  | .laneSignalLoss p _ => some (p, 8)
  | .portTrainingEnd p _ _ => some (p, 8)
  | .meshPacket chest _ _ => some (chest, 4)
  | .edgeFlitReceive k _ _ _ => some (k, 8)
  | .edgeReplayTimeout k _ => some (k, 8)
  | .edgeRetrain k => some (k, 8)
  | .edgeFramingLoss k => some (k, 8)
  | .edgeTrainingEnd k _ => some (k, 8)
  | .edgeFullRetrain k => some (k, 8)
  | .edgeAttemptTimeout k => some (k, 8)
  | .edgeRetire k => some (k, 8)
  | .edgeStable k => some (k, 8)
  | .requestLeave _ => none
  | .arbiterGrant _ => none
  | .scaleFactorArrive master _ => some (master, 256)
  | .qosCommit v => some (v, 2 ^ 32)
  | .starvation arb _ => some (arb, 12288)
  | .bar2Read addr _ => some (addr, 2 ^ 39)
  | .bar2Write addr _ _ => some (addr, 2 ^ 39)
  | .poisonedWrite addr => some (addr, 2 ^ 64)
  | .fetchadd addr _ _ => some (addr, 2 ^ 39)
  | .swapAtomicop addr _ _ => some (addr, 2 ^ 39)
  | .casAtomicop addr _ _ _ => some (addr, 2 ^ 39)
  | .doorbell t _ => some (t, 1088)
  | .cqHead t _ => some (t, 1088)
  | .trayEnable t _ => some (t, 1088)
  | .trayDisable t _ => some (t, 1088)
  | .trayFetch t _ => some (t, 1088)
  | .entryAccept t _ => some (t, 1088)
  | .entryDispatch t _ => some (t, 1088)
  | .workFinish u => some (u, 36)
  | .copyIn _ _ => none
  | .copyOut _ _ => none
  | .completionRecordWrite t => some (t, 1088)
  | .reqclass i _ => some (i, 17)
  | .wdkick i => some (i, 17)
  | .watchdogExpiry i => some (i, 17)
  | .heartbeat answered => some (answered, 2 ^ 17)
  | .pigeonholeSend _ i => some (i, 64)
  | .pigeonholeTake _ i => some (i, 64)
  | .mbxBindWrite _ i _ => some (i, 64)
  | .mbxLock _ v => some (v, 2 ^ 32)
  | .mctpSend _ => none
  | .mctpOther _ => none
  | .logPathReturn c => some (c, 4)
  | .logWord0Read _ slot => some (slot, 512)
  | .errInjectArm _ v => some (v, 2 ^ 32)
  | .intEnableWrite v => some (v, 2 ^ 32)
  | .powerSample pkg _ _ => some (pkg, 2 ^ 32)
  | .thermalModelUpdate c _ => some (c, 4)
  | .sensorSample c _ _ => some (c, 4)
  | .fallbackRelease c _ => some (c, 4)
  | .budgetExchange c _ => some (c, 4)
  | .budgetMessage c _ _ _ => some (c, 4)
  | .budgetMissing c _ => some (c, 4)
  | .packageCheck => none
  | .governorUpdate c => some (c, 4)
  | .sprintWindowClose _ ms => some (ms, 2 ^ 32)
  | .pwrModeWrite v => some (v, 2 ^ 32)
  | .pwrCapWrite v => some (v, 2 ^ 32)
  | .pwrbrkNAssert => none
  | .pwrbrkNRelease => none
  | .thmCoolantWrite v => some (v, 2 ^ 32)
  | .coolantStale => none
  | .coolingDegraded => none
  | .coolingRecovered => none
  | .coolFaultNAssert => none
  | .pauseComplete => none
  | .pausedRequestTimeout => none
  | .resume => none
  | .disagreeWindowEnd c _ => some (c, 4)
  | .bstPark v _ => some (v, 2 ^ 32)
  | .parkTestEnd fails _ _ _ => some (fails, 2 ^ 32)
  | .supplySample _ => none
  | .tokenRegisterOwnerKey _ => none
  | .tokenRevokeOwnerKey _ => none
  | .tokenDebugUnlock => none
  | .fuseBurnEnd _ => none
  | .debugZeroEnd => none
  | .jtagBypass => none
  | .jtagIdcode => none
  | .jtagSamplePreload => none
  | .jtagExtest => none
  | .jtagClamp => none
  | .jtagPrivate ir => some (ir, 64)
  | .getVersion => none
  | .getCapabilities => none
  | .negotiateAlgorithms _ => none
  | .getDigests => none
  | .getCertificate slot _ _ => some (slot, 2 ^ 16)
  | .challenge slot _ => some (slot, 2 ^ 16)
  | .getMeasurements index _ _ => some (index, 256)
  | .keyExchange slot => some (slot, 2 ^ 16)
  | .finishSpdm session _ => some (session, 2 ^ 32)
  | .spdmHeartbeat session => some (session, 2 ^ 32)
  | .keyUpdate session => some (session, 2 ^ 32)
  | .endSession session => some (session, 2 ^ 32)
  | .spdmUnsupported code => some (code, 256)
  | .ideKm session _ _ _ _ _ => some (session, 2 ^ 32)
  | .badFlitReceived p _ _ => some (p, 8)
  | .edgeLaneRepair k _ _ => some (k, 8)
  | .sensorNoConversion c _ => some (c, 4)
  | .coolFaultNRelease => none
  | .controlCoreStart i => some (i, 17)
  | .mctpRouteToBmc => none
  | .plinthFloorFailure c => some (c, 4)
  | .tokenRefusedKind => none
  | .kvUnlistedOp c => some (c, 4)
  | .resetLevelRefused v => some (v, 2 ^ 32)

/-- The unit a well-formed command names is one of those that exist. -/
def Statement (i : Instr) : Prop := wellFormed i = true → ∀ p, unitOf i = some p → p.1 < p.2

theorem left {a b : Bool} (h : (a && b) = true) : a = true := (Bool.and_eq_true_iff.mp h).1
theorem right {a b : Bool} (h : (a && b) = true) : b = true := (Bool.and_eq_true_iff.mp h).2

theorem bar0BadAccess (m : Master) (write : Bool) (off : Nat) (detail : Nat) : Statement (.bar0BadAccess m write off detail) := by intro h p hp; cases hp; exact of_decide_eq_true (right (left h))
theorem reg64LoRead (m : Master) (off : Nat) : Statement (.reg64LoRead m off) := by intro h p hp; cases hp; exact of_decide_eq_true (right h)
theorem reg64HiWrite (m : Master) (off : Nat) (v : Nat) : Statement (.reg64HiWrite m off v) := by intro h p hp; cases hp; exact of_decide_eq_true (right (left h))
theorem rcRead (m : Master) (off : Nat) : Statement (.rcRead m off) := by intro h p hp; cases hp; exact of_decide_eq_true (right h)
theorem registerWrite (m : Master) (off : Nat) (v : Nat) (hwSet : Nat) : Statement (.registerWrite m off v hwSet) := by intro h p hp; cases hp; exact of_decide_eq_true (right (left (left h)))
theorem powerUp (inOrder : Bool) : Statement (.powerUp inOrder) := by intro _ p hp; cases hp
theorem powerRemoval : Statement (.powerRemoval) := by intro _ p hp; cases hp
theorem brownOut : Statement (.brownOut) := by intro _ p hp; cases hp
theorem vioExcursion : Statement (.vioExcursion) := by intro _ p hp; cases hp
theorem vaonExcursion : Statement (.vaonExcursion) := by intro _ p hp; cases hp
theorem perstNAssert : Statement (.perstNAssert) := by intro _ p hp; cases hp
theorem perstNRelease (behavSel : Bool) : Statement (.perstNRelease behavSel) := by intro _ p hp; cases hp
theorem hotReset : Statement (.hotReset) := by intro _ p hp; cases hp
theorem linkDown : Statement (.linkDown) := by intro _ p hp; cases hp
theorem functionLevelReset (f : Nat) : Statement (.functionLevelReset f) := by intro h p hp; cases hp; exact of_decide_eq_true h
theorem bootStep2 (v : Nat) (fw : HostRead) (park : HostRead) : Statement (.bootStep2 v fw park) := by intro h p hp; cases hp; exact of_decide_eq_true h
theorem bootStep3 (v : Nat) (faulted : Nat) : Statement (.bootStep3 v faulted) := by intro h p hp; cases hp; exact of_decide_eq_true (left h)
theorem bootStep4 (v : Nat) (res : SelfTestRes) : Statement (.bootStep4 v res) := by intro h p hp; cases hp; exact of_decide_eq_true h
theorem bootStep5 (v : Nat) (badCores : Nat) : Statement (.bootStep5 v badCores) := by intro h p hp; cases hp; exact of_decide_eq_true (left h)
theorem bootStep6 (v : Nat) (lic : HostRead) : Statement (.bootStep6 v lic) := by intro h p hp; cases hp; exact of_decide_eq_true h
theorem bootStepOutOfOrder (v : Nat) : Statement (.bootStepOutOfOrder v) := by intro h p hp; cases hp; exact of_decide_eq_true h
theorem bootStepEnd (timeUs : Nat) : Statement (.bootStepEnd timeUs) := by intro h p hp; cases hp; exact of_decide_eq_true h
theorem resetCore (v : Nat) : Statement (.resetCore v) := by intro h p hp; cases hp; exact of_decide_eq_true h
theorem resetCluster (v : Nat) : Statement (.resetCluster v) := by intro h p hp; cases hp; exact of_decide_eq_true h
theorem resetPartition (v : Nat) : Statement (.resetPartition v) := by intro h p hp; cases hp; exact of_decide_eq_true h
theorem unitUncorrectableReset (level : Nat) (chest : Nat) (target : Nat) : Statement (.unitUncorrectableReset level chest target) := by intro h p hp; cases hp; exact of_decide_eq_true (left (left h))
theorem partialResetEnd (level : Nat) (chest : Nat) (target : Nat) (badCores : Nat) : Statement (.partialResetEnd level chest target badCores) := by intro h p hp; cases hp; exact of_decide_eq_true (left (left (left h)))
theorem islandRegulatorFault (u : Nat) : Statement (.islandRegulatorFault u) := by intro h p hp; cases hp; exact of_decide_eq_true h
theorem arrSlotIssue (u : Nat) (sub : Nat) : Statement (.arrSlotIssue u sub) := by intro h p hp; cases hp; exact of_decide_eq_true (left h)
theorem arrFillRow (u : Nat) (sub : Nat) : Statement (.arrFillRow u sub) := by intro h p hp; cases hp; exact of_decide_eq_true (left h)
theorem arrSlotComplete (u : Nat) (sub : Nat) : Statement (.arrSlotComplete u sub) := by intro h p hp; cases hp; exact of_decide_eq_true (left h)
theorem blockRotation (u : Nat) (sub : Nat) : Statement (.blockRotation u sub) := by intro h p hp; cases hp; exact of_decide_eq_true (left h)
theorem drain (u : Nat) (sub : Nat) : Statement (.drain u sub) := by intro h p hp; cases hp; exact of_decide_eq_true (left h)
theorem arrHold (u : Nat) (hold : Bool) : Statement (.arrHold u hold) := by intro h p hp; cases hp; exact of_decide_eq_true h
theorem arrDuty (u : Nat) (v : Nat) : Statement (.arrDuty u v) := by intro h p hp; cases hp; exact of_decide_eq_true (left h)
theorem dutyWindow (u : Nat) : Statement (.dutyWindow u) := by intro h p hp; cases hp; exact of_decide_eq_true h
theorem landingWrite (w : LandWrite) : Statement (.landingWrite w) := by intro _ p hp; cases hp
theorem epilogueInvocation (u : Nat) : Statement (.epilogueInvocation u) := by intro h p hp; cases hp; exact of_decide_eq_true h
theorem prologueInvocation (u : Nat) (sub : Nat) : Statement (.prologueInvocation u sub) := by intro h p hp; cases hp; exact of_decide_eq_true (left h)
theorem vNop (u : Nat) (f : VecF) : Statement (.vNop u f) := by intro h p hp; cases hp; exact of_decide_eq_true (left h)
theorem vAdd (u : Nat) (f : VecF) : Statement (.vAdd u f) := by intro h p hp; cases hp; exact of_decide_eq_true (left h)
theorem vSub (u : Nat) (f : VecF) : Statement (.vSub u f) := by intro h p hp; cases hp; exact of_decide_eq_true (left h)
theorem vMul (u : Nat) (f : VecF) : Statement (.vMul u f) := by intro h p hp; cases hp; exact of_decide_eq_true (left h)
theorem vFma (u : Nat) (f : VecF) : Statement (.vFma u f) := by intro h p hp; cases hp; exact of_decide_eq_true (left h)
theorem vFms (u : Nat) (f : VecF) : Statement (.vFms u f) := by intro h p hp; cases hp; exact of_decide_eq_true (left h)
theorem vMax (u : Nat) (f : VecF) : Statement (.vMax u f) := by intro h p hp; cases hp; exact of_decide_eq_true (left h)
theorem vMin (u : Nat) (f : VecF) : Statement (.vMin u f) := by intro h p hp; cases hp; exact of_decide_eq_true (left h)
theorem vUna (u : Nat) (f : VecF) : Statement (.vUna u f) := by intro h p hp; cases hp; exact of_decide_eq_true (left h)
theorem vCmp (u : Nat) (f : VecF) : Statement (.vCmp u f) := by intro h p hp; cases hp; exact of_decide_eq_true (left h)
theorem vSel (u : Nat) (f : VecF) : Statement (.vSel u f) := by intro h p hp; cases hp; exact of_decide_eq_true (left h)
theorem vCvt (u : Nat) (f : VecF) : Statement (.vCvt u f) := by intro h p hp; cases hp; exact of_decide_eq_true (left h)
theorem vExp2 (u : Nat) (f : VecF) : Statement (.vExp2 u f) := by intro h p hp; cases hp; exact of_decide_eq_true (left h)
theorem vLog2 (u : Nat) (f : VecF) : Statement (.vLog2 u f) := by intro h p hp; cases hp; exact of_decide_eq_true (left h)
theorem vRcp (u : Nat) (f : VecF) : Statement (.vRcp u f) := by intro h p hp; cases hp; exact of_decide_eq_true (left h)
theorem vRsqrt (u : Nat) (f : VecF) : Statement (.vRsqrt u f) := by intro h p hp; cases hp; exact of_decide_eq_true (left h)
theorem vShuf (u : Nat) (f : VecF) : Statement (.vShuf u f) := by intro h p hp; cases hp; exact of_decide_eq_true (left h)
theorem vRred (u : Nat) (f : VecF) : Statement (.vRred u f) := by intro h p hp; cases hp; exact of_decide_eq_true (left h)
theorem vStrd (u : Nat) (f : VecF) : Statement (.vStrd u f) := by intro h p hp; cases hp; exact of_decide_eq_true (left h)
theorem vStwr (u : Nat) (f : VecF) : Statement (.vStwr u f) := by intro h p hp; cases hp; exact of_decide_eq_true (left h)
theorem vPgen (u : Nat) (f : VecF) : Statement (.vPgen u f) := by intro h p hp; cases hp; exact of_decide_eq_true (left h)
theorem vPlog (u : Nat) (f : VecF) : Statement (.vPlog u f) := by intro h p hp; cases hp; exact of_decide_eq_true (left h)
theorem vLd (u : Nat) (f : VecF) : Statement (.vLd u f) := by intro h p hp; cases hp; exact of_decide_eq_true (left h)
theorem vSt (u : Nat) (f : VecF) : Statement (.vSt u f) := by intro h p hp; cases hp; exact of_decide_eq_true (left h)
theorem vSend (u : Nat) (f : VecF) : Statement (.vSend u f) := by intro h p hp; cases hp; exact of_decide_eq_true (left h)
theorem sendArrival (u : Nat) : Statement (.sendArrival u) := by intro h p hp; cases hp; exact of_decide_eq_true h
theorem vRecv (u : Nat) (f : VecF) : Statement (.vRecv u f) := by intro h p hp; cases hp; exact of_decide_eq_true (left h)
theorem vSop (u : Nat) (f : VecF) : Statement (.vSop u f) := by intro h p hp; cases hp; exact of_decide_eq_true (left h)
theorem merge (u : Nat) (req : MergeReq) : Statement (.merge u req) := by intro h p hp; cases hp; exact of_decide_eq_true (left h)
theorem deferredChain (u : Nat) : Statement (.deferredChain u) := by intro h p hp; cases hp; exact of_decide_eq_true h
theorem finishPass (u : Nat) : Statement (.finishPass u) := by intro h p hp; cases hp; exact of_decide_eq_true h
theorem operationStart (u : Nat) : Statement (.operationStart u) := by intro h p hp; cases hp; exact of_decide_eq_true h
theorem shapeRecordRead (u : Nat) (bad : Bool) : Statement (.shapeRecordRead u bad) := by intro h p hp; cases hp; exact of_decide_eq_true h
theorem fetchUnit (u : Nat) (op : Nat) (isW : Bool) : Statement (.fetchUnit u op isW) := by intro h p hp; cases hp; exact of_decide_eq_true (left h)
theorem memoryRead (q : MemReq) (errs : List (Nat × BitVec 36)) : Statement (.memoryRead q errs) := by intro _ p hp; cases hp
theorem memoryWrite (q : MemReq) : Statement (.memoryWrite q) := by intro _ p hp; cases hp
theorem partialWrite (q : MemReq) (errs : List (Nat × BitVec 36)) : Statement (.partialWrite q errs) := by intro _ p hp; cases hp
theorem correctedWriteBack (u : Nat) : Statement (.correctedWriteBack u) := by intro h p hp; cases hp; exact of_decide_eq_true h
theorem scrubBurst (u : Nat) (ch : Nat) (errs : List (Nat × BitVec 36)) : Statement (.scrubBurst u ch errs) := by intro h p hp; cases hp; exact of_decide_eq_true (left h)
theorem refreshDue (u : Nat) (bank : Nat) : Statement (.refreshDue u bank) := by intro h p hp; cases hp; exact of_decide_eq_true (left h)
theorem refresh (u : Nat) (bank : Nat) : Statement (.refresh u bank) := by intro h p hp; cases hp; exact of_decide_eq_true (left h)
theorem rowRemap (u : Nat) (bank : Nat) (row : Nat) : Statement (.rowRemap u bank row) := by intro h p hp; cases hp; exact of_decide_eq_true (left (left h))
theorem channelRetire (u : Nat) (v : Nat) : Statement (.channelRetire u v) := by intro h p hp; cases hp; exact of_decide_eq_true (left h)
theorem channelErrorThreshold (u : Nat) (ch : Nat) : Statement (.channelErrorThreshold u ch) := by intro h p hp; cases hp; exact of_decide_eq_true (left h)
theorem channelRetrainFail (u : Nat) (ch : Nat) : Statement (.channelRetrainFail u ch) := by intro h p hp; cases hp; exact of_decide_eq_true (left h)
theorem channelToSpare (u : Nat) : Statement (.channelToSpare u) := by intro h p hp; cases hp; exact of_decide_eq_true h
theorem rewritePassEnd (u : Nat) : Statement (.rewritePassEnd u) := by intro h p hp; cases hp; exact of_decide_eq_true h
theorem channelCutOff (u : Nat) : Statement (.channelCutOff u) := by intro h p hp; cases hp; exact of_decide_eq_true h
theorem atomicAdd (q : AtomReq) : Statement (.atomicAdd q) := by intro _ p hp; cases hp
theorem atomicFadd (q : AtomReq) : Statement (.atomicFadd q) := by intro _ p hp; cases hp
theorem atomicSmax (q : AtomReq) : Statement (.atomicSmax q) := by intro _ p hp; cases hp
theorem atomicSmin (q : AtomReq) : Statement (.atomicSmin q) := by intro _ p hp; cases hp
theorem atomicUmax (q : AtomReq) : Statement (.atomicUmax q) := by intro _ p hp; cases hp
theorem atomicUmin (q : AtomReq) : Statement (.atomicUmin q) := by intro _ p hp; cases hp
theorem atomicFmax (q : AtomReq) : Statement (.atomicFmax q) := by intro _ p hp; cases hp
theorem atomicFmin (q : AtomReq) : Statement (.atomicFmin q) := by intro _ p hp; cases hp
theorem atomicSwap (q : AtomReq) : Statement (.atomicSwap q) := by intro _ p hp; cases hp
theorem atomicCas (q : AtomReq) : Statement (.atomicCas q) := by intro _ p hp; cases hp
theorem slotFp32Contribution (q : MemReq) : Statement (.slotFp32Contribution q) := by intro _ p hp; cases hp
theorem slotFixedContribution (q : MemReq) : Statement (.slotFixedContribution q) := by intro _ p hp; cases hp
theorem slotZero (q : MemReq) : Statement (.slotZero q) := by intro _ p hp; cases hp
theorem slotRead (q : MemReq) : Statement (.slotRead q) := by intro _ p hp; cases hp
theorem marginTestStart (u : Nat) (v : Nat) : Statement (.marginTestStart u v) := by intro h p hp; cases hp; exact of_decide_eq_true (left h)
theorem marginTestEnd (u : Nat) (errors : Nat) : Statement (.marginTestEnd u errors) := by intro h p hp; cases hp; exact of_decide_eq_true (left h)
theorem runSubmit (u : Nat) (rec_ : List Byte) (by_ : Submitter) : Statement (.runSubmit u rec_ by_) := by intro h p hp; cases hp; exact of_decide_eq_true (left h)
theorem pupRunGo (u : Nat) (m : Master) : Statement (.pupRunGo u m) := by intro h p hp; cases hp; exact of_decide_eq_true (left h)
theorem runStart (u : Nat) : Statement (.runStart u) := by intro h p hp; cases hp; exact of_decide_eq_true h
theorem cueDispatch (u : Nat) : Statement (.cueDispatch u) := by intro h p hp; cases hp; exact of_decide_eq_true h
theorem cueEnd (u : Nat) : Statement (.cueEnd u) := by intro h p hp; cases hp; exact of_decide_eq_true h
theorem returnRecords (u : Nat) : Statement (.returnRecords u) := by intro h p hp; cases hp; exact of_decide_eq_true h
theorem runEnd (u : Nat) : Statement (.runEnd u) := by intro h p hp; cases hp; exact of_decide_eq_true h
theorem pupHalt (u : Nat) (halt : Bool) : Statement (.pupHalt u halt) := by intro h p hp; cases hp; exact of_decide_eq_true h
theorem pNop (u : Nat) (f : PupF) (iter : Nat) : Statement (.pNop u f iter) := by intro h p hp; cases hp; exact of_decide_eq_true (left (left h))
theorem pLdc (u : Nat) (f : PupF) (iter : Nat) : Statement (.pLdc u f iter) := by intro h p hp; cases hp; exact of_decide_eq_true (left (left h))
theorem pStc (u : Nat) (f : PupF) (iter : Nat) : Statement (.pStc u f iter) := by intro h p hp; cases hp; exact of_decide_eq_true (left (left h))
theorem pCmul (u : Nat) (f : PupF) (iter : Nat) : Statement (.pCmul u f iter) := by intro h p hp; cases hp; exact of_decide_eq_true (left (left h))
theorem pCfma (u : Nat) (f : PupF) (iter : Nat) : Statement (.pCfma u f iter) := by intro h p hp; cases hp; exact of_decide_eq_true (left (left h))
theorem pCfmb (u : Nat) (f : PupF) (iter : Nat) : Statement (.pCfmb u f iter) := by intro h p hp; cases hp; exact of_decide_eq_true (left (left h))
theorem pLds (u : Nat) (f : PupF) (iter : Nat) : Statement (.pLds u f iter) := by intro h p hp; cases hp; exact of_decide_eq_true (left (left h))
theorem pSacc (u : Nat) (f : PupF) (iter : Nat) : Statement (.pSacc u f iter) := by intro h p hp; cases hp; exact of_decide_eq_true (left (left h))
theorem pBcv (u : Nat) (f : PupF) (iter : Nat) : Statement (.pBcv u f iter) := by intro h p hp; cases hp; exact of_decide_eq_true (left (left h))
theorem pAdd (u : Nat) (f : PupF) (iter : Nat) : Statement (.pAdd u f iter) := by intro h p hp; cases hp; exact of_decide_eq_true (left (left h))
theorem pMul (u : Nat) (f : PupF) (iter : Nat) : Statement (.pMul u f iter) := by intro h p hp; cases hp; exact of_decide_eq_true (left (left h))
theorem pFma (u : Nat) (f : PupF) (iter : Nat) : Statement (.pFma u f iter) := by intro h p hp; cases hp; exact of_decide_eq_true (left (left h))
theorem pMax (u : Nat) (f : PupF) (iter : Nat) : Statement (.pMax u f iter) := by intro h p hp; cases hp; exact of_decide_eq_true (left (left h))
theorem pLim (u : Nat) (f : PupF) (iter : Nat) : Statement (.pLim u f iter) := by intro h p hp; cases hp; exact of_decide_eq_true (left (left h))
theorem pRsum (u : Nat) (f : PupF) (iter : Nat) : Statement (.pRsum u f iter) := by intro h p hp; cases hp; exact of_decide_eq_true (left (left h))
theorem pRmax (u : Nat) (f : PupF) (iter : Nat) : Statement (.pRmax u f iter) := by intro h p hp; cases hp; exact of_decide_eq_true (left (left h))
theorem pExp2 (u : Nat) (f : PupF) (iter : Nat) : Statement (.pExp2 u f iter) := by intro h p hp; cases hp; exact of_decide_eq_true (left (left h))
theorem pExp2r (u : Nat) (f : PupF) (iter : Nat) : Statement (.pExp2r u f iter) := by intro h p hp; cases hp; exact of_decide_eq_true (left (left h))
theorem pSop (u : Nat) (f : PupF) (iter : Nat) : Statement (.pSop u f iter) := by intro h p hp; cases hp; exact of_decide_eq_true (left (left h))
theorem pPuts (u : Nat) (f : PupF) (iter : Nat) : Statement (.pPuts u f iter) := by intro h p hp; cases hp; exact of_decide_eq_true (left (left h))
theorem pPutv (u : Nat) (f : PupF) (iter : Nat) : Statement (.pPutv u f iter) := by intro h p hp; cases hp; exact of_decide_eq_true (left (left h))
theorem pEnd (u : Nat) (f : PupF) (iter : Nat) : Statement (.pEnd u f iter) := by intro h p hp; cases hp; exact of_decide_eq_true (left (left h))
theorem kvCreate (c : Nat) : Statement (.kvCreate c) := by intro h p hp; cases hp; exact of_decide_eq_true h
theorem kvFork (c : Nat) : Statement (.kvFork c) := by intro h p hp; cases hp; exact of_decide_eq_true h
theorem kvAppend (c : Nat) : Statement (.kvAppend c) := by intro h p hp; cases hp; exact of_decide_eq_true h
theorem kvVerifyCommit (c : Nat) : Statement (.kvVerifyCommit c) := by intro h p hp; cases hp; exact of_decide_eq_true h
theorem kvFree (c : Nat) : Statement (.kvFree c) := by intro h p hp; cases hp; exact of_decide_eq_true h
theorem kvOpResume (c : Nat) : Statement (.kvOpResume c) := by intro h p hp; cases hp; exact of_decide_eq_true h
theorem kvmHold (hold : Bool) : Statement (.kvmHold hold) := by intro _ p hp; cases hp
theorem layoutLoad (v : Nat) : Statement (.layoutLoad v) := by intro h p hp; cases hp; exact of_decide_eq_true h
theorem imageFetchEnd (img : ImageIn) : Statement (.imageFetchEnd img) := by intro _ p hp; cases hp
theorem layoutCommit (failAt : Option Nat) : Statement (.layoutCommit failAt) := by intro _ p hp; cases hp
theorem layoutStart (v : Nat) : Statement (.layoutStart v) := by intro h p hp; cases hp; exact of_decide_eq_true h
theorem layoutUnload (v : Nat) : Statement (.layoutUnload v) := by intro h p hp; cases hp; exact of_decide_eq_true h
theorem epochStart : Statement (.epochStart) := by intro _ p hp; cases hp
theorem slotStart (i : Nat) (ready : Bool) : Statement (.slotStart i ready) := by intro h p hp; cases hp; exact of_decide_eq_true h
theorem sendDataReady (i : Nat) (fits : Bool) : Statement (.sendDataReady i fits) := by intro h p hp; cases hp; exact of_decide_eq_true h
theorem memberReady : Statement (.memberReady) := by intro _ p hp; cases hp
theorem epochBoundary : Statement (.epochBoundary) := by intro _ p hp; cases hp
theorem groupBroken : Statement (.groupBroken) := by intro _ p hp; cases hp
theorem actSwitch : Statement (.actSwitch) := by intro _ p hp; cases hp
theorem flitIdle (p : Nat) (f : Flit) : Statement (.flitIdle p f) := by intro h p hp; cases hp; exact of_decide_eq_true (left h)
theorem sched (p : Nat) (f : Flit) : Statement (.sched p f) := by intro h p hp; cases hp; exact of_decide_eq_true (left h)
theorem fabricRead (p : Nat) (f : Flit) : Statement (.fabricRead p f) := by intro h p hp; cases hp; exact of_decide_eq_true (left h)
theorem fabricWrite (p : Nat) (f : Flit) : Statement (.fabricWrite p f) := by intro h p hp; cases hp; exact of_decide_eq_true (left h)
theorem fabricAtomic (p : Nat) (f : Flit) : Statement (.fabricAtomic p f) := by intro h p hp; cases hp; exact of_decide_eq_true (left h)
theorem fabricData (p : Nat) (f : Flit) : Statement (.fabricData p f) := by intro h p hp; cases hp; exact of_decide_eq_true (left h)
theorem fabricDone (p : Nat) (f : Flit) : Statement (.fabricDone p f) := by intro h p hp; cases hp; exact of_decide_eq_true (left h)
theorem close (p : Nat) (f : Flit) : Statement (.close p f) := by intro h p hp; cases hp; exact of_decide_eq_true (left h)
theorem time (p : Nat) (f : Flit) : Statement (.time p f) := by intro h p hp; cases hp; exact of_decide_eq_true (left h)
theorem assignId (p : Nat) (f : Flit) : Statement (.assignId p f) := by intro h p hp; cases hp; exact of_decide_eq_true (left h)
theorem setBound (p : Nat) (f : Flit) : Statement (.setBound p f) := by intro h p hp; cases hp; exact of_decide_eq_true (left h)
theorem init (p : Nat) (f : Flit) : Statement (.init p f) := by intro h p hp; cases hp; exact of_decide_eq_true (left h)
theorem flitDropped (p : Nat) (f : Flit) : Statement (.flitDropped p f) := by intro h p hp; cases hp; exact of_decide_eq_true (left h)
theorem flitSend (p : Nat) : Statement (.flitSend p) := by intro h p hp; cases hp; exact of_decide_eq_true h
theorem replayTimeout (p : Nat) : Statement (.replayTimeout p) := by intro h p hp; cases hp; exact of_decide_eq_true h
theorem requestTimeout (tag : Nat) : Statement (.requestTimeout tag) := by intro h p hp; cases hp; exact of_decide_eq_true h
theorem timeSourceLoss (p : Nat) : Statement (.timeSourceLoss p) := by intro h p hp; cases hp; exact of_decide_eq_true h
theorem portEnable (p : Nat) (v : Nat) : Statement (.portEnable p v) := by intro h p hp; cases hp; exact of_decide_eq_true (left h)
theorem portRetrain (p : Nat) : Statement (.portRetrain p) := by intro h p hp; cases hp; exact of_decide_eq_true h
theorem portLoopback (p : Nat) (mode : Nat) : Statement (.portLoopback p mode) := by intro h p hp; cases hp; exact of_decide_eq_true (left h)
theorem laneRetire (p : Nat) (lanes : Nat) : Statement (.laneRetire p lanes) := by intro h p hp; cases hp; exact of_decide_eq_true (left h)
theorem laneErrorWindow (p : Nat) (lane : Nat) (errors : Nat) (codewords : Nat) : Statement (.laneErrorWindow p lane errors codewords) := by intro h p hp; cases hp; exact of_decide_eq_true (left (left (left h)))
theorem laneSignalLoss (p : Nat) (lane : Nat) : Statement (.laneSignalLoss p lane) := by intro h p hp; cases hp; exact of_decide_eq_true (left h)
theorem portTrainingEnd (p : Nat) (ok : Bool) (remote : Nat) : Statement (.portTrainingEnd p ok remote) := by intro h p hp; cases hp; exact of_decide_eq_true (left h)
theorem meshPacket (chest : Nat) (router : Nat) (p : MeshPkt) : Statement (.meshPacket chest router p) := by intro h p hp; cases hp; exact of_decide_eq_true (left (left h))
theorem edgeFlitReceive (k : Nat) (m : Nat) (f : EdgeFlit) (err : BitVec 8192) : Statement (.edgeFlitReceive k m f err) := by intro h p hp; cases hp; exact of_decide_eq_true (left (left h))
theorem edgeReplayTimeout (k : Nat) (m : Nat) : Statement (.edgeReplayTimeout k m) := by intro h p hp; cases hp; exact of_decide_eq_true (left h)
theorem edgeRetrain (k : Nat) : Statement (.edgeRetrain k) := by intro h p hp; cases hp; exact of_decide_eq_true h
theorem edgeFramingLoss (k : Nat) : Statement (.edgeFramingLoss k) := by intro h p hp; cases hp; exact of_decide_eq_true h
theorem edgeTrainingEnd (k : Nat) (ms : EdgeMasks) : Statement (.edgeTrainingEnd k ms) := by intro h p hp; cases hp; exact of_decide_eq_true h
theorem edgeFullRetrain (k : Nat) : Statement (.edgeFullRetrain k) := by intro h p hp; cases hp; exact of_decide_eq_true h
theorem edgeAttemptTimeout (k : Nat) : Statement (.edgeAttemptTimeout k) := by intro h p hp; cases hp; exact of_decide_eq_true h
theorem edgeRetire (k : Nat) : Statement (.edgeRetire k) := by intro h p hp; cases hp; exact of_decide_eq_true h
theorem edgeStable (k : Nat) : Statement (.edgeStable k) := by intro h p hp; cases hp; exact of_decide_eq_true h
theorem requestLeave (q : PortReq) : Statement (.requestLeave q) := by intro _ p hp; cases hp
theorem arbiterGrant (a : ArbReq) : Statement (.arbiterGrant a) := by intro _ p hp; cases hp
theorem scaleFactorArrive (master : Nat) (slice : Nat) : Statement (.scaleFactorArrive master slice) := by intro h p hp; cases hp; exact of_decide_eq_true (left h)
theorem qosCommit (v : Nat) : Statement (.qosCommit v) := by intro h p hp; cases hp; exact of_decide_eq_true h
theorem starvation (arb : Nat) (input : Nat) : Statement (.starvation arb input) := by intro h p hp; cases hp; exact of_decide_eq_true (left h)
theorem bar2Read (addr : Nat) (len : Nat) : Statement (.bar2Read addr len) := by intro h p hp; cases hp; exact of_decide_eq_true (left h)
theorem bar2Write (addr : Nat) (bytes : List Byte) (enables : List Bool) : Statement (.bar2Write addr bytes enables) := by intro h p hp; cases hp; exact of_decide_eq_true h
theorem poisonedWrite (addr : Nat) : Statement (.poisonedWrite addr) := by intro h p hp; cases hp; exact of_decide_eq_true h
theorem fetchadd (addr : Nat) (size : Nat) (v : Nat) : Statement (.fetchadd addr size v) := by intro h p hp; cases hp; exact of_decide_eq_true (left (left h))
theorem swapAtomicop (addr : Nat) (size : Nat) (v : Nat) : Statement (.swapAtomicop addr size v) := by intro h p hp; cases hp; exact of_decide_eq_true (left (left h))
theorem casAtomicop (addr : Nat) (size : Nat) (cmp : Nat) (v : Nat) : Statement (.casAtomicop addr size cmp v) := by intro h p hp; cases hp; exact of_decide_eq_true (left (left (left h)))
theorem doorbell (t : Nat) (v : Nat) : Statement (.doorbell t v) := by intro h p hp; cases hp; exact of_decide_eq_true (left h)
theorem cqHead (t : Nat) (v : Nat) : Statement (.cqHead t v) := by intro h p hp; cases hp; exact of_decide_eq_true (left h)
theorem trayEnable (t : Nat) (v : Nat) : Statement (.trayEnable t v) := by intro h p hp; cases hp; exact of_decide_eq_true (left h)
theorem trayDisable (t : Nat) (v : Nat) : Statement (.trayDisable t v) := by intro h p hp; cases hp; exact of_decide_eq_true (left h)
theorem trayFetch (t : Nat) (data : List HostRead) : Statement (.trayFetch t data) := by intro h p hp; cases hp; exact of_decide_eq_true h
theorem entryAccept (t : Nat) (indexOk : Bool) : Statement (.entryAccept t indexOk) := by intro h p hp; cases hp; exact of_decide_eq_true h
theorem entryDispatch (t : Nat) (jid : Nat) : Statement (.entryDispatch t jid) := by intro h p hp; cases hp; exact of_decide_eq_true h
theorem workFinish (u : Nat) : Statement (.workFinish u) := by intro h p hp; cases hp; exact of_decide_eq_true h
theorem copyIn (jid : Nat) (data : List HostRead) : Statement (.copyIn jid data) := by intro _ p hp; cases hp
theorem copyOut (jid : Nat) (rejectAt : Option Nat) : Statement (.copyOut jid rejectAt) := by intro _ p hp; cases hp
theorem completionRecordWrite (t : Nat) : Statement (.completionRecordWrite t) := by intro h p hp; cases hp; exact of_decide_eq_true h
theorem reqclass (i : Nat) (v : Nat) : Statement (.reqclass i v) := by intro h p hp; cases hp; exact of_decide_eq_true (left h)
theorem wdkick (i : Nat) : Statement (.wdkick i) := by intro h p hp; cases hp; exact of_decide_eq_true h
theorem watchdogExpiry (i : Nat) : Statement (.watchdogExpiry i) := by intro h p hp; cases hp; exact of_decide_eq_true h
theorem heartbeat (answered : Nat) : Statement (.heartbeat answered) := by intro h p hp; cases hp; exact of_decide_eq_true h
theorem pigeonholeSend (m : Master) (i : Nat) : Statement (.pigeonholeSend m i) := by intro h p hp; cases hp; exact of_decide_eq_true (right h)
theorem pigeonholeTake (m : Master) (i : Nat) : Statement (.pigeonholeTake m i) := by intro h p hp; cases hp; exact of_decide_eq_true (right h)
theorem mbxBindWrite (m : Master) (i : Nat) (v : Nat) : Statement (.mbxBindWrite m i v) := by intro h p hp; cases hp; exact of_decide_eq_true (right (left h))
theorem mbxLock (m : Master) (v : Nat) : Statement (.mbxLock m v) := by intro h p hp; cases hp; exact of_decide_eq_true (right h)
theorem mctpSend (bytes : List Byte) : Statement (.mctpSend bytes) := by intro _ p hp; cases hp
theorem mctpOther (bytes : List Byte) : Statement (.mctpOther bytes) := by intro _ p hp; cases hp
theorem logPathReturn (c : Nat) : Statement (.logPathReturn c) := by intro h p hp; cases hp; exact of_decide_eq_true h
theorem logWord0Read (m : Master) (slot : Nat) : Statement (.logWord0Read m slot) := by intro h p hp; cases hp; exact of_decide_eq_true (right h)
theorem errInjectArm (m : Master) (v : Nat) : Statement (.errInjectArm m v) := by intro h p hp; cases hp; exact of_decide_eq_true (right h)
theorem intEnableWrite (v : Nat) : Statement (.intEnableWrite v) := by intro h p hp; cases hp; exact of_decide_eq_true h
theorem powerSample (pkg : Nat) (chests : List Nat) (islands : List (Nat × Nat)) : Statement (.powerSample pkg chests islands) := by intro h p hp; cases hp; exact of_decide_eq_true h
theorem thermalModelUpdate (c : Nat) (md : ModelOut) : Statement (.thermalModelUpdate c md) := by intro h p hp; cases hp; exact of_decide_eq_true h
theorem sensorSample (c : Nat) (i : Nat) (x : SensorIn) : Statement (.sensorSample c i x) := by intro h p hp; cases hp; exact of_decide_eq_true (left h)
theorem fallbackRelease (c : Nat) (i : Nat) : Statement (.fallbackRelease c i) := by intro h p hp; cases hp; exact of_decide_eq_true (left h)
theorem budgetExchange (c : Nat) (withheld : Nat) : Statement (.budgetExchange c withheld) := by intro h p hp; cases hp; exact of_decide_eq_true (left h)
theorem budgetMessage (c : Nat) (from_ : Nat) (demand : Nat) (ceiling : Nat) : Statement (.budgetMessage c from_ demand ceiling) := by intro h p hp; cases hp; exact of_decide_eq_true (left (left (left h)))
theorem budgetMissing (c : Nat) (from_ : Nat) : Statement (.budgetMissing c from_) := by intro h p hp; cases hp; exact of_decide_eq_true (left h)
theorem packageCheck : Statement (.packageCheck) := by intro _ p hp; cases hp
theorem governorUpdate (c : Nat) : Statement (.governorUpdate c) := by intro h p hp; cases hp; exact of_decide_eq_true h
theorem sprintWindowClose (early : Bool) (ms : Nat) : Statement (.sprintWindowClose early ms) := by intro h p hp; cases hp; exact of_decide_eq_true h
theorem pwrModeWrite (v : Nat) : Statement (.pwrModeWrite v) := by intro h p hp; cases hp; exact of_decide_eq_true h
theorem pwrCapWrite (v : Nat) : Statement (.pwrCapWrite v) := by intro h p hp; cases hp; exact of_decide_eq_true h
theorem pwrbrkNAssert : Statement (.pwrbrkNAssert) := by intro _ p hp; cases hp
theorem pwrbrkNRelease : Statement (.pwrbrkNRelease) := by intro _ p hp; cases hp
theorem thmCoolantWrite (v : Nat) : Statement (.thmCoolantWrite v) := by intro h p hp; cases hp; exact of_decide_eq_true h
theorem coolantStale : Statement (.coolantStale) := by intro _ p hp; cases hp
theorem coolingDegraded : Statement (.coolingDegraded) := by intro _ p hp; cases hp
theorem coolingRecovered : Statement (.coolingRecovered) := by intro _ p hp; cases hp
theorem coolFaultNAssert : Statement (.coolFaultNAssert) := by intro _ p hp; cases hp
theorem pauseComplete : Statement (.pauseComplete) := by intro _ p hp; cases hp
theorem pausedRequestTimeout : Statement (.pausedRequestTimeout) := by intro _ p hp; cases hp
theorem resume : Statement (.resume) := by intro _ p hp; cases hp
theorem disagreeWindowEnd (c : Nat) (h : Nat) : Statement (.disagreeWindowEnd c h) := by intro h p hp; cases hp; exact of_decide_eq_true (left h)
theorem bstPark (v : Nat) (x : Supplies) : Statement (.bstPark v x) := by intro h p hp; cases hp; exact of_decide_eq_true h
theorem parkTestEnd (fails : Nat) (chans : List (Nat × Nat)) (cores : List Nat) (lost : Bool) : Statement (.parkTestEnd fails chans cores lost) := by intro h p hp; cases hp; exact of_decide_eq_true h
theorem supplySample (x : Supplies) : Statement (.supplySample x) := by intro _ p hp; cases hp
theorem tokenRegisterOwnerKey (x : Supplies) : Statement (.tokenRegisterOwnerKey x) := by intro _ p hp; cases hp
theorem tokenRevokeOwnerKey (x : Supplies) : Statement (.tokenRevokeOwnerKey x) := by intro _ p hp; cases hp
theorem tokenDebugUnlock : Statement (.tokenDebugUnlock) := by intro _ p hp; cases hp
theorem fuseBurnEnd (ok : Bool) : Statement (.fuseBurnEnd ok) := by intro _ p hp; cases hp
theorem debugZeroEnd : Statement (.debugZeroEnd) := by intro _ p hp; cases hp
theorem jtagBypass : Statement (.jtagBypass) := by intro _ p hp; cases hp
theorem jtagIdcode : Statement (.jtagIdcode) := by intro _ p hp; cases hp
theorem jtagSamplePreload : Statement (.jtagSamplePreload) := by intro _ p hp; cases hp
theorem jtagExtest : Statement (.jtagExtest) := by intro _ p hp; cases hp
theorem jtagClamp : Statement (.jtagClamp) := by intro _ p hp; cases hp
theorem jtagPrivate (ir : Nat) : Statement (.jtagPrivate ir) := by intro h p hp; cases hp; exact of_decide_eq_true h
theorem getVersion : Statement (.getVersion) := by intro _ p hp; cases hp
theorem getCapabilities : Statement (.getCapabilities) := by intro _ p hp; cases hp
theorem negotiateAlgorithms (common : Bool) : Statement (.negotiateAlgorithms common) := by intro _ p hp; cases hp
theorem getDigests : Statement (.getDigests) := by intro _ p hp; cases hp
theorem getCertificate (slot : Nat) (offset : Nat) (length : Nat) : Statement (.getCertificate slot offset length) := by intro h p hp; cases hp; exact of_decide_eq_true (left (left h))
theorem challenge (slot : Nat) (nonce : List Byte) : Statement (.challenge slot nonce) := by intro h p hp; cases hp; exact of_decide_eq_true h
theorem getMeasurements (index : Nat) (signed_ : Bool) (nonce : List Byte) : Statement (.getMeasurements index signed_ nonce) := by intro h p hp; cases hp; exact of_decide_eq_true h
theorem keyExchange (slot : Nat) : Statement (.keyExchange slot) := by intro h p hp; cases hp; exact of_decide_eq_true h
theorem finishSpdm (session : Nat) (ok : Bool) : Statement (.finishSpdm session ok) := by intro h p hp; cases hp; exact of_decide_eq_true h
theorem spdmHeartbeat (session : Nat) : Statement (.spdmHeartbeat session) := by intro h p hp; cases hp; exact of_decide_eq_true h
theorem keyUpdate (session : Nat) : Statement (.keyUpdate session) := by intro h p hp; cases hp; exact of_decide_eq_true h
theorem endSession (session : Nat) : Statement (.endSession session) := by intro h p hp; cases hp; exact of_decide_eq_true h
theorem spdmUnsupported (code : Nat) : Statement (.spdmUnsupported code) := by intro h p hp; cases hp; exact of_decide_eq_true h
theorem ideKm (session : Nat) (stream : Nat) (msg : Nat) (sub : Nat) (keySet : Nat) (key : BitVec 256) : Statement (.ideKm session stream msg sub keySet key) := by intro h p hp; cases hp; exact of_decide_eq_true (left (left (left (left h))))
theorem badFlitReceived (p : Nat) (b : List Byte) (uncorr : Bool) : Statement (.badFlitReceived p b uncorr) := by intro h p hp; cases hp; exact of_decide_eq_true (left h)
theorem edgeLaneRepair (k : Nat) (m : Nat) (mask : Word64) : Statement (.edgeLaneRepair k m mask) := by intro h p hp; cases hp; exact of_decide_eq_true (left h)
theorem sensorNoConversion (c : Nat) (i : Nat) : Statement (.sensorNoConversion c i) := by intro h p hp; cases hp; exact of_decide_eq_true (left h)
theorem coolFaultNRelease : Statement (.coolFaultNRelease) := by intro _ p hp; cases hp
theorem controlCoreStart (i : Nat) : Statement (.controlCoreStart i) := by intro h p hp; cases hp; exact of_decide_eq_true h
theorem mctpRouteToBmc : Statement (.mctpRouteToBmc) := by intro _ p hp; cases hp
theorem plinthFloorFailure (c : Nat) : Statement (.plinthFloorFailure c) := by intro h p hp; cases hp; exact of_decide_eq_true h
theorem tokenRefusedKind : Statement (.tokenRefusedKind) := by intro _ p hp; cases hp
theorem kvUnlistedOp (c : Nat) : Statement (.kvUnlistedOp c) := by intro h p hp; cases hp; exact of_decide_eq_true h
theorem resetLevelRefused (v : Nat) : Statement (.resetLevelRefused v) := by intro h p hp; cases hp; exact of_decide_eq_true h

end Sys2Proof.Laws.Named
end

