-- ==== Sys2Proof/Laws/Step.lean ====
section
/-!
SUPPORT. What a step can do, said once: every command is one effect, sealed, and most are served only while the part runs.
-/

set_option Elab.async false

namespace Sys2Proof.Machine

/-- Every command's meaning is `whenUp` or `always` of one effect. -/
theorem exec_form (c : Instr) (s : State) :
    (servedInReset c = false ∧ ∃ f, exec c s = whenUp s f) ∨ (servedInReset c = true ∧ ∃ f, exec c s = always s f) := by
  cases c
  all_goals simp only [exec,
    execBar0BadAccess, execReg64LoRead, execReg64HiWrite, execRcRead, execRegisterWrite, execPowerUp,
    execPowerRemoval, execBrownOut, execVioExcursion, execVaonExcursion, execPerstNAssert, execPerstNRelease,
    execHotReset, execLinkDown, execFunctionLevelReset, execBootStep2, execBootStep3, execBootStep4, execBootStep5,
    execBootStep6, execBootStepOutOfOrder, execBootStepEnd, execResetCore, execResetCluster, execResetPartition,
    execUnitUncorrectableReset, execPartialResetEnd, execIslandRegulatorFault, execArrSlotIssue, execArrFillRow,
    execArrSlotComplete, execBlockRotation, execDrain, execArrHold, execArrDuty, execDutyWindow, execLandingWrite,
    execEpilogueInvocation, execPrologueInvocation, execVNop, execVAdd, execVSub, execVMul, execVFma, execVFms,
    execVMax, execVMin, execVUna, execVCmp, execVSel, execVCvt, execVExp2, execVLog2, execVRcp, execVRsqrt,
    execVShuf, execVRred, execVStrd, execVStwr, execVPgen, execVPlog, execVLd, execVSt, execVSend, execSendArrival,
    execVRecv, execVSop, execMerge, execDeferredChain, execFinishPass, execOperationStart, execShapeRecordRead,
    execFetchUnit, execMemoryRead, execMemoryWrite, execPartialWrite, execCorrectedWriteBack, execScrubBurst,
    execRefreshDue, execRefresh, execRowRemap, execChannelRetire, execChannelErrorThreshold,
    execChannelRetrainFail, execChannelToSpare, execRewritePassEnd, execChannelCutOff, execAtomicAdd,
    execAtomicFadd, execAtomicSmax, execAtomicSmin, execAtomicUmax, execAtomicUmin, execAtomicFmax, execAtomicFmin,
    execAtomicSwap, execAtomicCas, execSlotFp32Contribution, execSlotFixedContribution, execSlotZero, execSlotRead,
    execMarginTestStart, execMarginTestEnd, execRunSubmit, execPupRunGo, execRunStart, execCueDispatch, execCueEnd,
    execReturnRecords, execRunEnd, execPupHalt, execPNop, execPLdc, execPStc, execPCmul, execPCfma, execPCfmb,
    execPLds, execPSacc, execPBcv, execPAdd, execPMul, execPFma, execPMax, execPLim, execPRsum, execPRmax,
    execPExp2, execPExp2r, execPSop, execPPuts, execPPutv, execPEnd, execKvCreate, execKvFork, execKvAppend,
    execKvVerifyCommit, execKvFree, execKvOpResume, execKvmHold, execLayoutLoad, execImageFetchEnd,
    execLayoutCommit, execLayoutStart, execLayoutUnload, execEpochStart, execSlotStart, execSendDataReady,
    execMemberReady, execEpochBoundary, execGroupBroken, execActSwitch, execFlitIdle, execSched, execFabricRead,
    execFabricWrite, execFabricAtomic, execFabricData, execFabricDone, execClose, execTime, execAssignId,
    execSetBound, execInit, execFlitDropped, execFlitSend, execReplayTimeout, execRequestTimeout,
    execTimeSourceLoss, execPortEnable, execPortRetrain, execPortLoopback, execLaneRetire, execLaneErrorWindow,
    execLaneSignalLoss, execPortTrainingEnd, execMeshPacket, execEdgeFlitReceive, execEdgeReplayTimeout,
    execEdgeRetrain, execEdgeFramingLoss, execEdgeTrainingEnd, execEdgeFullRetrain, execEdgeAttemptTimeout,
    execEdgeRetire, execEdgeStable, execRequestLeave, execArbiterGrant, execScaleFactorArrive, execQosCommit,
    execStarvation, execBar2Read, execBar2Write, execPoisonedWrite, execFetchadd, execSwapAtomicop,
    execCasAtomicop, execDoorbell, execCqHead, execTrayEnable, execTrayDisable, execTrayFetch, execEntryAccept,
    execEntryDispatch, execWorkFinish, execCopyIn, execCopyOut, execCompletionRecordWrite, execReqclass,
    execWdkick, execWatchdogExpiry, execHeartbeat, execPigeonholeSend, execPigeonholeTake, execMbxBindWrite,
    execMbxLock, execMctpSend, execMctpOther, execLogPathReturn, execLogWord0Read, execErrInjectArm,
    execIntEnableWrite, execPowerSample, execThermalModelUpdate, execSensorSample, execFallbackRelease,
    execBudgetExchange, execBudgetMessage, execBudgetMissing, execPackageCheck, execGovernorUpdate,
    execSprintWindowClose, execPwrModeWrite, execPwrCapWrite, execPwrbrkNAssert, execPwrbrkNRelease,
    execThmCoolantWrite, execCoolantStale, execCoolingDegraded, execCoolingRecovered, execCoolFaultNAssert,
    execPauseComplete, execPausedRequestTimeout, execResume, execDisagreeWindowEnd, execBstPark, execParkTestEnd,
    execSupplySample, execTokenRegisterOwnerKey, execTokenRevokeOwnerKey, execTokenDebugUnlock, execFuseBurnEnd,
    execDebugZeroEnd, execJtagBypass, execJtagIdcode, execJtagSamplePreload, execJtagExtest, execJtagClamp,
    execJtagPrivate, execGetVersion, execGetCapabilities, execNegotiateAlgorithms, execGetDigests,
    execGetCertificate, execChallenge, execGetMeasurements, execKeyExchange, execFinishSpdm, execSpdmHeartbeat,
    execKeyUpdate, execEndSession, execSpdmUnsupported, execIdeKm, execBadFlitReceived, execEdgeLaneRepair,
    execSensorNoConversion, execCoolFaultNRelease, execControlCoreStart, execMctpRouteToBmc,
    execPlinthFloorFailure, execTokenRefusedKind, execKvUnlistedOp, execResetLevelRefused]
  all_goals first
    | exact Or.inl ⟨rfl, _, rfl⟩
    | exact Or.inr ⟨rfl, _, rfl⟩

/-- What a command leaves: the queue it found, and a journal count that shows the journal. -/
theorem exec_cases (c : Instr) (s : State) :
    (∃ t, exec c s = .next (s.seal t)) ∨ (s.up = false ∧ servedInReset c = false ∧ exec c s = .next s) := by
  rcases exec_form c s with ⟨hs, f, h⟩ | ⟨_, f, h⟩
  · rw [h]
    cases hu : s.up
    · exact Or.inr ⟨rfl, hs, whenUp_down s f hu⟩
    · exact Or.inl ⟨f s, whenUp_up s f hu⟩
  · exact Or.inl ⟨f s, h⟩

end Sys2Proof.Machine
end

