-- ==== Sys2Proof/Tests/Slice0.lean ====
section
/-!
SUPPORT. Tests: the spec's worked examples, which commands are well-formed, and for every clause of a statement that supposes something a
state and operands that meet what it supposes: `witness_<statement>_<path>`, the path naming the clause by the turns (l, r) taken at the
statement's conjunctions.
-/

namespace Sys2Proof.Tests

open Sys2Proof Sys2Proof.Machine

set_option Elab.async false

/-! ### States the tests start from -/

def num (s : State) : State := (List.range 4).foldl (fun s c => s.numberChest c) s
def ccs (s : State) : State := (List.range 17).foldl (fun s i => s.setF (R.MBX_CC_STATUS.state i) 2) s
def steps (s : State) : State := (List.range 7).foldl (fun s j => if j = 0 then s else s.setStep j 2) s
def slc (s : State) : State := [0].foldl (fun s u => s.startSlice u) s
def edg (s : State) : State := (List.range 8).foldl (fun s c => s.setF (R.LNK_S_STATUS.state c) 0) s
/-- A part after bring-up: the steps done, the control cores and slice 0 running, the edges up. -/
def base : State := slc (edg (ccs (num (steps { State.reset with now := 3000000, boot := { State.reset.boot with upChests := 15 } }))))
def putB (d : List Byte) (o n v : Nat) : List Byte := d.take o ++ leBytes n v ++ d.drop (o + n)
def mkD (l : List (Nat × Nat × Nat)) : List Byte := l.foldl (fun d e => putB d e.1 e.2.1 e.2.2) (List.replicate 256 0)
def ops0 (fx fw : Nat) : List (Nat × Nat × Nat) := [(1,1,2),(2,1,fx + fw*16),(8,4,3),(0xC,4,2),(0x10,4,130),(0x14,2,1),(0x16,2,1),(0x18,1,1),
  (0x20,8,0x1000 + 2^39),(0x28,4,1024),(0x40,8,0x8000+2^39),(0x48,4,64),(0x82,2,0x8003),(0x90,4,0x20000)]
def D (fx fw : Nat) : List Byte := mkD (ops0 fx fw)
def o1 (d : List Byte) : OpSt := ⟨d, 0x1000, 3, Desc.planShape d, 0⟩
def img : Image := ⟨[], [⟨5, 0, 0, 0, 0, 0, 0, .cores ((List.range 8).map (fun n => ⟨0, n, 0, [],
    [⟨0,0,64,false⟩,⟨1,64,0,false⟩,⟨4,0x100,0x200,false⟩,⟨8,0x4000,0x4000,false⟩,⟨4095,0x500,70,false⟩], [], 0, [], 0, 0⟩))⟩], 0, 0⟩
def lay (s : State) : State := { s with lay := { s.lay with force := some img } }
def B0 : State := lay base
namespace K02
def s0 : State := { State.reset with now := 3000000 }
def wit0 : State := s0
def wit1 : Master := .host 0
end K02
namespace K03
def s0 : State := { State.reset with now := 3000000 }
def sFw : State := (s0.setW R.GLB_BOOT_FW_LEN 1)
def run0 (s : State) : State := s.setF (R.MBX_CC_STATUS.state 0) 2
def step (s : State) (k : Nat) : State := (List.range k).foldl (fun s j => if j = 0 then s else s.setStep j 2) s
def sUp : State := num ((List.range 17).foldl (fun s i => s.setF (R.MBX_CC_STATUS.state i) 2) { step s0 7 with boot := { s0.boot with upChests := 15 } })
def s3 : State := run0 (step s0 3)
def s4 : State := { run0 (step s0 4) with boot := { s0.boot with upChests := 5 }, mem := [(5, 6)], memLost := 4 }
def s5 : State := { run0 (step s0 5) with boot := { s0.boot with upChests := 12 } }
def s6 : State := { run0 (step s0 6) with boot := { s0.boot with upChests := 12 } }
def sE2 : State := sFw.setStep 2 1
def sRst (l c t : Nat) : State := { sUp.setF R.GLB_RESET_STATUS.busy 1 with rst := { sUp.rst with running := [⟨l, c, t, false, 3⟩] } }
def ent (k : Nat) (core desc : Nat) (l : List (Nat × Nat)) : List Byte :=
  (List.range 128).map (fun i => BitVec.ofNat 8 (if i = 0 then k else if i = 0x10 then core else if i = 0x12 then desc else Tbl.get 0 l i))
def je (j t c : Nat) (b : List Byte) (st : Nat) : JEntry := ⟨j, t, c, b, st, 0, 0, 0, 0, 0⟩
def jl : List JEntry := [je 1 3 0 (ent 5 0 0 []) 2, je 2 3 1 (ent 1 9 4 []) 0, je 3 70 0 (ent 1 1 4 []) 1, je 4 70 1 (ent 2 0 0 []) 0, je 5 70 2 (ent 1 2 2 []) 2,
  je 6 3 2 (ent 3 0 0 [(0x28, 8), (0x30, 16)]) 1, je 7 3 3 (ent 4 0 0 [(0x29, 1), (0x30, 3)]) 1, je 8 3 4 (ent 3 0 0 [(0x28, 8), (0x30, 16)]) 0]
def rich (s : State) : State := { s with journal := jl, nextJid := 9, mem := [(256, 1), (257, 2), (258, 3)], cores := [(s.coreKey 1, { CoreSt.zero with work := some ⟨3, none, 2, 0x6A, true, 77⟩, sends := [(2,[7,7])] })], thm := { s.thm with stirAt := 6 } }.setF R.HQ_STATUS.journal_used 8
def sRun : State := let t := (rich sUp).setF R.LAY_STATUS.state 5; { t with lay := { t.lay with began := true } }
def sTk : State := { sRun with rst := { sRun.rst with takeover := [(1, 4), (0, 2)], running := [⟨0, 1, 3, false, 3⟩, ⟨0, 0, 2, false, 3⟩] } }
def sPins : State := { sRun with pins := { sRun.pins with pwrbrkN := false, coolFaultN := false, thermtrip := true } }
def wit0 : State := s6.setW R.GLB_BOOT_LIC_LEN 1
def wit1 : State := { sPins with pins := { sPins.pins with perstN := false } }
def wit2 : State := { s0 with up := false, pins := { s0.pins with vin := false } }
def wit3 : State := sFw.setW R.GLB_BOOT_PARK_LEN 1
def wit4 : HostRead := none
def wit5 : HostRead := some (List.replicate 64 0)
def wit6 : List Byte := List.replicate 64 0
def wit7 : State := s3
def wit8 : State := s4
def wit9 : State := sE2
def wit10 : State := { s5 with boot := { s5.boot with upChests := 0 } }
def wit11 : State := rich (sRst 0 1 3)
def wit12 : Nat := 0x100 + 1*4 + 3*16
def wit13 : Instr := Instr.resetCore 0x134
def wit14 : Nat := 0x101 + 2*4 + 2*16
def wit15 : Instr := .resetCluster 0x129
def wit16 : State := sTk
def wit17 : RunReset := ⟨0, 1, 3, false, 3⟩
def wit18 : State := sRst 0 1 3
def wit19 : State := rich sUp
end K03
namespace K04
def step (s : State) (k : Nat) : State := (List.range k).foldl (fun s j => if j = 0 then s else s.setStep j 2) s
def s0 : State := step { State.reset with now := 3000000000 } 6
def sAll : State := { (List.range 17).foldl (fun s i => s.setF (R.MBX_CC_STATUS.state i) 2) s0 with ctl := [(2, ⟨1, 2, [2999999999, 5, 1], 5, [7], 8⟩), (3, ⟨1, 2, [5,6,7], 5, [7], 8⟩), (7, ⟨1, 1, [5], 5, [7], 8⟩)] }
def slc (s : State) : State := [9, 10, 17].foldl (fun s u => s.startSlice u) s
def run (l : List Nat) (s : State) : State := l.foldl (fun s i => s.setF (R.MBX_CC_STATUS.state i) 2) s
def s1 : State := run [0, 3] s0
def sH (st : Nat) : State := { s0.setF (R.MBX_CC_STATUS.state 3) st with boot := { s0.boot with fwHome := some 1 } }
def bind (s : State) (i r e : Nat) : State := ((s.setF (R.MBX_BIND.valid i) 1).setF (R.MBX_BIND.receiver i) r).setF (R.MBX_BIND.sender i) e
def sB : State := bind (bind (bind (bind s1 1 5 0) 2 0 1) 5 1 5) 33 0 2
def sF : State := ((((sB.setHoleFull 1 true).setHoleFull 33 true).setHoleFull 5 true).setF (R.MBX_P_STATUS.pending_coll 33) 7).setPayload 33 [1, 2, 3]
def wit0 : State := sAll
def wit1 : State := s1
def wit2 : State := slc (List.range 4 |>.foldl (fun s c => s.numberChest c) { (sH 3) with boot := { (sH 3).boot with upChests := 15 } })
def wit3 : State := sB
def wit4 : Master := .cc 0
def wit5 : State := sF
def wit6 : Master := .host 0
def wit7 : State := (bind (bind sAll 1 5 1) 2 6 5).setHoleFull 2 true
def wit8 : Master := .cc 3
def wit9 : State := s0
def wit10 : List Byte := [1, 2, 3, 4]
def wit11 : State := { (bind sAll 1 1 5) with bmcRoute := true }
def wit12 : List Byte := [0, 3]
end K04
namespace K05
def slc (s : State) : State := [0,1,2,17].foldl (fun s u => s.startSlice u) s
def s0 : State := slc (edg (ccs (num { ((State.reset.setStep 6 2).setStep 4 2) with now := 3000000, boot := { State.reset.boot with upChests := 15 } })))
def ent (k : Nat) (core desc : Nat) (l : List (Nat × Nat)) : List Byte :=
  (List.range 128).map (fun i => BitVec.ofNat 8 (if i = 0 then k else if i = 0x10 then core else if i = 0x12 then desc else Tbl.get 0 l i))
def tr (s : State) (t st : Nat) (x : TraySt) : State := (s.setF (R.HQ_T_STATUS.state t) st).setTray t x
def x1 : TraySt := ⟨4096, 8192, 64, 4, 2, []⟩
def s1 : State := ((tr s0 3 1 x1).setW (R.HQ_T_DOORBELL 3) 5).setW (R.HQ_T_ACCEPT 3) 2
def s1v : State := (((tr s0 70 1 { x1 with fetched := [ent 5 0 0 [], ent 1 2 3 []] }).setW (R.HQ_T_DOORBELL 70) 4).setW (R.HQ_T_ACCEPT 70) 1).setF (R.HQ_T_STATUS.state 3) 3
def je (j t c : Nat) (b : List Byte) (st : Nat) : JEntry := ⟨j, t, c, b, st, 0, 0, 0, 0, 0⟩
def jl : List JEntry := [je 1 3 0 (ent 5 0 0 []) 2, je 2 3 1 (ent 1 9 4 []) 0, je 3 70 0 (ent 1 1 4 []) 1, je 4 70 1 (ent 2 0 0 []) 0, je 5 70 2 (ent 1 2 2 []) 2,
  je 6 3 2 (ent 3 0 0 [(0x28, 8), (0x30, 16)]) 1, je 7 3 3 (ent 4 0 0 [(0x29, 1), (0x30, 3)]) 1, je 8 3 4 (ent 3 0 0 [(0x28, 8), (0x30, 16)]) 0]
def sJ : State := { (tr s1 70 1 x1) with journal := jl, nextJid := 9, mem := [(256, 1), (257, 2), (258, 3)] }.setF R.HQ_STATUS.journal_used 8
def lay (s : State) : State := let t := s.setF R.LAY_STATUS.state 5; { t with lay := { t.lay with began := true } }
def sW : State := let s := lay sJ; { s with cores := [(s.coreKey 1, { CoreSt.zero with work := some ⟨3, none, 2, 0x6A, true, 77⟩ })] }
def je2 (e : JEntry) (d : Nat) (st : Nat) : JEntry := { e with detail := d, status := st }
def jl2 : List JEntry := [je2 (je 3 3 2 (ent 3 0 0 [(0x20, 9), (0x28, 0xF0), (0x29, 1), (0x30, 23)]) 1) 3 0, je2 (je 4 3 3 (ent 4 0 0 [(0x20, 9),
    (0x29, 1), (0x30, 70)]) 1) 0 0, je2 (je 5 3 0 (ent 1 2 2 [(1, 1)]) 2) 9 0x3000, je 6 3 1 (ent 1 1 3 [(0x17, 0x80), (0x14, 5)]) 0]
def wit0 : State := s0
def wit1 : State := s1
def wit2 : List (List Byte) := []
def wit3 : State := s1v
def wit4 : List Byte := ent 5 0 0 []
def wit5 : List (List Byte) := [ent 1 2 3 []]
def wit6 : List (Option (List Byte)) := []
def wit7 : State := lay sJ
def cand0 : List (JEntry) := jl ++ jl2
def wit8 : JEntry := (cand0.drop 1).head (by decide +kernel)
def wit9 : State := sJ
def wit10 : JEntry := (cand0.drop 3).head (by decide +kernel)
def wit11 : State := { sW with kv := { sW.kv with passes := [⟨3, 5, [1], [1], []⟩] } }
def wit12 : JEntry := (cand0.drop 2).head (by decide +kernel)
def wit13 : WorkSt := ⟨3, none, 2, 0x6A, true, 77⟩
def wit14 : JEntry := (cand0.drop 5).head (by decide +kernel)
def wit15 : List Byte := List.replicate 16 7
def wit16 : JEntry := (cand0.drop 6).head (by decide +kernel)
def wit17 : List Byte := List.replicate 3 1
def wit18 : JEntry := (cand0.drop 0).head (by decide +kernel)
end K05
namespace K06
def s0 : State := { base with mem := [(256, 1), (257, 2), (258, 3), (0x200000000 + 64, 9)] }
def sClosed : State := s0.setStep 4 1
def rq (h : Bool) (a n : Nat) (w : Option (List Byte)) (en : List Bool) : MemReq := ⟨.master 3, 3, h, a, n, w, en, none⟩
def sRow : State := s0.setF (R.SLC_ROW.row_thresh (s0.sliceKey 0 0)) 0
def sBad : State := { sRow with bad := [(1, 1)] }
def wit0 : State := s0
def wit1 : List Byte := [7, 8, 9]
def wit2 : List Bool := []
def wit3 : State := sClosed
def wit4 : MemReq := rq false 256 3 none []
def wit5 : List (Nat × BitVec 36) := []
def wit6 : MemReq := rq false 257 3 (some [7, 8, 9]) []
def wit7 : State := sBad
def wit8 : MemReq := rq false 0 64 none []
def cand0 : List (Loc) := [0, 64].filterMap (fun a => s0.locate a)
def wit9 : Loc := (cand0.drop 0).head (by decide +kernel)
end K06
namespace K07s
def s0 : State := { base with mem := [(256, 1), (257, 2), (258, 3), (0x200000000 + 64, 9)] }
def um : SliceSt := { SliceSt.zero with writeBacks := [64, 128], badRows := [2 * 4096 + 7, 3 * 4096 + 7], spareUsed := [(3, 8)], owed := [(2, 3), (5, 8)], scrub := [(1, 2 ^ 21 + 3)] }
def sU : State := { (s0.setSlice 0 (fun t => { um with map := t.map, spare := t.spare })) with bad := [(1, 5), (9, 1)] }
def cS (f : SliceSt → SliceSt) : State := sU.setSlice 0 f
def wit0 : State := s0
def wit1 : Master := .host 0
def wit2 : State := sU
def wit3 : State := cS (fun t => { t with toSpare := some (2, 0) })
def wit4 : State := cS (fun t => { t with rewrite := some 2 })
def wit5 : State := cS (fun t => { t with toCut := [(2, 1), (3, 0)] })
def wit6 : List (Nat × Nat) := [(3, 0)]
def wit7 : State := cS (fun t => { t with margin := some 3 })
end K07s
namespace K07u
def s0 : State := { base with mem := [(256, 1), (257, 2), (258, 3), (0x200000000 + 64, 9)] }
def um : SliceSt := { SliceSt.zero with writeBacks := [64, 128], badRows := [2 * 4096 + 7, 3 * 4096 + 7], spareUsed := [(3, 8)], owed := [(2, 3), (5, 8)], scrub := [(1, 2 ^ 21 + 3)] }
def sU : State := { (s0.setSlice 0 (fun t => { um with map := t.map, spare := t.spare })) with bad := [(1, 5), (9, 1)] }
def wit0 : State := sU
def wit1 : List Nat := [128]
def cand0 : List (Loc) := [0, 64].filterMap (fun a => s0.locate a)
def wit2 : Loc := (cand0.drop 1).head (by decide +kernel)
end K07u
namespace K07r
def s0 : State := { base with mem := [(256, 1), (257, 2), (258, 3), (0x200000000 + 64, 9)] }
def a0 : Nat := mkAddr 1 8 0x1FFFC0000 + 64 * 5
def rq (a n : Nat) (w : Option (List Byte)) : MemReq := ⟨.master 3, 3, false, a, n, w, [], none⟩
def en (fx : Bool) (c : Nat) : State := { s0 with slots := [(slotKey 1 5, { Slot.zero with enabled := true, fixed := fx, c := c, value := 77, counter := 3 })] }
def r7 : List MemReq := [rq a0 4 (some [0,0,0x80,0x3f]), rq a0 4 (some [0,0,0xc0,0xff]), rq (a0+16) 16 (some ([3,0,0,0,0,0,0,0] ++ List.replicate 8 0)), rq (a0+8) 1 (some [0]), rq (a0+0x38) 8 none, rq a0 64 none, rq a0 8 none]
def wit0 : State := en false 0
def wit1 : MemReq := (r7.drop 0).head (by decide +kernel)
def wit2 : State := en true 0
def wit3 : MemReq := (r7.drop 2).head (by decide +kernel)
def wit4 : MemReq := (r7.drop 3).head (by decide +kernel)
def wit5 : State := s0
def wit6 : MemReq := (r7.drop 4).head (by decide +kernel)
end K07r
namespace K08
def tl : Tbl Byte := (List.range 600).foldl (fun m i => Tbl.set 0 m (0x8000 + i * 13) (BitVec.ofNat 8 (i * 7 + 1))) ((List.range 300).foldl (fun m i => Tbl.set 0 m (0x1000 + i * 11) (BitVec.ofNat 8 (i * 5 + 1))) ((List.range 60).foldl (fun m i => Tbl.set 0 m (0x20000 + i * 3) (BitVec.ofNat 8 (i * 5 + 1))) []))
def W (u : Nat) (d : List Byte) (b : SubSt) (f : CoreSt →
    CoreSt) : State := B0.setCore u (fun t => f { t with issued := [(0, 2)], tile := tl, ops := [o1 d], subs := Tbl.set SubSt.zero [] 0 b })
def bz : SubSt := SubSt.zero
def full : SubSt := { bz with filled := 128 }
def strm : SubSt := { bz with fillPos := 1, streaming := true, row := 1, half0 := some ⟨0,0,0,0⟩ }
def acc0 (_ : List Byte) : Tbl Num.Fixed := (List.range 300).foldl (fun m i => Tbl.set Num.Fixed.zero m (i * 3 + (if i % 2 = 0 then 2^18 else 0)) ⟨BitVec.ofNat 64 (0x40000000 + i * 77777), i % 7 == 0, i % 5 == 0, false⟩) []
def oM (fx fw : Nat) : List (Nat × Nat × Nat) := ops0 fx fw ++ [(8,4,300)]
def mx : List (Nat × Nat × Nat) := oM 5 5 ++ [(0x38,8,mkAddr 0 0 0x100),(0x58,8,mkAddr 0 1 0x40)]
def ny : List (Nat × Nat × Nat) := [(0x82,2,0),(3,1,3),(0x60,8,0x40000+2^39),(0x68,4,512)]
def dd : List (List Byte) := [mkD (oM 3 3), mkD mx, mkD (oM 3 3 ++ ny), mkD (oM 1 1 ++ ny ++ [(0x60,8,mkAddr 0 0 0x8000)]), mkD (oM 1 1 ++ ny ++ [(0xB2,2,2),(0xB0,2,1),(0xB4,4,0),(0xB8,2,4)]), mkD (oM 1 1 ++ ny ++ [(0xB2,2,2),(0xB0,2,1),(0xB4,4,2),(0xB8,2,4)]), mkD (oM 1 1 ++ ny ++ [(5,1,2),(0xAC,4,256),(0xB2,2,2),(0xB0,2,1),(0xB4,4,0x20000+32*5),(0xB8,2,4)]), mkD (oM 3 3 ++ ny ++ [(0,1,3)]), mkD (oM 3 3 ++ ny ++ [(0,1,3),(5,1,8)]), mkD (oM 3 3 ++ [(0,1,3)])]
def Wm (d : List Byte) (b : SubSt) (f : CoreSt → CoreSt) : State := { (W 0 d b f) with bad := [(4, 1), (mkAddr 0 1 0 / 64 + 2, 7)] }
def cand0 : List (State) := dd.flatMap (fun d => [Wm d bz id, Wm d full id, Wm d strm id,
    Wm d { strm with half0 := some ⟨0,0,0,0⟩, half1 := some ⟨0,0,0,1⟩ } (fun t => { t with acc := acc0 d }),
    Wm d { strm with half0 := some ⟨0,0,0,2⟩, half1 := some ⟨0,0,0,1⟩ } (fun t => { t with acc := acc0 d }),
    Wm d { strm with half0 := some ⟨0,0,0,1⟩, half1 := some ⟨0,0,0,2⟩, out := [⟨0,0,0,0⟩] } (fun t => { t with acc := acc0 d }),
    Wm d { strm with half0 := some ⟨0,0,0,0⟩, half1 := none, out := [⟨0,0,0,1⟩] } (fun t => { t with acc := acc0 d, sumBits := [(0x20008, 5)] }),
    Wm d { strm with half0 := some ⟨0,0,0,0⟩, half1 := some ⟨0,0,0,2⟩, out := [⟨0,0,0,1⟩] } (fun t => { t with acc := acc0 d, sumBits := [(0x20008, 5)] }),
    Wm d { strm with pos := 2, half0 := none, half1 := some ⟨0,0,0,0⟩, ready := [⟨0,0,0,0⟩] } (fun t => { t with acc := acc0 d }),
    (Wm d { strm with pos := 2, half0 := some ⟨0,0,0,0⟩, half1 := none, ready := [⟨0,0,0,0⟩] } (fun t => { t with acc := acc0 d, stats := [(0, 0x3F800000), (1, 0x40000000), (8, 0x7f800000), (9,0)] })).setArrived 0 4 true])
def wit0 : State := (cand0.drop 0).head (by decide +kernel)
def wit1 : TilePos := ⟨0,0,0⟩
def wit2 : State := (cand0.drop 1).head (by decide +kernel)
def wit3 : State := (cand0.drop 3).head (by decide +kernel)
def wit4 : BlockId := ⟨0,0,0,1⟩
def wit5 : State := (cand0.drop 6).head (by decide +kernel)
def wit6 : State := (cand0.drop 8).head (by decide +kernel)
def wit7 : BlockId := ⟨0,0,0,0⟩
def wit8 : List BlockId := []
end K08
namespace K08a
def Dk (fx fw k : Nat) : List Byte := mkD (ops0 fx fw ++ [(0,1,k)])
def DL (fx fw : Nat) : List Byte := mkD (ops0 fx fw ++ [(0x20,8,0),(0x34,2,4),(0x36,2,3),(0x40,8,0),(0x54,2,8),(0x56,2,3)])
def tl : Tbl Byte := (List.range 600).foldl (fun m i => Tbl.set 0 m (0x8000 + i * 13) (BitVec.ofNat 8 (i * 7 + 1))) ((List.range 300).foldl (fun m i => Tbl.set 0 m (0x1000 + i * 11) (BitVec.ofNat 8 (i * 5 + 1))) ((List.range 60).foldl (fun m i => Tbl.set 0 m (0x20000 + i * 3) (BitVec.ofNat 8 (i * 5 + 1))) []))
def W (u : Nat) (d : List Byte) (b : SubSt) (f : CoreSt →
    CoreSt) : State := B0.setCore u (fun t => f { t with issued := [(0, 2)], tile := tl, ops := [o1 d], subs := Tbl.set SubSt.zero [] 0 b })
def bz : SubSt := SubSt.zero
def full : SubSt := { bz with filled := 128 }
def strm : SubSt := { bz with fillPos := 1, streaming := true, row := 1, half0 := some ⟨0,0,0,0⟩ }
def parts (d : List Byte) : List (List Num.Fixed) := (List.range 2).map (fun r => (List.range (subN d)).map (fun n => ⟨BitVec.ofNat 64 (if Desc.exact d then n + r * 1000 else 0x3F800000 + n * 65536), n == 5, false, n == 6⟩))
def acc0 (_ : List Byte) : Tbl Num.Fixed := (List.range 300).foldl (fun m i => Tbl.set Num.Fixed.zero m (i * 3 + (if i % 2 = 0 then 2^18 else 0)) ⟨BitVec.ofNat 64 (0x40000000 + i * 77777), i % 7 == 0, i % 5 == 0, false⟩) []
def ds : List (List Byte) := [D 3 3, D 1 1, D 0xF 0xF, Dk 3 3 3, Dk 1 1 3, DL 3 3, mkD (ops0 1 1 ++ [(5,1,2)]), mkD (ops0 1 1 ++ [(3,1,0x10)]), mkD (ops0 3 3 ++ [(6,1,0x85)])]
def cand0 : List (State) := ds.flatMap (fun d => [W 0 d bz id, W 35 d full id, W 0 d { bz with fillPos := 1, streaming := true, filled := 127 } id, W 0 d strm id, W 0 d { full with half0 := some ⟨0,1,0,0⟩, half1 := some ⟨0,0,1,0⟩ } id, W 0 d { strm with row := 0, pos := 1, fillPos := 2, half0 := none } id, W 0 d { strm with row := 0, pos := 1, fillPos := 2, half0 := none, out := [⟨0,0,0,0⟩], half1 := some ⟨0,0,0,7⟩ } (fun t => { t with acc := acc0 d, sumBits := [(0x20008, 5)] }),
    (W 0 d full id).setF (R.COR_ARR_CTRL.hold 0) 1, W 0 d { strm with flight := [⟨0,0,0,0,0,0,parts d⟩, ⟨0,0,0,0,0,2,(parts d).take 1⟩] } (fun t => { t with acc := acc0 d }), W 0 d { strm with flight := [⟨0,0,0,1,0,2,(parts d).take 1⟩], half0 := none, half1 := some ⟨0,0,0,0⟩ } (fun t => { t with acc := acc0 d }), W 0 d { strm with half0 := some ⟨0,0,0,1⟩, half1 := some ⟨0,0,0,0⟩, out := [⟨0,0,0,5⟩] } (fun t => { t with acc := acc0 d }), W 0 d { strm with half0 := some ⟨0,0,0,1⟩, half1 := some ⟨0,0,0,0⟩, ready := [⟨0,0,0,0⟩, ⟨0,0,0,1⟩] } (fun t => { t with acc := acc0 d, stats := [(0, 0x3F800000), (1, 0x40000000), (8, 0x7f800000), (9,0)] })] )
def wit0 : State := (cand0.drop 8).head (by decide +kernel)
def cand1 : List (Flight) := ds.flatMap (fun d => [⟨0,0,0,0,0,0,parts d⟩, ⟨0,0,0,1,0,2,(parts d).take 1⟩])
def wit1 : Flight := (cand1.drop 0).head (by decide +kernel)
def cand2 : List (List Flight) := ds.flatMap (fun d => [[], [⟨0,0,0,0,0,2,(parts d).take 1⟩]])
def wit2 : List Flight := (cand2.drop 1).head (by decide +kernel)
end K08a
namespace K88
def tl : Tbl Byte := (List.range 600).foldl (fun m i => Tbl.set 0 m (0x8000 + i * 13) (BitVec.ofNat 8 (i * 7 + 1))) ((List.range 300).foldl (fun m i => Tbl.set 0 m (0x1000 + i * 11) (BitVec.ofNat 8 (i * 5 + 1))) ((List.range 60).foldl (fun m i => Tbl.set 0 m (0x20000 + i * 3) (BitVec.ofNat 8 (i * 5 + 1))) []))
def L (u : Nat) (s : State) : State := s.setCore u (fun t => { t with tile := tl })
def wit0 : State := B0
def cand0 : List (LandWrite) := [3,35].flatMap (fun c => [(4,0,10),(4,0x1F8,8),(4,0x1F8,9),(4095,1,69),(4095,2,69),(7,0,1)].flatMap (fun x => [(true,true),(true,false),(false,true),(false,false)].flatMap (fun b => [true,false].map (fun p => ⟨c,x.1,x.2.1,(List.range x.2.2).map (fun i => BitVec.ofNat 8 (i*3+1)),b.1,b.2,p,.master 0x19⟩))))
def wit1 : LandWrite := (cand0.drop 0).head (by decide +kernel)
def wit2 : LandCfg := ⟨4,0x100,0x200,false⟩
def wit3 : LandWrite := (cand0.drop 4).head (by decide +kernel)
def wit4 : State := (L 3 B0).setArrived 3 4 true
def wit5 : State := { B0 with rst := { B0.rst with running := [⟨0,0,3,false,0⟩] } }
def wit6 : LandWrite := (cand0.drop 16).head (by decide +kernel)
end K88
namespace K09f2
def tl : Tbl Byte := (List.range 2).foldl (fun m i => Tbl.set 0 m (0x8000 + i * 13) (BitVec.ofNat 8 (i * 7 + 1))) ((List.range 2).foldl (fun m i => Tbl.set 0 m (0x1000 + i * 11) (BitVec.ofNat 8 (i * 5 + 1))) ((List.range 2).foldl (fun m i => Tbl.set 0 m (0x20000 + i * 3) (BitVec.ofNat 8 (i * 5 + 1))) []))
def F0 : VecF := ⟨5,1,2,3,true,1,false,false,0,false,0,0,0⟩
def vv : Tbl Vec := [(0,[1,2,3]),(8, (List.range 512).map (fun l => BitVec.ofNat 32 (0x3F800000 + l * 0x12345 - (l%7) * 0x8000000))),
    (9,(List.range 2).map (fun l => BitVec.ofNat 32 (0x40000000 + l * 0x52345))), (10, [0x7FC00001#32, 0x7F800000#32, 0xFF800000#32, 0x80000000#32]),
    (11, (List.range 512).map (fun l => BitVec.ofNat 32 (l * 3))), (13, [5,6,7,8,9])]
def pp : Tbl (BitVec 512) := [(2, 0x5), (3, BitVec.ofNat 512 (2^500 + 0xF0F0F3)), (4, 0xFFFF), (5, 0x3)]
def ss : Tbl Word32 := [(3, 0x1010#32), (4, 0x40#32), (5, 0x5000#32), (6, 0x40000000#32), (7, 3), (8,0x100#32)]
def hdr : List Word64 := [BitVec.ofNat 64 (5 + 5 * 1024 + 5 * 2^20 + 1 * 2^31 + 1 * 2^33), BitVec.ofNat 64 (8 + 2 * 4096 + 3 * 2^20 + 5*2^25 + 15 * 2^16 + 32 * 2^6)]
def ctxs : List Ctx := [⟨0,0,⟨0,0,0,0⟩,0,0,0,3,[],false,0,0,0,[]⟩, ⟨0,0,⟨0,0,0,0⟩,0,0,128,7,[[1],[2]],false,1,1,1,[]⟩,
    ⟨1,0,⟨0,0,0,0⟩,2,1,0,3,[],false,1,2,0,[]⟩]
def st (op : Nat) (f : VecF) (c : Ctx) (u : Nat) : State := B0.setCore u (fun t => { t with tile := tl, ops := [o1 (D 3 3)], v := vv, p := pp, s := ss, rr := [(1,[9,8]),(0,[4])], rrFull := [(1,true)], sends := [(2,[7,7])], stats := [(statKey 0 0 0, 7),(statKey 0 5 1, 9),(statKey 2 1 1, 0x3F800000)], chain := Tbl.setList 0 [] 0 (hdr ++ (List.range 15).map (fun _ => BitVec.ofNat 64 (vecWord op f))), ctx := if c.kind = 1 then none else some c, pctx := if c.kind = 1 then some c else none })
def fsAll : List VecF := [F0, { F0 with all := false, mz := true, fn := 1, imm := 0x2008, vb := 5 }, { F0 with all := false, vd := 1, fn := 2, bs := true, imm := 0x200B, va := 2, vb := 3 }, { F0 with vb := 3, va := 2, fn := 3, pg := 2, all := false }, {F0 with fn := 4, va := 0 , imm := 0x4001}, {F0 with fn := 7, imm := 0x7FFF}]
def cand0 : List (State) := (List.range 27).flatMap (fun op => fsAll.flatMap (fun f => ctxs.map (fun c => st op f c 0)))
def wit0 : State := (cand0.drop 0).head (by decide +kernel)
def wit1 : VecF := (fsAll.drop 0).head (by decide +kernel)
def wit2 : Ctx := (ctxs.drop 0).head (by decide +kernel)
def wit3 : State := (cand0.drop 90).head (by decide +kernel)
def wit4 : State := (cand0.drop 288).head (by decide +kernel)
def wit5 : State := (cand0.drop 162).head (by decide +kernel)
def wit6 : State := (cand0.drop 360).head (by decide +kernel)
def wit7 : State := (cand0.drop 378).head (by decide +kernel)
def wit8 : State := (cand0.drop 468).head (by decide +kernel)
def wit9 : State := (cand0.drop 306).head (by decide +kernel)
def wit10 : State := (cand0.drop 324).head (by decide +kernel)
def wit11 : State := (cand0.drop 342).head (by decide +kernel)
end K09f2
namespace K09ld
def tl : Tbl Byte := (List.range 2).foldl (fun m i => Tbl.set 0 m (0x8000 + i * 13) (BitVec.ofNat 8 (i * 7 + 1))) ((List.range 2).foldl (fun m i => Tbl.set 0 m (0x1000 + i * 11) (BitVec.ofNat 8 (i * 5 + 1))) ((List.range 2).foldl (fun m i => Tbl.set 0 m (0x20000 + i * 3) (BitVec.ofNat 8 (i * 5 + 1))) []))
def F0 : VecF := ⟨5,1,2,3,true,1,false,false,0,false,0,0,0⟩
def vv : Tbl Vec := [(0,[1,2,3]),(8, (List.range 512).map (fun l => BitVec.ofNat 32 (0x3F800000 + l * 0x12345 - (l%7) * 0x8000000))),
    (9,(List.range 2).map (fun l => BitVec.ofNat 32 (0x40000000 + l * 0x52345))), (10, [0x7FC00001#32, 0x7F800000#32, 0xFF800000#32, 0x80000000#32]),
    (11, (List.range 512).map (fun l => BitVec.ofNat 32 (l * 3))), (13, [5,6,7,8,9])]
def pp : Tbl (BitVec 512) := [(2, 0x5), (3, BitVec.ofNat 512 (2^500 + 0xF0F0F3)), (4, 0xFFFF), (5, 0x3)]
def ss : Tbl Word32 := [(3, 0x1010#32), (4, 0x40#32), (5, 0x5000#32), (6, 0x40000000#32), (7, 3), (8,0x100#32)]
def hdr : List Word64 := [BitVec.ofNat 64 (5 + 5 * 1024 + 5 * 2^20 + 1 * 2^31 + 1 * 2^33), BitVec.ofNat 64 (8 + 2 * 4096 + 3 * 2^20 + 5*2^25 + 15 * 2^16 + 32 * 2^6)]
def ctxs : List Ctx := [⟨0,0,⟨0,0,0,0⟩,0,0,0,3,[],false,0,0,0,[]⟩, ⟨0,0,⟨0,0,0,0⟩,0,0,128,7,[[1],[2]],false,1,1,1,[]⟩,
    ⟨1,0,⟨0,0,0,0⟩,2,1,0,3,[],false,1,2,0,[]⟩]
def st (op : Nat) (f : VecF) (c : Ctx) (u : Nat) : State := B0.setCore u (fun t => { t with tile := tl, ops := [o1 (D 3 3)], v := vv, p := pp, s := ss, rr := [(1,[9,8]),(0,[4])], rrFull := [(1,true)], sends := [(2,[7,7])], stats := [(statKey 0 0 0, 7),(statKey 0 5 1, 9),(statKey 2 1 1, 0x3F800000)], chain := Tbl.setList 0 [] 0 (hdr ++ (List.range 15).map (fun _ => BitVec.ofNat 64 (vecWord op f))), ctx := if c.kind = 1 then none else some c, pctx := if c.kind = 1 then some c else none })
def fL : List VecF := [F0, { F0 with all := false, mz := true, fn := 1, imm := 0x0401, vb := 5, va := 3 }, { F0 with fn := 1, vb := 2, vc := 3, va := 2 ,sat := true}, {F0 with va := 3, fmt := 1, rm := 1}, {F0 with va := 0, imm := 1}, {F0 with fmt := 5, sat := true, fn := 1, va := 31}]
def cand0 : List (State) := [0x16,0xB,0x17,0x18,0x19].flatMap (fun op => fL.flatMap (fun f => ctxs.flatMap (fun c => [st op f c 0] ++ if op = 0x16 then [(st op f c 0).setArrived 0 4 true] else if op = 0x18 then [(st op f c 0).setCore 1 (fun t => { t with rrFull := [(1,true)] }),
    (st op f c 0).setCore 1 (fun t => { t with sends := [(3,[3])] })] else [])))
def wit0 : State := (cand0.drop 2).head (by decide +kernel)
def wit1 : VecF := (fL.drop 0).head (by decide +kernel)
def wit2 : Ctx := (ctxs.drop 1).head (by decide +kernel)
def wit3 : State := (cand0.drop 0).head (by decide +kernel)
def wit4 : Ctx := (ctxs.drop 0).head (by decide +kernel)
def wit5 : State := (cand0.drop 36).head (by decide +kernel)
def wit6 : State := (cand0.drop 60).head (by decide +kernel)
def wit7 : VecF := (fL.drop 2).head (by decide +kernel)
def wit8 : State := (cand0.drop 54).head (by decide +kernel)
def wit9 : State := (cand0.drop 72).head (by decide +kernel)
def wit10 : State := (cand0.drop 82).head (by decide +kernel)
def wit11 : VecF := (fL.drop 1).head (by decide +kernel)
def wit12 : State := (cand0.drop 129).head (by decide +kernel)
def wit13 : State := (cand0.drop 126).head (by decide +kernel)
end K09ld
namespace K09y
def tl : Tbl Byte := (List.range 2).foldl (fun m i => Tbl.set 0 m (0x8000 + i * 13) (BitVec.ofNat 8 (i * 7 + 1))) ((List.range 2).foldl (fun m i => Tbl.set 0 m (0x1000 + i * 11) (BitVec.ofNat 8 (i * 5 + 1))) ((List.range 2).foldl (fun m i => Tbl.set 0 m (0x20000 + i * 3) (BitVec.ofNat 8 (i * 5 + 1))) []))
def F0 : VecF := ⟨5,1,2,3,true,1,false,false,0,false,0,0,0⟩
def vv : Tbl Vec := [(0,[1,2,3]),(8, (List.range 512).map (fun l => BitVec.ofNat 32 (0x3F800000 + l * 0x12345 - (l%7) * 0x8000000))),
    (9,(List.range 2).map (fun l => BitVec.ofNat 32 (0x40000000 + l * 0x52345))), (10, [0x7FC00001#32, 0x7F800000#32, 0xFF800000#32, 0x80000000#32]),
    (11, (List.range 512).map (fun l => BitVec.ofNat 32 (l * 3))), (13, [5,6,7,8,9])]
def pp : Tbl (BitVec 512) := [(2, 0x5), (3, BitVec.ofNat 512 (2^500 + 0xF0F0F3)), (4, 0xFFFF), (5, 0x3)]
def ss : Tbl Word32 := [(3, 0x1010#32), (4, 0x40#32), (5, 0x5000#32), (6, 0x40000000#32), (7, 3), (8,0x100#32)]
def hdr : List Word64 := [BitVec.ofNat 64 (5 + 5 * 1024 + 5 * 2^20 + 1 * 2^31 + 1 * 2^33), BitVec.ofNat 64 (8 + 2 * 4096 + 3 * 2^20 + 5*2^25 + 15 * 2^16 + 32 * 2^6)]
def ctxs : List Ctx := [⟨0,0,⟨0,0,0,0⟩,0,0,0,3,[],false,0,0,0,[]⟩, ⟨0,0,⟨0,0,0,0⟩,0,0,128,7,[[1],[2]],false,1,1,1,[]⟩,
    ⟨1,0,⟨0,0,0,0⟩,2,1,0,3,[],false,1,2,0,[]⟩]
def st (op : Nat) (f : VecF) (c : Ctx) (u : Nat) : State := B0.setCore u (fun t => { t with tile := tl, ops := [o1 (D 3 3)], v := vv, p := pp, s := ss, rr := [(1,[9,8]),(0,[4])], rrFull := [(1,true)], sends := [(2,[7,7])], stats := [(statKey 0 0 0, 7),(statKey 0 5 1, 9),(statKey 2 1 1, 0x3F800000)], chain := Tbl.setList 0 [] 0 (hdr ++ (List.range 15).map (fun _ => BitVec.ofNat 64 (vecWord op f))), ctx := if c.kind = 1 then none else some c, pctx := if c.kind = 1 then some c else none })
def fL : List VecF := [{F0 with fn := 2, va := 0, bs := false}, {F0 with fn := 2, va := 0, bs := false, all := false, mz := true}, {F0 with va := 8, fmt := 3, all := true}, {F0 with va := 8, fmt := 3, all := false}]
def dT : List Byte := mkD (ops0 3 3 ++ [(0x60,8,0x9000+2^39),(0x68,4,64)])
def st2 (op : Nat) (f : VecF) (c : Ctx) : State := (st op f c 0).setCore 0 (fun t => { t with ops := [o1 dT] })
def stM (op : Nat) (f : VecF) (c : Ctx) : State := let s := (st2 op f c).setCore 0 (fun t => { t with ops := [o1 (mkD (ops0 3 3 ++ [(0x60,8,0x9000),(0x68,4,64)]))] }); { s with thm := { s.thm with pausing := true } }
def cand0 : List (State) := fL.flatMap (fun f => ctxs.flatMap (fun c => [st 0x16 f c 0, st2 0x17 f c, stM 0x17 f c]))
def wit0 : State := (cand0.drop 0).head (by decide +kernel)
def wit1 : VecF := (fL.drop 0).head (by decide +kernel)
def wit2 : Ctx := (ctxs.drop 0).head (by decide +kernel)
def wit3 : State := (cand0.drop 19).head (by decide +kernel)
def wit4 : VecF := (fL.drop 2).head (by decide +kernel)
def wit5 : State := (cand0.drop 26).head (by decide +kernel)
def wit6 : Ctx := (ctxs.drop 2).head (by decide +kernel)
def wit7 : Vec := [7,7]
def wit8 : List (Nat × Vec) := []
end K09y
namespace K10a
def tl : Tbl Byte := (List.range 2).foldl (fun m i => Tbl.set 0 m (0x8000 + i * 13) (BitVec.ofNat 8 (i * 7 + 1))) ((List.range 2).foldl (fun m i => Tbl.set 0 m (0x1000 + i * 11) (BitVec.ofNat 8 (i * 5 + 1))) ((List.range 2).foldl (fun m i => Tbl.set 0 m (0x20000 + i * 3) (BitVec.ofNat 8 (i * 5 + 1))) []))
def vv : Tbl Vec := [(0,[1,2,3]),(8, (List.range 512).map (fun l => BitVec.ofNat 32 (0x3F800000 + l * 0x12345 - (l%7) * 0x8000000))),
    (9,(List.range 2).map (fun l => BitVec.ofNat 32 (0x40000000 + l * 0x52345))), (10, [0x7FC00001#32, 0x7F800000#32, 0xFF800000#32, 0x80000000#32]),
    (11, (List.range 512).map (fun l => BitVec.ofNat 32 (l * 3))), (13, [5,6,7,8,9])]
def hdr : List Word64 := [BitVec.ofNat 64 (5 + 5 * 1024 + 5 * 2^20 + 1 * 2^31 + 1 * 2^33), BitVec.ofNat 64 (8 + 2 * 4096 + 3 * 2^20 + 5*2^25 + 15 * 2^16 + 32 * 2^6)]
def ac : Nat := mkAddr 0 0 0x10000
def oo (fx fw : Nat) : List (Nat × Nat × Nat) := ops0 fx fw ++ [(0x82,2,0x8000), (0x84,2,0x8000), (0x88,4,0x1000), (4,1,0),
    (3,1,3),(0x60,8,0x40000+2^39),(0x98,8,0x60000+2^39)]
def P0 : List Byte := mkD (oo 3 3 ++ [(0x80,2,0x8000),(0x94,4,0x70000)])
def P1 : List Byte := mkD (oo 3 3 ++ [(0x80,2,0x8000),(0x20,8,0),(0x34,2,4),(0x36,2,3),(5,1,0x10),(0xA4,2,0)])
def Fd (dst : Nat) : List Byte := mkD (oo 3 3 ++ [(0x20,8,ac),(0x28,4,130),(0x34,2,4),(0x36,2,3),(0x10,4,130),(8,4,1),(0x40,8,ac+4096),(0x48,4,2),(0x54,2,8+dst),(0x56,2,3)])
def Fw : List Byte := mkD (oo 3 3 ++ [(0x10,4,1),(0x40,8,ac+4096),(0x48,4,2),(0x54,2,8),(0x56,2,3)])
def dE : List Byte := mkD (oo 3 3 ++ [(8,4,0), (0xBA,2,77),(0xBC,2,5),(0xBE,2,1)])
def dS2 : List Byte := mkD (oo 3 3 ++ [(7,1,2),(0x1A,2,4)])
def dN : List Byte := mkD (oo 3 3 ++ [(0xBA,2,9),(0xBC,2,2),(0xBE,2,1),(5,1,4)])
def w0 : WorkSt := ⟨5, some 0, 0, 1, false, 3⟩
def imgD : Image := { img with sections := img.sections ++ [⟨6,0,0,0,0,0,0,.desc (mkAddr 0 0 0x2000) []⟩] }
def OS (f : CoreSt →
    CoreSt) : State := { B0 with lay := { B0.lay with force := some imgD } }.setCore 0 (fun t => f { t with tile := tl, v := vv, work := some w0, chain := Tbl.setList 0 [] 0 (hdr ++ (List.range 15).map (fun _ => 5)) })
def mem (d : List Byte) (s : State) : State := { s with mem := (List.range 256).foldl (fun m i => Tbl.set 0 m (mkAddr 0 0 0x2000 + i) (d.getD i 0)) ((List.range 2).foldl (fun m i => Tbl.set 0 m (ac + i * 17) (BitVec.ofNat 8 (i * 3 + 1))) s.mem) }
def NP (s : State) : State := s.setCore 0 (fun t => { t with chain := Tbl.set 0 t.chain 0 (BitVec.ofNat 64 (5 * 1024 + 5 * 2^20 + 1 * 2^31 + 1 * 2^33)) })
def dX : List Byte := mkD (oo 3 3 ++ [(0x84,2,0),(0x86,2,0)])
def PM : List Byte := mkD (oo 6 3 ++ [(0x80,2,0x8000),(0x94,4,0x70000),(0x38,8,ac)])
def states : List State := [OS id, (OS (fun t => { t with ops := [o1 dN], epi := [⟨⟨0,0,0,0⟩,0,[[1,2,3],[4]]⟩, ⟨⟨0,0,1,0⟩,0,[]⟩], order := [(0,⟨0,0,0,0⟩),(0,⟨0,0,1,0⟩)] })),
  (OS (fun t => { t with ops := [o1 P0] })), (OS (fun t => { t with ops := [o1 P1] })), (OS (fun t => { t with ops := [o1 P1] })).setArrived 0 4 true, ((OS (fun t => { t with ops := [o1 P1] })).setArrived 0 4 true).setArrived 0 0 true,
  (OS (fun t => { t with ops := [o1 P0], proDone := [(0,true)] })),
  (OS (fun t => { t with ops := [o1 dN], defer := [⟨⟨0,0,0,0⟩,0,[]⟩] })),
  mem (D 3 3) (OS id), mem dE (OS id), mem dS2 (OS id), (mem dS2 (OS id)).setArrived 0 4 true, mem dS2 (OS (fun t => { t with recs := [(0,none)] })),
  mem dE (OS (fun t => { t with ops := [o1 (Fd 0)] })), mem dE (OS (fun t => { t with ops := [o1 (Fd 0), o1 Fw], fetched := [(0,0),(3,1)] })), (OS (fun t => { t with ops := [o1 dN], finish := some (o1 dN) })), mem dE (OS (fun t => { t with ops := [o1 Fw] })), ((OS id).setArrived 0 4 true).setArrived 0 8 true,
  NP (OS (fun t => { t with ops := [o1 dN], epi := [⟨⟨0,0,0,0⟩,0,[[1,2,3],[4]]⟩], order := [(0,⟨0,0,0,0⟩)] })),
  NP (OS (fun t => { t with ops := [o1 P0] })), NP (OS (fun t => { t with ops := [o1 dN], defer := [⟨⟨0,0,0,0⟩,0,[]⟩] })),
  OS (fun t => { t with ops := [o1 dX], defer := [⟨⟨0,0,0,0⟩,0,[]⟩] }), OS (fun t => { t with ops := [o1 PM] }), let s := OS (fun t => { t with ops := [o1 PM] }); { s with thm := { s.thm with pausing := true } }]
def wit0 : State := (states.drop 1).head (by decide +kernel)
def wit1 : Drained := ⟨⟨0,0,0,0⟩,0,[[1,2,3],[4]]⟩
def wit2 : State := (states.drop 2).head (by decide +kernel)
def wit3 : TilePos := ⟨0,0,0⟩
def wit4 : State := (states.drop 23).head (by decide +kernel)
def wit5 : State := (states.drop 3).head (by decide +kernel)
def wit6 : State := (states.drop 4).head (by decide +kernel)
def wit7 : State := (states.drop 7).head (by decide +kernel)
def wit8 : Drained := ⟨⟨0,0,0,0⟩,0,[]⟩
def wit9 : List Drained := []
def wit10 : State := (states.drop 21).head (by decide +kernel)
end K10a
namespace K10
def tl : Tbl Byte := (List.range 2).foldl (fun m i => Tbl.set 0 m (0x8000 + i * 13) (BitVec.ofNat 8 (i * 7 + 1))) ((List.range 2).foldl (fun m i => Tbl.set 0 m (0x1000 + i * 11) (BitVec.ofNat 8 (i * 5 + 1))) ((List.range 2).foldl (fun m i => Tbl.set 0 m (0x20000 + i * 3) (BitVec.ofNat 8 (i * 5 + 1))) []))
def vv : Tbl Vec := [(0,[1,2,3]),(8, (List.range 512).map (fun l => BitVec.ofNat 32 (0x3F800000 + l * 0x12345 - (l%7) * 0x8000000))),
    (9,(List.range 2).map (fun l => BitVec.ofNat 32 (0x40000000 + l * 0x52345))), (10, [0x7FC00001#32, 0x7F800000#32, 0xFF800000#32, 0x80000000#32]),
    (11, (List.range 512).map (fun l => BitVec.ofNat 32 (l * 3))), (13, [5,6,7,8,9])]
def hdr : List Word64 := [BitVec.ofNat 64 (5 + 5 * 1024 + 5 * 2^20 + 1 * 2^31 + 1 * 2^33), BitVec.ofNat 64 (8 + 2 * 4096 + 3 * 2^20 + 5*2^25 + 15 * 2^16 + 32 * 2^6)]
def ac : Nat := mkAddr 0 0 0x10000
def oo (fx fw : Nat) : List (Nat × Nat × Nat) := ops0 fx fw ++ [(0x82,2,0x8000), (0x84,2,0x8000), (0x88,4,0x1000), (4,1,0),
    (3,1,3),(0x60,8,0x40000+2^39),(0x98,8,0x60000+2^39)]
def P0 : List Byte := mkD (oo 3 3 ++ [(0x80,2,0x8000),(0x94,4,0x70000)])
def P1 : List Byte := mkD (oo 3 3 ++ [(0x80,2,0x8000),(0x20,8,0),(0x34,2,4),(0x36,2,3),(5,1,0x10),(0xA4,2,0)])
def Fd (dst : Nat) : List Byte := mkD (oo 3 3 ++ [(0x20,8,ac),(0x28,4,130),(0x34,2,4),(0x36,2,3),(0x10,4,130),(8,4,1),(0x40,8,ac+4096),(0x48,4,2),(0x54,2,8+dst),(0x56,2,3)])
def Fw : List Byte := mkD (oo 3 3 ++ [(0x10,4,1),(0x40,8,ac+4096),(0x48,4,2),(0x54,2,8),(0x56,2,3)])
def dE : List Byte := mkD (oo 3 3 ++ [(8,4,0), (0xBA,2,77),(0xBC,2,5),(0xBE,2,1)])
def dS2 : List Byte := mkD (oo 3 3 ++ [(7,1,2),(0x1A,2,4)])
def dN : List Byte := mkD (oo 3 3 ++ [(0xBA,2,9),(0xBC,2,2),(0xBE,2,1),(5,1,4)])
def w0 : WorkSt := ⟨5, some 0, 0, 1, false, 3⟩
def imgD : Image := { img with sections := img.sections ++ [⟨6,0,0,0,0,0,0,.desc (mkAddr 0 0 0x2000) []⟩] }
def OS (f : CoreSt →
    CoreSt) : State := { B0 with lay := { B0.lay with force := some imgD } }.setCore 0 (fun t => f { t with tile := tl, v := vv, work := some w0, chain := Tbl.setList 0 [] 0 (hdr ++ (List.range 15).map (fun _ => 5)) })
def mem (d : List Byte) (s : State) : State := { s with mem := (List.range 256).foldl (fun m i => Tbl.set 0 m (mkAddr 0 0 0x2000 + i) (d.getD i 0)) ((List.range 2).foldl (fun m i => Tbl.set 0 m (ac + i * 17) (BitVec.ofNat 8 (i * 3 + 1))) s.mem) }
def PZ (s : State) : State := { s with thm := { s.thm with pausing := true } }
def BADS (s : State) : State := { s with bad := [(mkAddr 0 0 0x2000 / 64, 3),(ac / 64,3)] }
def dM : List Byte := mkD (oo 3 3 ++ [(0xBA,2,9),(0xBC,2,2),(0xBE,2,1),(5,1,0x4),(0x98,8,ac)])
def states : List State := [OS id, (OS (fun t => { t with ops := [o1 dN], epi := [⟨⟨0,0,0,0⟩,0,[[1,2,3],[4]]⟩, ⟨⟨0,0,1,0⟩,0,[]⟩] })),
  (OS (fun t => { t with ops := [o1 P0] })), (OS (fun t => { t with ops := [o1 P1] })), (OS (fun t => { t with ops := [o1 P1] })).setArrived 0 4 true, ((OS (fun t => { t with ops := [o1 P1] })).setArrived 0 4 true).setArrived 0 0 true,
  (OS (fun t => { t with ops := [o1 P0], proDone := [(0,true)] })),
  (OS (fun t => { t with ops := [o1 dN], defer := [⟨⟨0,0,0,0⟩,0,[]⟩] })),
  mem (D 3 3) (OS id), mem dE (OS id), mem dS2 (OS id), (mem dS2 (OS id)).setArrived 0 4 true, mem dS2 (OS (fun t => { t with recs := [(0,none)] })),
  mem dE (OS (fun t => { t with ops := [o1 (Fd 0)] })), mem dE (OS (fun t => { t with ops := [o1 (Fd 0), o1 Fw], fetched := [(0,0),(3,1)] })), (OS (fun t => { t with ops := [o1 dN], finish := some (o1 dN) })), mem dE (OS (fun t => { t with ops := [o1 Fw] })), ((OS id).setArrived 0 4 true).setArrived 0 8 true,
  PZ (mem (D 3 3) (OS id)), PZ (mem dE (OS (fun t => { t with ops := [o1 (Fd 0)] }))), BADS (mem (D 3 3) (OS id)), BADS (mem dE (OS (fun t => { t with ops := [o1 (Fd 0)] }))),
  mem dS2 (OS (fun t => { t with recs := [(0,some ⟨1000,1,1,1,1⟩)] })), mem dS2 (OS (fun t => { t with recs := [(0,some ⟨1,1,1,1,1⟩)] })), mem dS2 (OS (fun t => { t with recs := [(0,some ⟨1,1,0,1,1⟩)] })),
  OS (fun t => { t with finish := some (o1 dM) }), PZ (OS (fun t => { t with finish := some (o1 dM) })), BADS (OS (fun t => { t with finish := some (o1 dM) })), OS (fun t => { t with work := some { w0 with next := some 299 } })]
def wit0 : State := (states.drop 11).head (by decide +kernel)
def wit1 : WorkSt := w0
def wit2 : List Byte := dS2
def wit3 : State := (states.drop 10).head (by decide +kernel)
def wit4 : State := (states.drop 18).head (by decide +kernel)
def wit5 : State := (states.drop 20).head (by decide +kernel)
def wit6 : State := (states.drop 12).head (by decide +kernel)
def wit7 : List (Nat × Nat) := [(0,0x20)]
def wit8 : State := (states.drop 22).head (by decide +kernel)
def wit9 : List (Nat × Nat) := [(0,1)]
def wit10 : State := (states.drop 9).head (by decide +kernel)
def wit11 : List OpSt := [⟨dE, mkAddr 0 0 0x2000, 0, Desc.planShape dE, 0⟩]
def wit12 : OpSt := ⟨dE, mkAddr 0 0 0x2000, 0, Desc.planShape dE, 0⟩
def wit13 : State := (states.drop 8).head (by decide +kernel)
def wit14 : List OpSt := [⟨D 3 3, mkAddr 0 0 0x2000, 0, Desc.planShape (D 3 3), 0⟩]
def wit15 : State := (states.drop 13).head (by decide +kernel)
def wit16 : LandCfg := ⟨4,0x100,0x200,false⟩
def wit17 : TilePos := ⟨0,0,0⟩
def cand1 : List (Nat × Nat × Nat) := (wRuns (o1 Fw) ⟨0,0,0⟩) ++ (xRuns (o1 (Fd 0)) ⟨0,0,0⟩ 0) ++ (xRuns (o1 (Fd 0)) ⟨0,0,1⟩ 0)
def wit18 : Nat × Nat × Nat := (cand1.drop 1).head (by decide +kernel)
def wit19 : State := (states.drop 3).head (by decide +kernel)
def wit20 : State := (states.drop 21).head (by decide +kernel)
def wit21 : State := (states.drop 19).head (by decide +kernel)
def wit22 : LandCfg := ⟨8,0x4000,0x4000,false⟩
def wit23 : State := (states.drop 0).head (by decide +kernel)
def wit24 : MergeReq := ⟨3,[],0x3000⟩
def wit25 : State := (states.drop 15).head (by decide +kernel)
def wit26 : OpSt := o1 dN
def wit27 : State := (states.drop 27).head (by decide +kernel)
def wit28 : OpSt := o1 dM
end K10
namespace K10u
def tl : Tbl Byte := (List.range 2).foldl (fun m i => Tbl.set 0 m (0x8000 + i * 13) (BitVec.ofNat 8 (i * 7 + 1))) ((List.range 2).foldl (fun m i => Tbl.set 0 m (0x1000 + i * 11) (BitVec.ofNat 8 (i * 5 + 1))) ((List.range 2).foldl (fun m i => Tbl.set 0 m (0x20000 + i * 3) (BitVec.ofNat 8 (i * 5 + 1))) []))
def vv : Tbl Vec := [(0,[1,2,3]),(8, (List.range 512).map (fun l => BitVec.ofNat 32 (0x3F800000 + l * 0x12345 - (l%7) * 0x8000000))),
    (9,(List.range 2).map (fun l => BitVec.ofNat 32 (0x40000000 + l * 0x52345))), (10, [0x7FC00001#32, 0x7F800000#32, 0xFF800000#32, 0x80000000#32]),
    (11, (List.range 512).map (fun l => BitVec.ofNat 32 (l * 3))), (13, [5,6,7,8,9])]
def hdr : List Word64 := [BitVec.ofNat 64 (5 + 5 * 1024 + 5 * 2^20 + 1 * 2^31 + 1 * 2^33), BitVec.ofNat 64 (8 + 2 * 4096 + 3 * 2^20 + 5*2^25 + 15 * 2^16 + 32 * 2^6)]
def ac : Nat := mkAddr 0 0 0x10000
def oo (fx fw : Nat) : List (Nat × Nat × Nat) := ops0 fx fw ++ [(0x82,2,0x8000), (0x84,2,0x8000), (0x88,4,0x1000), (4,1,0),
    (3,1,3),(0x60,8,0x40000+2^39),(0x98,8,0x60000+2^39)]
def P0 : List Byte := mkD (oo 3 3 ++ [(0x80,2,0x8000),(0x94,4,0x70000)])
def P1 : List Byte := mkD (oo 3 3 ++ [(0x80,2,0x8000),(0x20,8,0),(0x34,2,4),(0x36,2,3),(5,1,0x10),(0xA4,2,0)])
def Fd (dst : Nat) : List Byte := mkD (oo 3 3 ++ [(0x20,8,ac),(0x28,4,130),(0x34,2,4),(0x36,2,3),(0x10,4,130),(8,4,1),(0x40,8,ac+4096),(0x48,4,2),(0x54,2,8+dst),(0x56,2,3)])
def Fw : List Byte := mkD (oo 3 3 ++ [(0x10,4,1),(0x40,8,ac+4096),(0x48,4,2),(0x54,2,8),(0x56,2,3)])
def dE : List Byte := mkD (oo 3 3 ++ [(8,4,0), (0xBA,2,77),(0xBC,2,5),(0xBE,2,1)])
def dS2 : List Byte := mkD (oo 3 3 ++ [(7,1,2),(0x1A,2,4)])
def dN : List Byte := mkD (oo 3 3 ++ [(0xBA,2,9),(0xBC,2,2),(0xBE,2,1),(5,1,4)])
def w0 : WorkSt := ⟨5, some 0, 0, 1, false, 3⟩
def imgD : Image := { img with sections := img.sections ++ [⟨6,0,0,0,0,0,0,.desc (mkAddr 0 0 0x2000) []⟩] }
def OS (f : CoreSt →
    CoreSt) : State := { B0 with lay := { B0.lay with force := some imgD } }.setCore 0 (fun t => f { t with tile := tl, v := vv, work := some w0, chain := Tbl.setList 0 [] 0 (hdr ++ (List.range 15).map (fun _ => 5)) })
def mem (d : List Byte) (s : State) : State := { s with mem := (List.range 256).foldl (fun m i => Tbl.set 0 m (mkAddr 0 0 0x2000 + i) (d.getD i 0)) ((List.range 2).foldl (fun m i => Tbl.set 0 m (ac + i * 17) (BitVec.ofNat 8 (i * 3 + 1))) s.mem) }
def PZ (s : State) : State := { s with thm := { s.thm with pausing := true } }
def BADS (s : State) : State := { s with bad := [(mkAddr 0 0 0x2000 / 64, 3),(ac / 64,3)] }
def dM : List Byte := mkD (oo 3 3 ++ [(0xBA,2,9),(0xBC,2,2),(0xBE,2,1),(5,1,0x4),(0x60,8,ac),(0x98,8,ac)])
def states : List State := [OS id, (OS (fun t => { t with ops := [o1 dN], epi := [⟨⟨0,0,0,0⟩,0,[[1,2,3],[4]]⟩, ⟨⟨0,0,1,0⟩,0,[]⟩] })),
  (OS (fun t => { t with ops := [o1 P0] })), (OS (fun t => { t with ops := [o1 P1] })), (OS (fun t => { t with ops := [o1 P1] })).setArrived 0 4 true, ((OS (fun t => { t with ops := [o1 P1] })).setArrived 0 4 true).setArrived 0 0 true,
  (OS (fun t => { t with ops := [o1 P0], proDone := [(0,true)] })),
  (OS (fun t => { t with ops := [o1 dN], defer := [⟨⟨0,0,0,0⟩,0,[]⟩] })),
  mem (D 3 3) (OS id), mem dE (OS id), mem dS2 (OS id), (mem dS2 (OS id)).setArrived 0 4 true, mem dS2 (OS (fun t => { t with recs := [(0,none)] })),
  mem dE (OS (fun t => { t with ops := [o1 (Fd 0)] })), mem dE (OS (fun t => { t with ops := [o1 (Fd 0), o1 Fw], fetched := [(0,0),(3,1)] })), (OS (fun t => { t with ops := [o1 dN], finish := some (o1 dN) })), mem dE (OS (fun t => { t with ops := [o1 Fw] })), ((OS id).setArrived 0 4 true).setArrived 0 8 true,
  PZ (mem (D 3 3) (OS id)), PZ (mem dE (OS (fun t => { t with ops := [o1 (Fd 0)] }))), BADS (mem (D 3 3) (OS id)), BADS (mem dE (OS (fun t => { t with ops := [o1 (Fd 0)] }))),
  mem dS2 (OS (fun t => { t with recs := [(0,some ⟨1000,1,1,1,1⟩)] })), mem dS2 (OS (fun t => { t with recs := [(0,some ⟨1,1,1,1,1⟩)] })), mem dS2 (OS (fun t => { t with recs := [(0,some ⟨1,1,0,1,1⟩)] })),
  OS (fun t => { t with finish := some (o1 dM) }), PZ (OS (fun t => { t with finish := some (o1 dM) })), BADS (OS (fun t => { t with finish := some (o1 dM) })), OS (fun t => { t with work := some { w0 with next := some 299 } })]
def cand0 : List (State) := states.drop 18
def wit0 : State := (cand0.drop 8).head (by decide +kernel)
def wit1 : WorkSt := w0
def wit2 : OpSt := o1 dM
end K10u
namespace K11a
def w0 : WorkSt := ⟨5, some 0, 0, 1, false, 3⟩
def cueB (start iter : Nat) (mask : Nat) : List Byte := putB (putB (putB (putB (putB (List.replicate 64 0) 0 2 start) 2 1 iter) 0x10 4 5) 0x14 4 9) 0x20 32 mask
def full2 : Nat := 2^256 - 1
def recB (l : List (Nat × Nat × Nat)) : List Byte := l.foldl (fun d e => putB d e.1 e.2.1 e.2.2) (List.replicate 64 0)
def r0 : List (Nat × Nat × Nat) := [(0,2,1024),(2,2,2 + 2048),(4,2,1024+3),(8,3,2),(0x0C,4,7),(0x20,8,2^63),(0x2A,2,3),(0x2C,2,4),(0x2E,2,1024),(0x30,4,100)]
def R0 : List Byte := recB r0
def Rb : List Byte := recB (r0 ++ [(0x20,8,mkAddr 0 1 0x8000),(0x28,1,1)])
def Rn : List Byte := recB (r0 ++ [(0x2C,2,0x8000)])
def run0 (b : List Byte) : RunSt := ⟨b, .core 0, 1, 0, 1, 20, 1, false, true, [(1024 + 3, 8)], 2, [0, 1, 127], false⟩
def cl : Tbl (Option Claim) := [(0, some ⟨BitVec.ofNat 256 full2, 0, 4095, false⟩), (1, some ⟨3, 0, 10, true⟩)]
def PU (u : Nat) (p : PupSt) (s : State) : State := { s with pups := Tbl.set PupSt.zero s.pups u p }
def hr (s : State) : State := (List.range 16).foldl (fun s i => s.setW (R.PUP_RUN 0 i) (fieldAt R0 (4*i) 4)) s
def B1 : State := B0.setCore 0 (fun t => { t with work := some w0 })
def z0 : PupSt := { PupSt.zero with cues := [(0,[1]),(1,[1]),(2, cueB 10 3 full2),(3,[1])], claims := cl }
def strm2 (p : PupSt) : State := PU 0 p B1
def wit0 : State := (PU 0 z0 B1).setF (R.SLC_STATUS.offline 0) 0
def wit1 : List Byte := R0
def wit2 : Submitter := .core 0
def wit3 : State := hr ((PU 0 z0 B0).setF (R.SLC_STATUS.offline 0) 1)
def wit4 : Master := .cc 0
def wit5 : State := strm2 { z0 with queue := [(R0, .core 0)], lost := true }
def wit6 : List (List Byte × Submitter) := []
def wit7 : State := (let s := strm2 { z0 with queue := [(Rb, .core 0), (Rn, .host)] }; { s with thm := { s.thm with pausing := true } })
def wit8 : List Byte := Rb
def wit9 : List (List Byte × Submitter) := [(Rn, .host)]
def wit10 : State := (let s := strm2 { z0 with queue := [(Rb, .core 0), (Rn, .host)] }; { s with bad := (List.range 64).map (fun i => ((bits (runBcast Rb) 38 0) / 64 + i, 3)) })
def wit11 : State := strm2 { z0 with queue := [(R0, .core 0), (Rn, .host)] }
def wit12 : State := (strm2 { z0 with run := some { run0 R0 with part := 1 } }).setF (R.PUP_STATUS.prog_valid 0) 1
def wit13 : RunSt := { run0 R0 with part := 1 }
def wit14 : State := strm2 { z0 with run := some { run0 R0 with done := true }, cue := some 2, strays := 4, firstStray := some 64 }
def wit15 : RunSt := { run0 R0 with done := true }
def wit16 : State := strm2 { z0 with run := some { run0 R0 with part := 3 } }
def wit17 : RunSt := { run0 R0 with part := 3 }
def wit18 : LandCfg := ⟨4,0x100,0x200,false⟩
def wit19 : State := strm2 { z0 with run := some { run0 Rn with part := 3 } }
def wit20 : RunSt := { run0 Rn with part := 3 }
end K11a
namespace K11b
def cueB (start iter : Nat) (mask : Nat) : List Byte := putB (putB (putB (putB (putB (List.replicate 64 0) 0 2 start) 2 1 iter) 0x10 4 5) 0x14 4 9) 0x20 32 mask
def full2 : Nat := 2^256 - 1
def recB (l : List (Nat × Nat × Nat)) : List Byte := l.foldl (fun d e => putB d e.1 e.2.1 e.2.2) (List.replicate 64 0)
def r0 : List (Nat × Nat × Nat) := [(0,2,1024),(2,2,2 + 2048),(4,2,1024+3),(8,3,2),(0x0C,4,7),(0x20,8,2^63),(0x2A,2,3),(0x2C,2,4),(0x2E,2,1024),(0x30,4,100)]
def R0 : List Byte := recB r0
def run0 (b : List Byte) : RunSt := ⟨b, .core 0, 1, 0, 1, 20, 1, false, true, [(1024 + 3, 8)], 2, [0, 1, 127], false⟩
def pw2 (op : Nat) (f : PupF) : Nat := op * 2^26 + f.d * 2^22 + f.a * 2^18 + (if pupIsColumn op then f.r * 2^15 + (if f.inc then 2^14 else 0) + f.bk * 2^13 + f.fm * 2^11 + f.lane * 2^5 else f.b * 2^14 + (if f.bs then 2^13 else 0) + f.imm * 2^5 + f.fn)
def psT : Tbl Word32 := [(0,0),(1,1),(2,600000),(8,3),(9,4),(127*8,7),(127*8+1,2),(127*8+2,700000)]
def pvT2 : Tbl Word32 := [(pvKey 0 1 0, 0x3F800000), (pvKey 0 1 5, 0xC0000000), (pvKey 0 3 5, 0xC0000000), (pvKey 0 3 63, 0x41000000),
    (pvKey 1 1 7, 0x7FC00000), (pvKey 127 1 60, 0x40490FDB)]
def cl : Tbl (Option Claim) := [(0, some ⟨BitVec.ofNat 256 full2, 0, 4095, false⟩), (1, some ⟨3, 0, 10, true⟩)]
def PS (op : Nat) (f : PupF) (mask iter : Nat) : PupSt := { PupSt.zero with prog := Tbl.setList 0 [] 10 ((List.range 12).map (fun _ => BitVec.ofNat 32 (pw2 op f))), cues := [(2, cueB 10 3 mask)], claims := cl, run := some { run0 R0 with iter := iter }, cue := some 2, pv := pvT2, ps := psT, bcast := [(0,1),(256,3),(300,9)] }
def PU (u : Nat) (p : PupSt) (s : State) : State := { s with pups := Tbl.set PupSt.zero s.pups u p }
def fV : List PupF := [⟨3,1,0,false,0,0,0,1,false,0,0⟩, ⟨1,3,0,false,0,0,0,1,true,33,1⟩, ⟨9,1,0,false,0,0,0,3,false,200,2⟩,
    ⟨1,0,0,false,0,0,0,0,true,15,5⟩,⟨15,1,0,false,0,0,0,1,true,7,10⟩]
def caseL : List (Nat × PupF × Nat × Nat) := [0,8,9,0xA,0xB,0xC,0xD,0xE,0xF,0x10,0x11,0x12,0x13,0x14,0x15].flatMap (fun op => fV.flatMap (fun f => [(op, f, 2^3+1+2^255, 0),
    (op,f,2,2)]))
def cand0 : List (State) := caseL.map (fun c => PU 0 (PS c.1 c.2.1 c.2.2.1 c.2.2.2) B0)
def wit0 : State := (cand0.drop 0).head (by decide +kernel)
def cand1 : List (PNext) := caseL.map (fun c => ⟨{ run0 R0 with iter := c.2.2.2 }, cueB 10 3 c.2.2.1, c.1, c.2.1⟩)
def wit1 : PNext := (cand1.drop 0).head (by decide +kernel)
def wit2 : PupF := (fV.drop 0).head (by decide +kernel)
def wit3 : State := (cand0.drop 60).head (by decide +kernel)
def wit4 : PNext := (cand1.drop 60).head (by decide +kernel)
def wit5 : State := (cand0.drop 80).head (by decide +kernel)
def wit6 : PNext := (cand1.drop 80).head (by decide +kernel)
def wit7 : State := (cand0.drop 72).head (by decide +kernel)
def wit8 : PupF := (fV.drop 1).head (by decide +kernel)
def wit9 : PNext := (cand1.drop 72).head (by decide +kernel)
def wit10 : State := (cand0.drop 120).head (by decide +kernel)
def wit11 : PNext := (cand1.drop 120).head (by decide +kernel)
def wit12 : State := (cand0.drop 130).head (by decide +kernel)
def wit13 : PNext := (cand1.drop 130).head (by decide +kernel)
def wit14 : State := (cand0.drop 140).head (by decide +kernel)
def wit15 : PNext := (cand1.drop 140).head (by decide +kernel)
end K11b
namespace K11c2
def ac : Nat := mkAddr 0 0 0x10000
def mem (d : List Byte) (s : State) : State := { s with mem := (List.range 256).foldl (fun m i => Tbl.set 0 m (mkAddr 0 0 0x2000 + i) (d.getD i 0)) ((List.range 300).foldl (fun m i => Tbl.set 0 m (ac + i * 17) (BitVec.ofNat 8 (i * 3 + 1))) s.mem) }
def cueB (start iter : Nat) (mask : Nat) : List Byte := putB (putB (putB (putB (putB (List.replicate 64 0) 0 2 start) 2 1 iter) 0x10 4 5) 0x14 4 9) 0x20 32 mask
def full2 : Nat := 2^256 - 1
def recB (l : List (Nat × Nat × Nat)) : List Byte := l.foldl (fun d e => putB d e.1 e.2.1 e.2.2) (List.replicate 64 0)
def r0 : List (Nat × Nat × Nat) := [(0,2,1024),(2,2,2 + 2048),(4,2,1024+3),(8,3,2),(0x0C,4,7),(0x20,8,2^63),(0x2A,2,3),(0x2C,2,4),(0x2E,2,1024),(0x30,4,100)]
def R0 : List Byte := recB r0
def run0 (b : List Byte) : RunSt := ⟨b, .core 0, 1, 0, 1, 20, 1, false, true, [(1024 + 3, 8)], 2, [0, 1, 127], false⟩
def pw2 (op : Nat) (f : PupF) : Nat := op * 2^26 + f.d * 2^22 + f.a * 2^18 + (if pupIsColumn op then f.r * 2^15 + (if f.inc then 2^14 else 0) + f.bk * 2^13 + f.fm * 2^11 + f.lane * 2^5 else f.b * 2^14 + (if f.bs then 2^13 else 0) + f.imm * 2^5 + f.fn)
def psT : Tbl Word32 := [(0,0),(1,1),(2,600000),(8,3),(9,4),(10,600001),(127*8,7),(127*8+1,2),(127*8+2,700000)]
def pvT2 : Tbl Word32 := [(pvKey 0 1 0, 0x3F800000), (pvKey 0 1 5, 0xC0000000), (pvKey 0 3 5, 0xC0000000), (pvKey 0 3 63, 0x41000000),
    (pvKey 1 1 7, 0x7FC00000), (pvKey 127 1 60, 0x40490FDB)]
def cl : Tbl (Option Claim) := [(0, some ⟨BitVec.ofNat 256 full2, 0, 4095, false⟩), (1, some ⟨3, 0, 10, true⟩)]
def PS (op : Nat) (f : PupF) (mask iter : Nat) : PupSt := { PupSt.zero with prog := Tbl.setList 0 [] 10 ((List.range 12).map (fun _ => BitVec.ofNat 32 (pw2 op f))), cues := [(2, cueB 10 3 mask)], claims := cl, run := some { run0 R0 with iter := iter }, cue := some 2, pv := pvT2, ps := psT, bcast := [(0,1),(256,3),(300,9)] }
def PU (u : Nat) (p : PupSt) (s : State) : State := { s with pups := Tbl.set PupSt.zero s.pups u p }
def mem2 (s : State) : State := { s with mem := (List.range 400).foldl (fun m i => Tbl.set 0 m (s.bankAddr 0 (i % 256) 0 + i / 256 * 7 + (i * 13 % 64)) (BitVec.ofNat 8 (i * 3 + 0x30))) s.mem }
def fC : List PupF := [⟨3,1,0,true,0,2,1,0,false,0,0⟩, ⟨1,3,0,true,1,3,33,0,false,0,0⟩, ⟨1,1,1,false,0,0,5,0,false,0,0⟩,
    ⟨3,1,2,true,0,1,63,0,false,0,0⟩]
def caseL : List (Nat × PupF × Nat × Nat) := [1,2,3,4,5,6,7].flatMap (fun op => (fC.take 2).flatMap (fun f => [(op, f, 2^3+1+2^255, 0),(op,f,1,1)]))
def cand0 : List (State) := caseL.map (fun c => mem2 (PU 0 (PS c.1 c.2.1 c.2.2.1 c.2.2.2) B0))
def wit0 : State := (cand0.drop 8).head (by decide +kernel)
def cand1 : List (PNext) := caseL.map (fun c => ⟨{ run0 R0 with iter := c.2.2.2 }, cueB 10 3 c.2.2.1, c.1, c.2.1⟩)
def wit1 : PNext := (cand1.drop 8).head (by decide +kernel)
def wit2 : PupF := (fC.drop 0).head (by decide +kernel)
def wit3 : State := (cand0.drop 20).head (by decide +kernel)
def wit4 : PNext := (cand1.drop 20).head (by decide +kernel)
def wit5 : State := (cand0.drop 5).head (by decide +kernel)
def wit6 : PNext := (cand1.drop 5).head (by decide +kernel)
def wit7 : State := (cand0.drop 25).head (by decide +kernel)
def wit8 : PNext := (cand1.drop 25).head (by decide +kernel)
end K11c2
namespace K13a
def tl : Tbl Byte := (List.range 600).foldl (fun m i => Tbl.set 0 m (0x8000 + i * 13) (BitVec.ofNat 8 (i * 7 + 1))) ((List.range 300).foldl (fun m i => Tbl.set 0 m (0x1000 + i * 11) (BitVec.ofNat 8 (i * 5 + 1))) ((List.range 60).foldl (fun m i => Tbl.set 0 m (0x20000 + i * 3) (BitVec.ofNat 8 (i * 5 + 1))) []))
def vv : Tbl Vec := [(0,[1,2,3]),(8, (List.range 512).map (fun l => BitVec.ofNat 32 (0x3F800000 + l * 0x12345 - (l%7) * 0x8000000))),
    (9,(List.range 300).map (fun l => BitVec.ofNat 32 (0x40000000 + l * 0x52345))), (10,
    [0x7FC00001#32, 0x7F800000#32, 0xFF800000#32, 0x80000000#32]), (11, (List.range 512).map (fun l => BitVec.ofNat 32 (l * 3))), (13, [5,6,7,8,9])]
def pp : Tbl (BitVec 512) := [(2, 0x5), (3, BitVec.ofNat 512 (2^500 + 0xF0F0F3)), (4, 0xFFFF), (5, 0x3)]
def ss : Tbl Word32 := [(3, 0x1010#32), (4, 0x40#32), (5, 0x5000#32), (6, 0x40000000#32), (7, 3), (8,0x100#32)]
def hdr : List Word64 := [BitVec.ofNat 64 (5 + 5 * 1024 + 5 * 2^20 + 1 * 2^31 + 1 * 2^33), BitVec.ofNat 64 (8 + 2 * 4096 + 3 * 2^20 + 5*2^25 + 15 * 2^16 + 32 * 2^6)]
def st (op : Nat) (f : VecF) (c : Ctx) (u : Nat) : State := B0.setCore u (fun t => { t with tile := tl, ops := [o1 (D 3 3)], v := vv, p := pp, s := ss, rr := [(1,[9,8]),(0,[4])], rrFull := [(1,true)], sends := [(2,[7,7])], stats := [(statKey 0 0 0, 7),(statKey 0 5 1, 9),(statKey 2 1 1, 0x3F800000)], chain := Tbl.setList 0 [] 0 (hdr ++ (List.range 15).map (fun _ => BitVec.ofNat 64 (vecWord op f))), ctx := if c.kind = 1 then none else some c, pctx := if c.kind = 1 then some c else none })
def imgD : Image := { img with sections := img.sections ++ [⟨6,0,0,0,0,0,0,.desc (mkAddr 0 0 0x2000) []⟩] }
def grp (m : Nat) : GroupSec := ⟨7,m,0,10,50,0,99,[]⟩
def sl1 : SlotEnt := ⟨5,3,0xF0,0,0,4,1,8,0x1000,1,0,0⟩
def sl2 : SlotEnt := ⟨5,3,2,0,9,4,1,5000,0x1000,1,0,0⟩
def sl3 : SlotEnt := ⟨5,3,2,1,9,4,1,5000,0x1000,1,0,0⟩
def imgE (m : Nat) : Image := { imgD with sections := imgD.sections ++ [⟨1,0xFFFF,0xFF,0xFF,0,0,0,.acts 2 [⟨0,2,5,0⟩,⟨1,1,5,0⟩]⟩, ⟨2,0xFFFF,0xFF,0xFF,0,0,0,.group (grp m)⟩, ⟨3,0,0xFF,0xFF,0,0,0,.slots [sl1,sl2,sl3]⟩] }
def E (m st : Nat) (f : LaySt →
    LaySt) : State := let s := (base.setF R.LAY_STATUS.state st); { s with ftime := 64 * 20000, lay := f { s.lay with force := some (imgE m), start := 19000, left := 2 } }
def je0 : JEntry := ⟨4, 3, 0, [], 1, 0,0,0,0,0⟩
def ld (st : Nat) : State := base.setF R.LAY_STATUS.state st
def withSrc (s : State) (n : Nat) : State := (s.setF R.LAY_SRC_LO.address 128).setF R.LAY_LEN.units n
def bI : List Byte := putB (putB (putB (putB (List.replicate 1024 0) 0 8 layMagic) 8 2 1) 10 1 3) 16 8 1024
def wit0 : State := withSrc (ld 0) 16
def wit1 : State := { withSrc (ld 0) 16 with journal := [je0] }
def wit2 : State := withSrc (ld 0) 15
def wit3 : State := withSrc { ld 1 with lay := { LaySt.zero with before := 5 } } 16
def wit4 : ImageIn := ⟨true, bI, []⟩
def wit5 : State := E 1 3 (fun l => { l with staged := some (imgE 1) })
def wit6 : Image := imgE 1
def wit7 : State := let s := E 1 3 (fun l => { l with staged := some (imgE 1) }); { s with thm := { s.thm with pausing := true } }
def wit8 : State := (E 2 4 (fun l => { l with start := 0 })).setPair R.LAY_START_LO 20016
end K13a
namespace K13
def tl : Tbl Byte := (List.range 600).foldl (fun m i => Tbl.set 0 m (0x8000 + i * 13) (BitVec.ofNat 8 (i * 7 + 1))) ((List.range 300).foldl (fun m i => Tbl.set 0 m (0x1000 + i * 11) (BitVec.ofNat 8 (i * 5 + 1))) ((List.range 60).foldl (fun m i => Tbl.set 0 m (0x20000 + i * 3) (BitVec.ofNat 8 (i * 5 + 1))) []))
def vv : Tbl Vec := [(0,[1,2,3]),(8, (List.range 512).map (fun l => BitVec.ofNat 32 (0x3F800000 + l * 0x12345 - (l%7) * 0x8000000))),
    (9,(List.range 300).map (fun l => BitVec.ofNat 32 (0x40000000 + l * 0x52345))), (10,
    [0x7FC00001#32, 0x7F800000#32, 0xFF800000#32, 0x80000000#32]), (11, (List.range 512).map (fun l => BitVec.ofNat 32 (l * 3))), (13, [5,6,7,8,9])]
def pp : Tbl (BitVec 512) := [(2, 0x5), (3, BitVec.ofNat 512 (2^500 + 0xF0F0F3)), (4, 0xFFFF), (5, 0x3)]
def ss : Tbl Word32 := [(3, 0x1010#32), (4, 0x40#32), (5, 0x5000#32), (6, 0x40000000#32), (7, 3), (8,0x100#32)]
def hdr : List Word64 := [BitVec.ofNat 64 (5 + 5 * 1024 + 5 * 2^20 + 1 * 2^31 + 1 * 2^33), BitVec.ofNat 64 (8 + 2 * 4096 + 3 * 2^20 + 5*2^25 + 15 * 2^16 + 32 * 2^6)]
def st (op : Nat) (f : VecF) (c : Ctx) (u : Nat) : State := B0.setCore u (fun t => { t with tile := tl, ops := [o1 (D 3 3)], v := vv, p := pp, s := ss, rr := [(1,[9,8]),(0,[4])], rrFull := [(1,true)], sends := [(2,[7,7])], stats := [(statKey 0 0 0, 7),(statKey 0 5 1, 9),(statKey 2 1 1, 0x3F800000)], chain := Tbl.setList 0 [] 0 (hdr ++ (List.range 15).map (fun _ => BitVec.ofNat 64 (vecWord op f))), ctx := if c.kind = 1 then none else some c, pctx := if c.kind = 1 then some c else none })
def imgD : Image := { img with sections := img.sections ++ [⟨6,0,0,0,0,0,0,.desc (mkAddr 0 0 0x2000) []⟩] }
def grp (m : Nat) : GroupSec := ⟨7,m,0,10,50,0,99,[]⟩
def sl1 : SlotEnt := ⟨5,3,0xF0,0,0,4,1,8,0x1000,1,0,0⟩
def sl2 : SlotEnt := ⟨5,3,2,0,9,4,1,5000,0x1000,1,0,0⟩
def sl3 : SlotEnt := ⟨5,3,2,1,9,4,1,5000,0x1000,1,0,0⟩
def imgE (m : Nat) : Image := { imgD with sections := imgD.sections ++ [⟨1,0xFFFF,0xFF,0xFF,0,0,0,.acts 2 [⟨0,2,5,0⟩,⟨1,1,5,0⟩]⟩, ⟨2,0xFFFF,0xFF,0xFF,0,0,0,.group (grp m)⟩, ⟨3,0,0xFF,0xFF,0,0,0,.slots [sl1,sl2,sl3]⟩] }
def E (m st : Nat) (f : LaySt →
    LaySt) : State := let s := (base.setF R.LAY_STATUS.state st); { s with ftime := 64 * 30000, lay := f { s.lay with force := some (imgE m), start := 19000, left := 2 } }
def ep (m : Nat) (f : LaySt → LaySt) : State := E m 5 (fun l => f { l with began := true })
def rec1 : CloseRec := ⟨0, 0, 19500, 99, 7⟩
def clo : LaySt → LaySt := fun l => { l with closed := true, closes := [rec1] }
def slM : SlotEnt := ⟨5,3,0xF0,0,0,4,1,8,0x1000,0,0,0⟩
def imgM : Image := { imgD with sections := imgD.sections ++ [⟨1,0xFFFF,0xFF,0xFF,0,0,0,.acts 2 [⟨0,2,5,0⟩,⟨1,1,5,0⟩]⟩, ⟨2,0xFFFF,0xFF,0xFF,0,0,0,.group (grp 1)⟩, ⟨3,0,0xFF,0xFF,0,0,0,.slots [slM]⟩] }
def wit0 : State := E 1 4 id
def wit1 : State := ep 1 id
def wit2 : SlotEnt := sl1
def wit3 : State := { (ep 1 id) with lay := { (ep 1 id).lay with force := some (imgM) }, thm := { (ep 1 id).thm with pausing := true } }
def wit4 : SlotEnt := slM
def wit5 : State := ep 1 (fun l => { l with slotSt := [(0,1),(1,1)] })
def wit6 : State := { (ep 1 id) with lay := { (ep 1 id).lay with force := some (imgM), slotSt := [(0,1)] }, thm := { (ep 1 id).thm with pausing := true } }
def wit7 : State := ep 1 (fun l => { l with slotSt := [(0,2),(1,2),(2,1)] })
def wit8 : State := ep 1 clo
def wit9 : State := ep 1 (fun l => clo { l with stopDue := true })
def wit10 : State := ep 1 (fun l => { l with switchDue := true })
end K13
namespace K14a
def tl : Tbl Byte := (List.range 600).foldl (fun m i => Tbl.set 0 m (0x8000 + i * 13) (BitVec.ofNat 8 (i * 7 + 1))) ((List.range 300).foldl (fun m i => Tbl.set 0 m (0x1000 + i * 11) (BitVec.ofNat 8 (i * 5 + 1))) ((List.range 60).foldl (fun m i => Tbl.set 0 m (0x20000 + i * 3) (BitVec.ofNat 8 (i * 5 + 1))) []))
def vv : Tbl Vec := [(0,[1,2,3]),(8, (List.range 512).map (fun l => BitVec.ofNat 32 (0x3F800000 + l * 0x12345 - (l%7) * 0x8000000))),
    (9,(List.range 300).map (fun l => BitVec.ofNat 32 (0x40000000 + l * 0x52345))), (10,
    [0x7FC00001#32, 0x7F800000#32, 0xFF800000#32, 0x80000000#32]), (11, (List.range 512).map (fun l => BitVec.ofNat 32 (l * 3))), (13, [5,6,7,8,9])]
def pp : Tbl (BitVec 512) := [(2, 0x5), (3, BitVec.ofNat 512 (2^500 + 0xF0F0F3)), (4, 0xFFFF), (5, 0x3)]
def ss : Tbl Word32 := [(3, 0x1010#32), (4, 0x40#32), (5, 0x5000#32), (6, 0x40000000#32), (7, 3), (8,0x100#32)]
def hdr : List Word64 := [BitVec.ofNat 64 (5 + 5 * 1024 + 5 * 2^20 + 1 * 2^31 + 1 * 2^33), BitVec.ofNat 64 (8 + 2 * 4096 + 3 * 2^20 + 5*2^25 + 15 * 2^16 + 32 * 2^6)]
def st (op : Nat) (f : VecF) (c : Ctx) (u : Nat) : State := B0.setCore u (fun t => { t with tile := tl, ops := [o1 (D 3 3)], v := vv, p := pp, s := ss, rr := [(1,[9,8]),(0,[4])], rrFull := [(1,true)], sends := [(2,[7,7])], stats := [(statKey 0 0 0, 7),(statKey 0 5 1, 9),(statKey 2 1 1, 0x3F800000)], chain := Tbl.setList 0 [] 0 (hdr ++ (List.range 15).map (fun _ => BitVec.ofNat 64 (vecWord op f))), ctx := if c.kind = 1 then none else some c, pctx := if c.kind = 1 then some c else none })
def imgD : Image := { img with sections := img.sections ++ [⟨6,0,0,0,0,0,0,.desc (mkAddr 0 0 0x2000) []⟩] }
def grp (m : Nat) : GroupSec := ⟨7,m,0,10,50,0,99,[]⟩
def sl1 : SlotEnt := ⟨5,3,0xF0,0,0,4,1,8,0x1000,1,0,0⟩
def sl2 : SlotEnt := ⟨5,3,2,0,9,4,1,5000,0x1000,1,0,0⟩
def sl3 : SlotEnt := ⟨5,3,2,1,9,4,1,5000,0x1000,1,0,0⟩
def imgE (m : Nat) : Image := { imgD with sections := imgD.sections ++ [⟨1,0xFFFF,0xFF,0xFF,0,0,0,.acts 2 [⟨0,2,5,0⟩,⟨1,1,5,0⟩]⟩, ⟨2,0xFFFF,0xFF,0xFF,0,0,0,.group (grp m)⟩, ⟨3,0,0xFF,0xFF,0,0,0,.slots [sl1,sl2,sl3]⟩] }
def E (m st : Nat) (f : LaySt →
    LaySt) : State := let s := (base.setF R.LAY_STATUS.state st); { s with ftime := 64 * 20000, lay := f { s.lay with force := some (imgE m), start := 19000, left := 2 } }
def fh (op : Nat) (g : FlitHdr → FlitHdr) (pl : List Byte) : Flit := ⟨op, g ⟨0,4095,false,true,(opVc op).getD 0,9,33,0,0,4 + 2^17 + 2^18⟩, pl⟩
def up (s : State) : State := ((((s.setF (R.PZL_P_STATUS.state 2) 2).setF (R.PZL_P_STATUS.state 5) 2).setF R.PZL_ID.device_id 9).setF R.PZL_ID.assigned 1)
def rqp (a n k at_ : Nat) : List Byte := leBytes 8 a ++ leBytes 4 n ++ leBytes 1 k ++ leBytes 1 at_ ++ leBytes 2 0
def am : Nat := mkAddr 1 0 0x3000
def as_ : Nat := mkAddr 1 8 0x3000
def U0 : State := up (lay base)
def Uc : State := U0.request ⟨.master 3, 3, false, as_, 64, none, [], none⟩
def Ul (st : Nat) : State := let s := up (E 2 st (fun l => { l with began := true })); { s with fab := { s.fab with lastTime := [(2,1)], errors := [7,8,9] } }
def flits : List Flit := [fh 0 (fun h => { h with seqd := false }) [], fh 0 (fun h => { h with seqd := false, ack := 1 }) [], fh 0 (fun h => { h with seqd := false, ack := 0, crVc := 1, crTotal := 0 }) [],
  fh 1 id [1,2,3,4], fh 1 (fun h => { h with opField := 4 + 2^17 }) [1,2,3], fh 1 (fun h => { h with opField := 8 + 2^17 + 2^18 + 2^12 }) [9],
  fh 2 id (rqp am 100 0 0), fh 2 (fun h => { h with src := 37 }) (rqp am 64 0 0), fh 3 id (rqp (am+3) 5 0 0 ++ [7,7,7,7,7,7]), fh 4 id (rqp as_ 4 0 0 ++ leBytes 4 5), fh 4 id (rqp as_ 8 0 0x19 ++ leBytes 8 5 ++ leBytes 8 0),
  fh 5 id [1,2], fh 5 (fun h => { h with opField := 4 + 2^18 + 2^12 }) [], fh 6 id [], fh 5 (fun h => { h with opField := 40 + 2^18 }) [],
  fh 7 id (leBytes 4 7 ++ leBytes 4 0 ++ leBytes 8 0 ++ leBytes 8 555 ++ leBytes 8 99), fh 8 id (leBytes 8 1920500), fh 8 id (leBytes 8 1920010), fh 8 id (leBytes 8 1910010), fh 9 id ([1] ++ leBytes 2 9), fh 9 id ([1] ++ leBytes 2 77), fh 9 id ([2] ++ leBytes 2 700),
  fh 9 id ([3] ++ leBytes 2 64 ++ leBytes 2 2048 ++ leBytes 1 16), fh 2 (fun h => { h with dest := 4 }) (rqp am 100 0 0), fh 2 (fun h => { h with vc := 3 }) (rqp am 100 0 0), fh 9 id [4,4], fh 5 (fun h => { h with opField := 4 + 2^17 }) [8], fh 9 id ([3] ++ leBytes 2 60 ++ leBytes 2 2048 ++ leBytes 1 16), fh 7 id (leBytes 4 7 ++ leBytes 4 0 ++ leBytes 8 0 ++ leBytes 8 555 ++ leBytes 8 98), fh 8 (fun h => {h with seq := 3}) []]
def fab (s : State) : State := { s with fab := { s.fab with reqs := [⟨4, 3, 3, [5], 2000000⟩, ⟨9, 2, 0xFF, [], 2000000⟩,⟨5, 2, 0x1A, [], 2000000⟩,⟨6, 2, 0x1A, [], 3000000⟩] } }
def wit0 : State := U0
def wit1 : Flit := (flits.drop 0).head (by decide +kernel)
def wit2 : Flit := (flits.drop 3).head (by decide +kernel)
def wit3 : Flit := (flits.drop 29).head (by decide +kernel)
def wit4 : Flit := (flits.drop 19).head (by decide +kernel)
def wit5 : State := U0.setPort 2 (fun t => { t with rxBad := [0] })
def wit6 : LandCfg := ⟨4,0x100,0x200,false⟩
def wit7 : Flit := (flits.drop 6).head (by decide +kernel)
def wit8 : Flit := (flits.drop 8).head (by decide +kernel)
def wit9 : State := Uc
def wit10 : Flit := (flits.drop 9).head (by decide +kernel)
def wit11 : State := fab U0
def wit12 : Flit := (flits.drop 11).head (by decide +kernel)
def wit13 : OutReq := ⟨4, 3, 3, [5], 2000000⟩
def wit14 : Flit := (flits.drop 26).head (by decide +kernel)
def wit15 : State := Ul 4
def wit16 : Flit := (flits.drop 15).head (by decide +kernel)
def wit17 : State := (let s := Ul 5; { s with lay := { s.lay with closes := [⟨s.group.ids.findIdx (· == 33), 0, 555, 99, 7⟩] } })
def wit18 : Flit := (flits.drop 28).head (by decide +kernel)
def wit19 : Flit := (flits.drop 16).head (by decide +kernel)
def wit20 : State := (let s := (Ul 5).setF (R.PZL_P_STATUS.state 0) 2; { s with fab := { s.fab with lastTime := [(0,3000000)] } })
def wit21 : State := U0.setF R.PZL_ID.assigned 0
def wit22 : Flit := (flits.drop 20).head (by decide +kernel)
def wit23 : Flit := (flits.drop 21).head (by decide +kernel)
def wit24 : Flit := (flits.drop 22).head (by decide +kernel)
def wit25 : Flit := (flits.drop 27).head (by decide +kernel)
end K14a
namespace K14
def tl : Tbl Byte := (List.range 600).foldl (fun m i => Tbl.set 0 m (0x8000 + i * 13) (BitVec.ofNat 8 (i * 7 + 1))) ((List.range 300).foldl (fun m i => Tbl.set 0 m (0x1000 + i * 11) (BitVec.ofNat 8 (i * 5 + 1))) ((List.range 60).foldl (fun m i => Tbl.set 0 m (0x20000 + i * 3) (BitVec.ofNat 8 (i * 5 + 1))) []))
def vv : Tbl Vec := [(0,[1,2,3]),(8, (List.range 512).map (fun l => BitVec.ofNat 32 (0x3F800000 + l * 0x12345 - (l%7) * 0x8000000))),
    (9,(List.range 300).map (fun l => BitVec.ofNat 32 (0x40000000 + l * 0x52345))), (10,
    [0x7FC00001#32, 0x7F800000#32, 0xFF800000#32, 0x80000000#32]), (11, (List.range 512).map (fun l => BitVec.ofNat 32 (l * 3))), (13, [5,6,7,8,9])]
def pp : Tbl (BitVec 512) := [(2, 0x5), (3, BitVec.ofNat 512 (2^500 + 0xF0F0F3)), (4, 0xFFFF), (5, 0x3)]
def ss : Tbl Word32 := [(3, 0x1010#32), (4, 0x40#32), (5, 0x5000#32), (6, 0x40000000#32), (7, 3), (8,0x100#32)]
def hdr : List Word64 := [BitVec.ofNat 64 (5 + 5 * 1024 + 5 * 2^20 + 1 * 2^31 + 1 * 2^33), BitVec.ofNat 64 (8 + 2 * 4096 + 3 * 2^20 + 5*2^25 + 15 * 2^16 + 32 * 2^6)]
def st (op : Nat) (f : VecF) (c : Ctx) (u : Nat) : State := B0.setCore u (fun t => { t with tile := tl, ops := [o1 (D 3 3)], v := vv, p := pp, s := ss, rr := [(1,[9,8]),(0,[4])], rrFull := [(1,true)], sends := [(2,[7,7])], stats := [(statKey 0 0 0, 7),(statKey 0 5 1, 9),(statKey 2 1 1, 0x3F800000)], chain := Tbl.setList 0 [] 0 (hdr ++ (List.range 15).map (fun _ => BitVec.ofNat 64 (vecWord op f))), ctx := if c.kind = 1 then none else some c, pctx := if c.kind = 1 then some c else none })
def imgD : Image := { img with sections := img.sections ++ [⟨6,0,0,0,0,0,0,.desc (mkAddr 0 0 0x2000) []⟩] }
def grp (m : Nat) : GroupSec := ⟨7,m,0,10,50,0,99,[]⟩
def sl1 : SlotEnt := ⟨5,3,0xF0,0,0,4,1,8,0x1000,1,0,0⟩
def sl2 : SlotEnt := ⟨5,3,2,0,9,4,1,5000,0x1000,1,0,0⟩
def sl3 : SlotEnt := ⟨5,3,2,1,9,4,1,5000,0x1000,1,0,0⟩
def imgE (m : Nat) : Image := { imgD with sections := imgD.sections ++ [⟨1,0xFFFF,0xFF,0xFF,0,0,0,.acts 2 [⟨0,2,5,0⟩,⟨1,1,5,0⟩]⟩, ⟨2,0xFFFF,0xFF,0xFF,0,0,0,.group (grp m)⟩, ⟨3,0,0xFF,0xFF,0,0,0,.slots [sl1,sl2,sl3]⟩] }
def E (m st : Nat) (f : LaySt →
    LaySt) : State := let s := (base.setF R.LAY_STATUS.state st); { s with ftime := 64 * 20000, lay := f { s.lay with force := some (imgE m), start := 19000, left := 2 } }
def fh (op : Nat) (g : FlitHdr → FlitHdr) (pl : List Byte) : Flit := ⟨op, g ⟨0,4095,false,true,(opVc op).getD 0,9,33,0,0,4 + 2^17 + 2^18⟩, pl⟩
def up (s : State) : State := ((((s.setF (R.PZL_P_STATUS.state 2) 2).setF (R.PZL_P_STATUS.state 5) 2).setF R.PZL_ID.device_id 9).setF R.PZL_ID.assigned 1)
def rqp (a n k at_ : Nat) : List Byte := leBytes 8 a ++ leBytes 4 n ++ leBytes 1 k ++ leBytes 1 at_ ++ leBytes 2 0
def am : Nat := mkAddr 1 0 0x3000
def U0 : State := up (lay base)
def Ul (st : Nat) : State := let s := up (E 2 st (fun l => { l with began := true })); { s with fab := { s.fab with lastTime := [(2,1)], errors := [7,8,9] } }
def fab (s : State) : State := { s with fab := { s.fab with reqs := [⟨4, 3, 3, [5], 2000000⟩, ⟨9, 2, 0xFF, [], 2000000⟩,⟨5, 2, 0x1A, [], 2000000⟩,⟨6, 2, 0x1A, [], 3000000⟩] } }
def pq (s : State) (f : PortSt → PortSt) : State := s.setPort 2 f
def sts : List State := [U0, pq U0 (fun t => { t with resend := [fh 2 id [], fh 3 id []], rxLast := 7, freed := [(1,5)], nak := true }), pq U0 (fun t => { t with queue := [(0,[fh 1 id [4], fh 1 id []]),(2,[fh 5 id [3]])], crInit := [(2,4)], txNext := 4095, replay := [fh 1 id []] }),
  pq U0 (fun t => { t with queue := [(2,[fh 5 id [3]])], crInit := [(2,4)], sent := [(2,3)] }), pq U0 (fun t => { t with queue := [(3,[fh 9 id [3]])] }), pq U0 (fun t => { t with replay := [fh 1 id []], replays := 7, progressAt := 2000000 }), pq U0 (fun t => { t with replay := [fh 1 id []], replays := 8, progressAt := 2000000 }), fab U0, Ul 5, U0.setF (R.PZL_P_STATUS.state 2) 1,
  ((pq (U0.setF (R.PZL_P_STATUS.state 2) 3) (fun t => { t with retrainFails := 2, queue := [(3,[fh 7 id []])] })), pq (U0.setF (R.PZL_P_LANE_THRESH.thresh 2) 5) (fun t => { t with windows := [(3,2)] })).1, pq (U0.setF (R.PZL_P_LANE_THRESH.thresh 2) 5) (fun t => { t with windows := [(3,2)] }), U0.setF (R.PZL_P_STATUS.state 2) 0, U0.setF (R.PZL_P_STATUS.local_good 2) 0x33]
def pr (f : PortSt → PortSt) : PortSt → PortSt := fun t => f { t with txPair := [fh 1 id [1],fh 1 id [2],fh 1 id [3],fh 0 id []] }
def sentF : List Flit := sts.flatMap (fun s => match execFlitSend 2 s with | .next t => t.out.filterMap (fun e => match e with | .flit _ f => some f | _ => none) | _ => [])
def extra : List Flit := [fh 2 (fun h => { h with dest := 4 }) (rqp am 100 0 0), fh 9 id [4,4], fh 2 id [], fh 1 id [4], fh 5 id [3], fh 9 id [3]]
def cand0 : List (State) := sts ++ [pq U0 (pr (fun t => { t with resend := [fh 2 id [], fh 3 id []] })), pq U0 (pr id), pq U0 (pr (fun t => { t with queue := [(0,[fh 1 id [4], fh 1 id []])] })),
    (pq U0 id).setF (R.PZL_P_STATUS.state 2) 1, (pq U0 (fun t => { t with loopback := true })).setF (R.PZL_P_STATUS.state 2) 1,
    (pq (U0.setF (R.PZL_P_STATUS.local_good 2) 255) id).setF (R.PZL_P_STATUS.state 2) 1,
    (pq (U0.setF (R.PZL_P_STATUS.local_good 2) 255) (fun t => { t with replay := [fh 3 id []] })).setF (R.PZL_P_STATUS.state 2) 3,
    ((U0.setF (R.PZL_P_STATUS.local_good 2) 255).setF (R.PZL_P_CTRL.enable 2) 1).setF (R.PZL_P_STATUS.state 2) 0,
    ((U0.setF (R.PZL_P_STATUS.local_good 2) 255).setF (R.PZL_P_STATUS.licensed 2) 1), { Ul 5 with now := 3000000, fab := { (Ul 5).fab with lastTime := [(2,1)] } }.setF R.PZL_TIME.locked 1]
def wit0 : State := (cand0.drop 0).head (by decide +kernel)
def cand1 : List (Flit) := extra ++ sentF
def wit1 : Flit := (cand1.drop 0).head (by decide +kernel)
def wit2 : State := (cand0.drop 1).head (by decide +kernel)
def wit3 : Flit := (cand1.drop 2).head (by decide +kernel)
def wit4 : List Flit := [fh 3 id []]
def wit5 : State := (cand0.drop 2).head (by decide +kernel)
def wit6 : Flit := (cand1.drop 3).head (by decide +kernel)
def wit7 : List Flit := [fh 1 id []]
def wit8 : State := (cand0.drop 6).head (by decide +kernel)
def wit9 : List Byte := []
def wit10 : State := (cand0.drop 7).head (by decide +kernel)
def wit11 : OutReq := ⟨4, 3, 3, [5], 2000000⟩
def wit12 : OutReq := ⟨6, 2, 0x1A, [], 3000000⟩
def wit13 : State := (cand0.drop 8).head (by decide +kernel)
def cand2 : List (Nat × Nat) := [(0,0),(0,1),(1,0),(1,1),(2,0),(2,1),(0,2),(1,2),(2,2)] ++ (List.range 256).filterMap trainedWidth
def wit14 : Nat × Nat := (cand2.drop 171).head (by decide +kernel)
def wit15 : State := (cand0.drop 20).head (by decide +kernel)
end K14
namespace K15
def s0 : State := { State.reset with boot := { State.reset.boot with upChests := 15 }, now := 5000000000 }
def dat : List Byte := (List.range 40).map (BitVec.ofNat 8)
-- home src srcPort chest dst port vc cls level master request tag crossed data beats
def pkt : MeshPkt := ⟨1, 0, .core, 1, 8, .core, 1, 0, 2, 9, true, 3, 0, dat, [0]⟩
def pktB : MeshPkt := { pkt with data := List.replicate 3000 1, beats := [0, 1, 0] }
def pktU : MeshPkt := { pktB with beats := [1, 2, 0] }
def pktX : MeshPkt := { pkt with chest := 0 }   -- goes over edge from chest 1
def pktY : MeshPkt := { pktX with crossed := 1, home := 2, chest := 1 }
def pktD : MeshPkt := { pkt with beats := [1, 1] }  -- does not fit
def sM4r : State := { s0.setMesh 1 9 [⟨meshClean pktY, 1, 0, 3⟩] with rst := { s0.rst with running := [⟨2, 1, 0, false, 3⟩] } }
def upS (s : State) (k : Nat) : State := (s.setF (R.LNK_S_WIDTH.width k) 0x5).setF (R.LNK_S_STATUS.state k) 0
def sE0 : State := upS (upS s0 0) (peerSide 0)
def ring : MeshPkt := { pktX with home := 1, chest := 0, crossed := 0 }
def big : MeshPkt := { ring with data := List.replicate 2000 2, beats := [0, 0] }
def mkE (p : MeshPkt) : State := ((sE0.setSide (peerSide 0) (fun t => { t with flow := [⟨p, 0, 0⟩] })).setMod (peerSide 0) 0 (fun t => { t with txNext := 5 })).setMod 0 0
  (fun t => { t with rxLast := 4, txNext := 7, replay := [(0, ⟨⟨5, 3, false, true, 1, 0, 1, 0, 4, 0⟩, []⟩), (1, ⟨⟨6, 3, false, true, 1, 0, 1, 0, 4, 0⟩, []⟩)] })
def sE : State := mkE ring
def sB : State := mkE big
def flOf (s : State) (vc : Nat) : EdgeFlit := match s.edgeNext (peerSide 0) vc with
  | none => ⟨⟨5, 5, false, true, vc, 0, 1, 0, 7, 0⟩, dat⟩
  | some x => let b := ringChunk x; ⟨⟨5, 5, false, true, vc, 0, (s.edgeCount (peerSide 0)).1, (s.edgeCount (peerSide 0)).2.2, b.length / 8, (s.edgeCount (peerSide 0)).2.1⟩, b⟩
def fE := flOf sE 1
def fB := flOf sB 1
def sR : State := sE.setMod 0 0 (fun t => { t with replays := 8 })
def sF : State := s0.each (List.range 8) (fun s k => s.setF (R.LNK_S_STATUS.state k) 4)
def wit0 : State := sE
def wit1 : MeshPkt := pktD
def wit2 : MeshPkt := pkt
def wit3 : State := sF
def wit4 : MeshEnt := ⟨meshClean pkt, 1, 0, 0⟩
def wit5 : State := sM4r
def wit6 : MeshPkt := pktY
def wit7 : MeshEnt := ⟨meshClean pktY, 1, 0, 3⟩
def wit8 : MeshPkt := pktU
def wit9 : MeshEnt := ⟨meshClean pktB, 3, 0, 0⟩
def wit10 : EdgeFlit := fB
def wit11 : EdgeFlit := { fE with hdr := { fE.hdr with cls := 3 } }
def wit12 : EdgeFlit := fE
def wit13 : RingPkt := ⟨ring, 0, 0⟩
def wit14 : State := sR
def wit15 : Instr := .edgeRetire 0
def wit16 : Word64 := 0xFFFFFFFF#64
def wit17 : Word64 := 0xFFFFFFFFFFFFFFFF#64
end K15
namespace K16
def s0 : State := { State.reset with now := 1000 }
def put (s : State) (k w0 w1 : Nat) : State := (s.setW (R.QOS_REG_W0 k) w0).setW (R.QOS_REG_W1 k) w1
def sQ : State :=
  let s1 := [0, 1, 2, 3].foldl (fun s c => put s (5 * 16 + c) (2 ^ 31 + c * 2 ^ 29 + 2 ^ 26 + (if c = 3 then 0 else 25)) (2 * 2 ^ 16 + (if c = 1 then 300 else 1))) s0
  (s1.qosApply s1.qosShadow)
def arb (r : List (Nat × Nat × Nat)) : ArbReq := ⟨1, 2, 3, 4, r, 7, true⟩
def aA := arb [(3, 2, 9), (1, 2, 8), (5, 1, 7)]
def sG : State := { s0 with qos := { s0.qos with granted := [(arbKey aA * 8 + 2, 2)], waits := [(70, (5000, 3, 258)), (71, (4096, 3, 4)), (72, (5000, 2, 2))], episode := [(72, true)] } }
def sDef : State := { (sQ.setF R.PWR_MODE.steady_active 1).setF R.LAY_STATUS.state 5 with lay := { sQ.lay with began := true } }
def sBad : State := put sQ (5 * 16 + 4) (2 ^ 31 + 0 * 2 ^ 29 + 2 ^ 26 + 25) 0
def rq : List PortReq := [⟨5, .sched, 1, 2, 64, []⟩, ⟨5, .run (.walker 0 0), 1, 2, 64, [100, 900]⟩, ⟨5, .host 3, 0, 0, 64, []⟩, ⟨5, .unit, 0, 0, 64,
    []⟩, ⟨200, .sched, 0, 0, 64, []⟩, ⟨200, .copy 7, 0, 0, 64, []⟩, ⟨300, .unit, 0, 0, 1, []⟩]
def wit0 : State := s0
def wit1 : PortReq := (rq.drop 6).head (by decide +kernel)
def wit2 : State := sQ
def wit3 : PortReq := (rq.drop 0).head (by decide +kernel)
def cand1 : List (QEnt) := [0, 1, 2, 3].filterMap (fun c => qosEntry sQ.qos.active (80 + c))
def wit4 : QEnt := (cand1.drop 0).head (by decide +kernel)
def wit5 : ArbReq := aA
def wit6 : ArbReq := { aA with free := false }
def wit7 : State := sBad
def wit8 : State := sDef
def wit9 : State := sG
def wit10 : PortReq := (rq.drop 2).head (by decide +kernel)
end K16
namespace K17
def s0 : State := { State.reset with now := 3000000, boot := { State.reset.boot with upChests := 15 } }
def runCcs (s : State) : State := (List.range 5).foldl (fun s i => s.setF (R.MBX_CC_STATUS.state i) 2) s
def s1 : State := runCcs { s0 with thm := { s0.thm with pwrN := 99, pwrSum := [(0, 30000000), (4, 130000000)], pwrLast := [(4, 130000000)], overCap := 1, estimate := [(0, 7), (3, 70)] } }
def sB : State := { (((s1.setF (R.CHS_BUDGET.active 0) 500).setF (R.CHS_BUDGET.active 1) 300).setF R.PWR_PKG.power 900).setF (R.CHS_BUDGET.budget 1) 200 with thm := { s1.thm with budgetMsg := [(4, (500, 400)), (5, (100, 300)), (6, (900, 50))], grants := [(4, 77)] } }
def sLic : State := sB.setW R.SEC_LICENCE 0x1F
def sSpr : State := { ((sLic.setF R.PWR_MODE.mode_active 1).setF R.PWR_MODE.window 1).setF R.PWR_CAP.cap 4095 with thm := { sB.thm with sprintAt := 1000000 } }
def defer (s : State) : State := let t := (s.setF R.PWR_MODE.steady_active 1).setF R.LAY_STATUS.state 5; { t with lay := { t.lay with began := true } }
def sDown : State := { s0 with up := false }
def sNow : State := { sB with thm := { sB.thm with msgAt := [(1, 2999999), (4, 2000000)] } }
def sCold : State := { s1 with boot := { s1.boot with floorLost := 15 } }
def wit0 : State := s0
def wit1 : State := sCold
def wit2 : State := s1
def wit3 : State := sNow
def wit4 : State := sSpr
def wit5 : State := defer sSpr
def wit6 : State := defer sB
def wit7 : State := sDown
end K17
namespace K18
def s0 : State := { State.reset with now := 9000000000, boot := { State.reset.boot with upChests := 15 } }
def rd (s : State) (c i : Nat) (v : Int) : State := s.setF (R.CHS_TEMP.reading c i) (unsigned 16 v)
def md (s : State) (c i : Nat) (v : Int) : State := s.setF (R.CHS_TEMP.model c i) (unsigned 16 v)
def s1 : State := rd (rd (rd (md (md s0 0 0 900) 1 0 300) 0 72 1300) 0 73 1250) 0 80 300
def s2b : State := rd (s1.setOver 0 72 true) 0 72 500
def s3 : State := (s1.putBit (R.CHS_BROKEN.broken 0 0) 0 true).putBit (R.CHS_BROKEN.broken 0 2) 9 true
def sD (d arb : Bool) : State := let t := (rd (rd s0 0 72 400) 0 73 (if d then 600 else 420)).setDisagrees 0 0 true
  { t with thm := { t.thm with winBad := (if arb then [(0, true), (1, true)] else []), winSum := [(0, (40000, 60000))], winModel := [(0, (40000, 40000))], winCount := [(0, 100), (1, 100)] } }
def sC : State := ((s0.setF R.THM_RTH.limit 50).setF R.THM_RTH.estimate 60).setF R.THM_COOLANT.stale 1
def sC2 : State := ((s0.setF R.THM_RTH.limit 50).setF R.THM_RTH.estimate 40).setF R.THM_STATUS.degraded 1
def q1 : MemReq := ⟨.master 5, 5, false, 64, 64, none, [], none⟩
def q2 : MemReq := ⟨.master 0xF0, 0xF0, true, 128, 64, none, [], none⟩
def sP : State := { s0 with thm := { s0.thm with pausing := true, pauseByPin := false, pauseSensor := 75, held := [(8900000000, q1), (8990000000, q2)] } }
def sPd : State := { s0.setF R.THM_STATUS.paused 1 with thm := { s0.thm with pauseAt := 5 }, slices := [(0, { SliceSt.zero with selfRefresh := true })] }
def sDown : State := { s0 with up := false }
def sLow : State := { s0 with pins := { s0.pins with coolFaultN := false } }
def sCl : State := { sC with thm := { sC.thm with rthOver := 5, coolantAt := 8000000000 } }
def sCl2 : State := { sC2 with thm := { sC2.thm with rthUnder := 5 } }
def sSt : State := s0.setF R.THM_COOLANT.stale 0
def wit0 : State := sSt
def wit1 : State := s3
def wit2 : State := s2b
def wit3 : State := sD true true
def wit4 : State := sD false false
def wit5 : State := sD true false
def wit6 : State := s0
def wit7 : State := sCl
def wit8 : State := sCl2
def wit9 : State := sLow
def wit10 : State := sP
def wit11 : Nat × MemReq := (8990000000, q2)
def wit12 : State := sPd
def wit13 : State := sDown
end K18
namespace K19
def s0 : State := { State.reset with now := 3000000, boot := { State.reset.boot with upChests := 15 } }
def okSup : Supplies := ⟨1800, 1200, 900, 0, 0⟩
def sP : State := ((s0.setStep 4 2).setF R.GLB_BOOT_CTRL.chests 3).setF R.THM_COOLANT.inlet 300
def sRun : State := { sP with park := { sP.park with current := some (0, 1), todo := [(0, 2)] } }
def sRunP : State := sRun.setF R.THM_STATUS.paused 1
def tok (k slot signer scope : Nat) (s : State) : State :=
  ((s.setW (R.SEC_TOKEN 0) (tokMagic % 2 ^ 32)).setW (R.SEC_TOKEN 1) (tokMagic / 2 ^ 32)).setW (R.SEC_TOKEN 2) (k + slot * 256 + signer * 65536 + scope * 2 ^ 24)
def sT (k : Nat) : State := tok k 1 0 0 s0
def sB : State := { s0 with sec := { s0.sec with burn := some (1, 2, 77) }, fuse := { s0.fuse with ownerKey := [(1, 5)], ownerState := [(1, 1)] } }.setF R.SEC_STATUS.busy 1
def sZ : State := { s0 with sec := { s0.sec with zeroing := true }, mem := [(5, 7)], memLost := 3, cores := [(2, { CoreSt.zero with tile := [(4, 9)], tileLost := 2 })] }
def sNoVio : State := { s0 with pins := { s0.pins with vio := false }, up := false }
def wit0 : State := s0
def wit1 : Supplies := okSup
def wit2 : State := sP
def wit3 : State := sRunP
def wit4 : Nat × Nat := (0, 1)
def wit5 : State := sRun
def wit6 : Supplies := { okSup with vin := 100 }
def wit7 : State := sT 1
def wit8 : State := sB
def wit9 : State := sZ
def wit10 : State := sNoVio
end K19
namespace K20
def s0 : State := { State.reset with now := 3000000 }
def cn (n : Nat) : State := { s0 with sec := { s0.sec with conn := n } }
def ses (l : List (Nat × Bool × Nat)) : State := let s := cn 3; { s.setF R.SEC_SPDM.sessions l.length with sec := { s.sec with sessions := l, nextSession := 9, ide := [(1, ⟨[(2, 5)], [(0, 1), (1, 2)]⟩)] } }
def wit0 : State := s0
def wit1 : State := cn 1
def wit2 : State := cn 2
def wit3 : State := cn 3
def wit4 : State := ses [(1, true, 0), (2, false, 3), (3, true, 1), (4, true, 1)]
def wit5 : State := ses [(1, true, 0), (2, false, 3)]
end K20
namespace K21
def st (s : State) (c : Nat) : State := { s.setStep c 1 with boot := { s.boot with upChests := 15 } }
def s0 : State := st State.reset 2
def wit0 : State := s0
end K21

/-! ### The spec's worked examples -/

/-- Chapter 01: chest 2 with the default understudy p8 and p3 dead. -/
theorem test_chest_map_of_the_example :
    (({ State.reset with fuse := { State.reset.fuse with dead := [(2, 8)] } } : State).numberChest 2).getW (R.GLB_CHEST_MAP 2) = 0x0F3FC103 := by
  decide +kernel

/-- Chapter 07: device address 0x47_2345_6789, in the chest of chapter 01's example, where logical slice 3 lies above p4. -/
def exampleChest : State := (({ base with fuse := { base.fuse with dead := [(2, 8)] } } : State).numberChest 2).startSlice 22
theorem test_address_of_the_example : exampleChest.locate 0x4723456789 = some ⟨22, 6, 0x2468A789⟩ := by decide +kernel
theorem test_address_fields_of_the_example : locBank ⟨22, 6, 0x2468A789⟩ = 202 ∧ rowOf 0x2468A789 = 2330 ∧ bits 0x2468A789 11 9 = 3 ∧
    bits 0x2468A789 8 6 = 6 ∧ bits 0x2468A789 5 0 = 9 := by decide +kernel

/-- Chapter 02: the four MXFP4 terms under C = 0, then the two whose scale is halved, and the drain of their sum. -/
theorem test_exact_terms_of_the_example :
    [Num.Val.fin false 9 (-43), .fin false 3 (-44), .fin true 1 (-44), .fin false 1 (-44)].map (Num.fixedTerm 0) =
      [⟨18, false, false, false⟩, ⟨3, false, false, false⟩, ⟨-1, false, false, false⟩, ⟨1, false, false, false⟩] := by decide +kernel
theorem test_exact_terms_below_the_floor :
    [Num.Val.fin true 1 (-45), .fin false 1 (-45)].map (Num.fixedTerm 0) = [⟨0, false, false, true⟩, ⟨0, false, false, true⟩] := by decide +kernel
/-- 21 × 2^-44 = 1.3125 × 2^-40. -/
theorem test_exact_drain_of_the_example : Num.Fixed.drain 0 ⟨21, false, false, false⟩ = (0x2BA80000#32, false) := by decide +kernel

/-- Chapter 05: the ceilings of the two block maxima, 2.885390 and 4.328085. -/
theorem test_softmax_ceilings_of_the_example : Num.ceilW 0x4038AA3B#32 = 0x40400000#32 ∧ Num.ceilW 0x408A7FAC#32 = 0x40A00000#32 := by decide +kernel

/-- Chapter 06: M = 3,000, K = 700 and N = 1,300 in whole mode make 3 N tiles, 2 K tiles and 6 output blocks, the last of 440 rows. -/
def ragged : List Byte := mkD [(1, 1, 0), (2, 1, 0x33), (8, 4, 3000), (0xC, 4, 1300), (0x10, 4, 700), (0x14, 2, 1), (0x16, 2, 1), (0x18, 1, 1)]
theorem test_tiling_of_the_example : nTiles ragged (Desc.planShape ragged) = 3 ∧ kTiles ragged (Desc.planShape ragged) = 2 ∧
    blocks ragged (Desc.planShape ragged) = 6 ∧ rowsOf (o1 ragged) 0 = 512 ∧ rowsOf (o1 ragged) 5 = 440 := by decide +kernel

/-- Chapter 17: a sector corrected twice in a row is one entry; another sector of its row is another. -/
def corrected (s : State) (a : Nat) : State :=
  (nextOf (exec (.memoryRead ⟨.master 3, 3, false, a, 64, none, [], none⟩ [(a, 1)]) s)).getD s
theorem test_correction_writes_an_entry : (corrected base 0x780).getF R.ERR_SEQ.seq = base.getF R.ERR_SEQ.seq + 1 ∧
    (corrected base 0x780).out.getLast? = some (.response (.master 3) 0 (List.replicate 64 0)) := by decide +kernel
theorem test_second_correction_coalesces : (corrected (corrected base 0x780) 0x780).getF R.ERR_SEQ.seq = base.getF R.ERR_SEQ.seq + 1 := by decide +kernel
theorem test_other_sector_has_its_own_entry : (corrected (corrected base 0x780) 0x7C0).getF R.ERR_SEQ.seq = base.getF R.ERR_SEQ.seq + 2 := by decide +kernel

/-! ### From reset -/

/-- On an empty queue time goes on by 1 ns. -/
theorem test_idle_step : (nextOf (step State.reset)).map (fun s => (s.now, s.pending)) = some (1, []) := by decide +kernel
theorem test_front_command_runs : (nextOf (step { base with pending := [.heartbeat 0, .linkDown] })).map (fun s => s.pending) = some [.linkDown] := by
  decide +kernel

/-! ### Operands at their largest -/

def vecOk : VecF := ⟨63, 63, 63, 63, true, 15, true, true, 7, true, 15, 15, 32767⟩
def pupOk : PupF := ⟨15, 15, 7, true, 1, 3, 63, 15, true, 65535, 15⟩
def flitOk : Flit := ⟨15, ⟨4095, 4095, true, true, 3, 4095, 4095, 3, 4095, 4194303⟩, List.replicate 240 255⟩
def edgeOk : EdgeFlit := ⟨⟨1023, 1023, true, true, 3, 3, 3, 1023, 127, 3⟩, List.replicate 1008 255⟩
def meshOk : MeshPkt := ⟨3, 8, .core, 3, 9, .plinth, 3, 3, 6, 255, true, 2 ^ 32 - 1, 3, [255], [2]⟩
def reqOk : MemReq := ⟨.master 255, 255, true, 2 ^ 39 - 1, 4096, none, [], none⟩
def atomOk : AtomReq := ⟨.master 255, 255, true, 2 ^ 39 - 1, 16, 2 ^ 128 - 1, 2 ^ 128 - 1⟩
def landOk : LandWrite := ⟨35, 4095, 0, [], true, true, true, .master 255⟩
def portOk : PortReq := ⟨255, .sched, 3, 8, 0, []⟩
def arbOk : ArbReq := ⟨2, 3, 15, 63, [], 0, true⟩
def mergeOk : MergeReq := ⟨64, [(0, 0), (4095, 0)], 0⟩
def readOk : HostRead := none
def testOk : SelfTestRes := ⟨[], [], [], [], [], [], [], []⟩
def sensorOk : SensorIn := ⟨0, 0, 0⟩
def modelOut : ModelOut := ⟨[], 0, 0, 0, 0, false, false⟩

def imageOk : ImageIn := ⟨true, [], []⟩

/-! ### Which commands are well-formed

`test_wf_refused_<n>`: in each command one operand is one past its field or its units, and every other operand is at its largest value; one for each
check of `wellFormed` and of the checks it calls. `test_wf_accepted_<n>`: every constructor with every operand at its largest value. -/

theorem test_wf_refused_1 : ([
    .bar0BadAccess (.host 17) true (2 ^ 26 - 1) 15, .bar0BadAccess (.cc 17) true (2 ^ 26 - 1) 15, .bar0BadAccess (.cc 16) true (2 ^ 26) 15,
    .bar0BadAccess (.cc 16) true (2 ^ 26 - 1) 16, .reg64LoRead (.host 17) (2 ^ 26 - 1), .reg64LoRead (.cc 16) (2 ^ 26),
    .reg64HiWrite (.host 17) (2 ^ 26 - 1) (2 ^ 32 - 1), .reg64HiWrite (.cc 16) (2 ^ 26) (2 ^ 32 - 1), .reg64HiWrite (.cc 16) (2 ^ 26 - 1) (2 ^ 32),
    .rcRead (.host 17) (2 ^ 26 - 1), .rcRead (.cc 16) (2 ^ 26), .registerWrite (.host 17) (2 ^ 26 - 1) (2 ^ 32 - 1) (2 ^ 48 - 1),
    .registerWrite (.cc 16) (2 ^ 26) (2 ^ 32 - 1) (2 ^ 48 - 1), .registerWrite (.cc 16) (2 ^ 26 - 1) (2 ^ 32) (2 ^ 48 - 1),
    .registerWrite (.cc 16) (2 ^ 26 - 1) (2 ^ 32 - 1) (2 ^ 48), .functionLevelReset 17, .bootStep2 (2 ^ 32) readOk readOk, .bootStep3 (2 ^ 32) 15,
    .bootStep3 (2 ^ 32 - 1) 16, .bootStep4 (2 ^ 32) testOk, .bootStep5 (2 ^ 32) (2 ^ 36 - 1), .bootStep5 (2 ^ 32 - 1) (2 ^ 36),
    .bootStep6 (2 ^ 32) readOk, .bootStepOutOfOrder (2 ^ 32)] : List Instr).all (fun i => wellFormed i == false) = true := by decide +kernel

theorem test_wf_refused_2 : ([
    .bootStepEnd (2 ^ 24), .resetCore (2 ^ 32), .resetCluster (2 ^ 32), .resetPartition (2 ^ 32), .unitUncorrectableReset 3 3 31,
    .unitUncorrectableReset 2 4 31, .unitUncorrectableReset 2 3 32, .partialResetEnd 3 3 31 511, .partialResetEnd 2 4 31 511,
    .partialResetEnd 2 3 32 511, .partialResetEnd 2 3 31 512, .islandRegulatorFault 36, .arrSlotIssue 36 15, .arrSlotIssue 35 16, .arrFillRow 36 15,
    .arrFillRow 35 16, .arrSlotComplete 36 15, .arrSlotComplete 35 16, .blockRotation 36 15, .blockRotation 35 16, .drain 36 15, .drain 35 16,
    .arrHold 36 true, .arrDuty 36 (2 ^ 32 - 1)] : List Instr).all (fun i => wellFormed i == false) = true := by decide +kernel

theorem test_wf_refused_3 : ([
    .arrDuty 35 (2 ^ 32), .dutyWindow 36, .landingWrite { landOk with core := 36 }, .landingWrite { landOk with idx := 4096 }, .epilogueInvocation 36,
    .prologueInvocation 36 15, .prologueInvocation 35 16, .vNop 36 vecOk, .vNop 35 { vecOk with vd := 64 }, .vNop 35 { vecOk with va := 64 },
    .vNop 35 { vecOk with vb := 64 }, .vNop 35 { vecOk with vc := 64 }, .vNop 35 { vecOk with pg := 16 }, .vNop 35 { vecOk with rm := 8 },
    .vNop 35 { vecOk with fmt := 16 }, .vNop 35 { vecOk with fn := 16 }, .vNop 35 { vecOk with imm := 2 ^ 15 }, .vAdd 36 vecOk,
    .vAdd 35 { vecOk with vd := 64 }, .vSub 36 vecOk, .vSub 35 { vecOk with vd := 64 }, .vMul 36 vecOk, .vMul 35 { vecOk with vd := 64 },
    .vFma 36 vecOk] : List Instr).all (fun i => wellFormed i == false) = true := by decide +kernel

theorem test_wf_refused_4 : ([
    .vFma 35 { vecOk with vd := 64 }, .vFms 36 vecOk, .vFms 35 { vecOk with vd := 64 }, .vMax 36 vecOk, .vMax 35 { vecOk with vd := 64 },
    .vMin 36 vecOk, .vMin 35 { vecOk with vd := 64 }, .vUna 36 vecOk, .vUna 35 { vecOk with vd := 64 }, .vCmp 36 vecOk,
    .vCmp 35 { vecOk with vd := 64 }, .vSel 36 vecOk, .vSel 35 { vecOk with vd := 64 }, .vCvt 36 vecOk, .vCvt 35 { vecOk with vd := 64 },
    .vExp2 36 vecOk, .vExp2 35 { vecOk with vd := 64 }, .vLog2 36 vecOk, .vLog2 35 { vecOk with vd := 64 }, .vRcp 36 vecOk,
    .vRcp 35 { vecOk with vd := 64 }, .vRsqrt 36 vecOk, .vRsqrt 35 { vecOk with vd := 64 }, .vShuf 36 vecOk] : List Instr).all (fun i => wellFormed i == false) = true := by decide +kernel

theorem test_wf_refused_5 : ([
    .vShuf 35 { vecOk with vd := 64 }, .vRred 36 vecOk, .vRred 35 { vecOk with vd := 64 }, .vStrd 36 vecOk, .vStrd 35 { vecOk with vd := 64 },
    .vStwr 36 vecOk, .vStwr 35 { vecOk with vd := 64 }, .vPgen 36 vecOk, .vPgen 35 { vecOk with vd := 64 }, .vPlog 36 vecOk,
    .vPlog 35 { vecOk with vd := 64 }, .vLd 36 vecOk, .vLd 35 { vecOk with vd := 64 }, .vSt 36 vecOk, .vSt 35 { vecOk with vd := 64 },
    .vSend 36 vecOk, .vSend 35 { vecOk with vd := 64 }, .sendArrival 36, .vRecv 36 vecOk, .vRecv 35 { vecOk with vd := 64 }, .vSop 36 vecOk,
    .vSop 35 { vecOk with vd := 64 }, .merge 36 mergeOk, .merge 35 ⟨64, [(4095, 0), (4096, 0)], 0⟩] : List Instr).all (fun i => wellFormed i == false) = true := by decide +kernel

theorem test_wf_refused_6 : ([
    .deferredChain 36, .finishPass 36, .operationStart 36, .shapeRecordRead 36 true, .fetchUnit 36 1 true, .fetchUnit 35 2 true,
    .memoryRead { reqOk with addr := 2 ^ 39 } [], .memoryRead { reqOk with mid := 256 } [], .memoryRead { reqOk with len := 4097 } [],
    .memoryWrite { reqOk with addr := 2 ^ 39 }, .partialWrite { reqOk with addr := 2 ^ 39 } [], .correctedWriteBack 36, .scrubBurst 36 7 [],
    .scrubBurst 35 8 [], .refreshDue 36 255, .refreshDue 35 256, .refresh 36 255, .refresh 35 256, .rowRemap 36 255 4095, .rowRemap 35 256 4095,
    .rowRemap 35 255 4096, .channelRetire 36 (2 ^ 32 - 1), .channelRetire 35 (2 ^ 32), .channelErrorThreshold 36 7] : List Instr).all (fun i => wellFormed i == false) = true := by decide +kernel

theorem test_wf_refused_7 : ([
    .channelErrorThreshold 35 8, .channelRetrainFail 36 8, .channelRetrainFail 35 9, .channelToSpare 36, .rewritePassEnd 36, .channelCutOff 36,
    .atomicAdd { atomOk with addr := 2 ^ 39 }, .atomicAdd { atomOk with mid := 256 }, .atomicAdd { atomOk with size := 17 },
    .atomicAdd { atomOk with v := 2 ^ 128 }, .atomicAdd { atomOk with cmp := 2 ^ 128 }, .atomicFadd { atomOk with addr := 2 ^ 39 },
    .atomicSmax { atomOk with addr := 2 ^ 39 }, .atomicSmin { atomOk with addr := 2 ^ 39 }, .atomicUmax { atomOk with addr := 2 ^ 39 },
    .atomicUmin { atomOk with addr := 2 ^ 39 }, .atomicFmax { atomOk with addr := 2 ^ 39 }, .atomicFmin { atomOk with addr := 2 ^ 39 },
    .atomicSwap { atomOk with addr := 2 ^ 39 }, .atomicCas { atomOk with addr := 2 ^ 39 }, .slotFp32Contribution { reqOk with addr := 2 ^ 39 },
    .slotFixedContribution { reqOk with addr := 2 ^ 39 }, .slotZero { reqOk with addr := 2 ^ 39 }, .slotRead { reqOk with addr := 2 ^ 39 }] : List Instr).all (fun i => wellFormed i == false) = true := by decide +kernel

theorem test_wf_refused_8 : ([
    .marginTestStart 36 (2 ^ 32 - 1), .marginTestStart 35 (2 ^ 32), .marginTestEnd 36 (2 ^ 32 - 1), .marginTestEnd 35 (2 ^ 32),
    .runSubmit 36 [] .host, .runSubmit 35 [] (.core 36), .runSubmit 35 [] (.walker 4 0), .runSubmit 35 [] (.cc 17), .pupRunGo 36 (.cc 16),
    .pupRunGo 35 (.host 17), .runStart 36, .cueDispatch 36, .cueEnd 36, .returnRecords 36, .runEnd 36, .pupHalt 36 true, .pNop 36 pupOk (2 ^ 20 - 1),
    .pNop 35 { pupOk with d := 16 } (2 ^ 20 - 1), .pNop 35 { pupOk with a := 16 } (2 ^ 20 - 1), .pNop 35 { pupOk with r := 8 } (2 ^ 20 - 1),
    .pNop 35 { pupOk with bk := 2 } (2 ^ 20 - 1), .pNop 35 { pupOk with fm := 4 } (2 ^ 20 - 1), .pNop 35 { pupOk with lane := 64 } (2 ^ 20 - 1),
    .pNop 35 { pupOk with b := 16 } (2 ^ 20 - 1)] : List Instr).all (fun i => wellFormed i == false) = true := by decide +kernel

theorem test_wf_refused_9 : ([
    .pNop 35 { pupOk with imm := 2 ^ 16 } (2 ^ 20 - 1), .pNop 35 { pupOk with fn := 16 } (2 ^ 20 - 1), .pNop 35 pupOk (2 ^ 20),
    .pLdc 36 pupOk (2 ^ 20 - 1), .pLdc 35 { pupOk with d := 16 } (2 ^ 20 - 1), .pLdc 35 pupOk (2 ^ 20), .pStc 36 pupOk (2 ^ 20 - 1),
    .pStc 35 { pupOk with d := 16 } (2 ^ 20 - 1), .pStc 35 pupOk (2 ^ 20), .pCmul 36 pupOk (2 ^ 20 - 1),
    .pCmul 35 { pupOk with d := 16 } (2 ^ 20 - 1), .pCmul 35 pupOk (2 ^ 20), .pCfma 36 pupOk (2 ^ 20 - 1),
    .pCfma 35 { pupOk with d := 16 } (2 ^ 20 - 1), .pCfma 35 pupOk (2 ^ 20), .pCfmb 36 pupOk (2 ^ 20 - 1),
    .pCfmb 35 { pupOk with d := 16 } (2 ^ 20 - 1), .pCfmb 35 pupOk (2 ^ 20), .pLds 36 pupOk (2 ^ 20 - 1),
    .pLds 35 { pupOk with d := 16 } (2 ^ 20 - 1), .pLds 35 pupOk (2 ^ 20), .pSacc 36 pupOk (2 ^ 20 - 1),
    .pSacc 35 { pupOk with d := 16 } (2 ^ 20 - 1), .pSacc 35 pupOk (2 ^ 20)] : List Instr).all (fun i => wellFormed i == false) = true := by decide +kernel

theorem test_wf_refused_10 : ([
    .pBcv 36 pupOk (2 ^ 20 - 1), .pBcv 35 { pupOk with d := 16 } (2 ^ 20 - 1), .pBcv 35 pupOk (2 ^ 20), .pAdd 36 pupOk (2 ^ 20 - 1),
    .pAdd 35 { pupOk with d := 16 } (2 ^ 20 - 1), .pAdd 35 pupOk (2 ^ 20), .pMul 36 pupOk (2 ^ 20 - 1), .pMul 35 { pupOk with d := 16 } (2 ^ 20 - 1),
    .pMul 35 pupOk (2 ^ 20), .pFma 36 pupOk (2 ^ 20 - 1), .pFma 35 { pupOk with d := 16 } (2 ^ 20 - 1), .pFma 35 pupOk (2 ^ 20),
    .pMax 36 pupOk (2 ^ 20 - 1), .pMax 35 { pupOk with d := 16 } (2 ^ 20 - 1), .pMax 35 pupOk (2 ^ 20), .pLim 36 pupOk (2 ^ 20 - 1),
    .pLim 35 { pupOk with d := 16 } (2 ^ 20 - 1), .pLim 35 pupOk (2 ^ 20), .pRsum 36 pupOk (2 ^ 20 - 1),
    .pRsum 35 { pupOk with d := 16 } (2 ^ 20 - 1), .pRsum 35 pupOk (2 ^ 20), .pRmax 36 pupOk (2 ^ 20 - 1),
    .pRmax 35 { pupOk with d := 16 } (2 ^ 20 - 1), .pRmax 35 pupOk (2 ^ 20)] : List Instr).all (fun i => wellFormed i == false) = true := by decide +kernel

theorem test_wf_refused_11 : ([
    .pExp2 36 pupOk (2 ^ 20 - 1), .pExp2 35 { pupOk with d := 16 } (2 ^ 20 - 1), .pExp2 35 pupOk (2 ^ 20), .pExp2r 36 pupOk (2 ^ 20 - 1),
    .pExp2r 35 { pupOk with d := 16 } (2 ^ 20 - 1), .pExp2r 35 pupOk (2 ^ 20), .pSop 36 pupOk (2 ^ 20 - 1),
    .pSop 35 { pupOk with d := 16 } (2 ^ 20 - 1), .pSop 35 pupOk (2 ^ 20), .pPuts 36 pupOk (2 ^ 20 - 1),
    .pPuts 35 { pupOk with d := 16 } (2 ^ 20 - 1), .pPuts 35 pupOk (2 ^ 20), .pPutv 36 pupOk (2 ^ 20 - 1),
    .pPutv 35 { pupOk with d := 16 } (2 ^ 20 - 1), .pPutv 35 pupOk (2 ^ 20), .pEnd 36 pupOk (2 ^ 20 - 1),
    .pEnd 35 { pupOk with d := 16 } (2 ^ 20 - 1), .pEnd 35 pupOk (2 ^ 20), .kvCreate 4, .kvFork 4, .kvAppend 4, .kvVerifyCommit 4, .kvFree 4,
    .kvOpResume 4] : List Instr).all (fun i => wellFormed i == false) = true := by decide +kernel

theorem test_wf_refused_12 : ([
    .layoutLoad (2 ^ 32), .layoutStart (2 ^ 32), .layoutUnload (2 ^ 32), .slotStart (2 ^ 16) true, .sendDataReady (2 ^ 16) true, .flitIdle 8 flitOk,
    .flitIdle 7 { flitOk with op := 16 }, .flitIdle 7 { flitOk with hdr := { flitOk.hdr with seq := 4096 } },
    .flitIdle 7 { flitOk with hdr := { flitOk.hdr with ack := 4096 } }, .flitIdle 7 { flitOk with hdr := { flitOk.hdr with vc := 4 } },
    .flitIdle 7 { flitOk with hdr := { flitOk.hdr with dest := 4096 } }, .flitIdle 7 { flitOk with hdr := { flitOk.hdr with src := 4096 } },
    .flitIdle 7 { flitOk with hdr := { flitOk.hdr with crVc := 4 } }, .flitIdle 7 { flitOk with hdr := { flitOk.hdr with crTotal := 4096 } },
    .flitIdle 7 { flitOk with hdr := { flitOk.hdr with opField := 2 ^ 22 } }, .flitIdle 7 { flitOk with payload := List.replicate 241 0 },
    .sched 8 flitOk, .sched 7 { flitOk with op := 16 }, .fabricRead 8 flitOk, .fabricRead 7 { flitOk with op := 16 }, .fabricWrite 8 flitOk,
    .fabricWrite 7 { flitOk with op := 16 }, .fabricAtomic 8 flitOk, .fabricAtomic 7 { flitOk with op := 16 }] : List Instr).all (fun i => wellFormed i == false) = true := by decide +kernel

theorem test_wf_refused_13 : ([
    .fabricData 8 flitOk, .fabricData 7 { flitOk with op := 16 }, .fabricDone 8 flitOk, .fabricDone 7 { flitOk with op := 16 }, .close 8 flitOk,
    .close 7 { flitOk with op := 16 }, .time 8 flitOk, .time 7 { flitOk with op := 16 }, .assignId 8 flitOk, .assignId 7 { flitOk with op := 16 },
    .setBound 8 flitOk, .setBound 7 { flitOk with op := 16 }, .init 8 flitOk, .init 7 { flitOk with op := 16 }, .flitDropped 8 flitOk,
    .flitDropped 7 { flitOk with op := 16 }, .flitSend 8, .replayTimeout 8, .requestTimeout 4096, .timeSourceLoss 8, .portEnable 8 (2 ^ 32 - 1),
    .portEnable 7 (2 ^ 32), .portRetrain 8, .portLoopback 8 1] : List Instr).all (fun i => wellFormed i == false) = true := by decide +kernel

theorem test_wf_refused_14 : ([
    .portLoopback 7 2, .laneRetire 8 255, .laneRetire 7 256, .laneErrorWindow 8 7 (2 ^ 32 - 1) (2 ^ 32 - 1),
    .laneErrorWindow 7 8 (2 ^ 32 - 1) (2 ^ 32 - 1), .laneErrorWindow 7 7 (2 ^ 32) (2 ^ 32 - 1), .laneErrorWindow 7 7 (2 ^ 32 - 1) (2 ^ 32),
    .laneSignalLoss 8 7, .laneSignalLoss 7 8, .portTrainingEnd 8 true 255, .portTrainingEnd 7 true 256, .meshPacket 4 9 meshOk,
    .meshPacket 3 10 meshOk, .meshPacket 3 9 { meshOk with home := 4 }, .meshPacket 3 9 { meshOk with chest := 4 },
    .meshPacket 3 9 { meshOk with src := 9 }, .meshPacket 3 9 { meshOk with dst := 8 }, .meshPacket 3 9 { meshOk with vc := 4 },
    .meshPacket 3 9 { meshOk with cls := 4 }, .meshPacket 3 9 { meshOk with level := 7 }, .meshPacket 3 9 { meshOk with master := 256 },
    .meshPacket 3 9 { meshOk with tag := 2 ^ 32 }, .meshPacket 3 9 { meshOk with crossed := 4 }, .meshPacket 3 9 { meshOk with beats := [0, 0] }] : List Instr).all (fun i => wellFormed i == false) = true := by decide +kernel

theorem test_wf_refused_15 : ([
    .edgeFlitReceive 8 15 edgeOk 0, .edgeFlitReceive 7 16 edgeOk 0, .edgeFlitReceive 7 15 { edgeOk with hdr := { edgeOk.hdr with seq := 1024 } } 0,
    .edgeFlitReceive 7 15 { edgeOk with hdr := { edgeOk.hdr with ack := 1024 } } 0,
    .edgeFlitReceive 7 15 { edgeOk with hdr := { edgeOk.hdr with vc := 4 } } 0,
    .edgeFlitReceive 7 15 { edgeOk with hdr := { edgeOk.hdr with cls := 4 } } 0,
    .edgeFlitReceive 7 15 { edgeOk with hdr := { edgeOk.hdr with crVc := 4 } } 0,
    .edgeFlitReceive 7 15 { edgeOk with hdr := { edgeOk.hdr with crTotal := 1024 } } 0,
    .edgeFlitReceive 7 15 { edgeOk with hdr := { edgeOk.hdr with len8 := 128 } } 0,
    .edgeFlitReceive 7 15 { edgeOk with hdr := { edgeOk.hdr with crCls := 4 } } 0,
    .edgeFlitReceive 7 15 { edgeOk with payload := List.replicate 1009 0 } 0, .edgeReplayTimeout 8 15, .edgeReplayTimeout 7 16, .edgeRetrain 8,
    .edgeFramingLoss 8, .edgeTrainingEnd 8 ⟨[], [], [], []⟩, .edgeFullRetrain 8, .edgeAttemptTimeout 8, .edgeRetire 8, .edgeStable 8,
    .requestLeave { portOk with master := 256 }, .requestLeave { portOk with chest := 4 }, .requestLeave { portOk with slice := 9 },
    .arbiterGrant { arbOk with kind := 3 }] : List Instr).all (fun i => wellFormed i == false) = true := by decide +kernel

theorem test_wf_refused_16 : ([
    .arbiterGrant { arbOk with chest := 4 }, .arbiterGrant { arbOk with pos := 16 }, .arbiterGrant { arbOk with res := 64 },
    .scaleFactorArrive 256 35, .scaleFactorArrive 255 36, .qosCommit (2 ^ 32), .starvation 12288 63, .starvation 12287 64, .bar2Read (2 ^ 39) 4096,
    .bar2Read (2 ^ 39 - 1) 4097, .bar2Write (2 ^ 39) [] [], .poisonedWrite (2 ^ 64), .fetchadd (2 ^ 39) 16 (2 ^ 64 - 1),
    .fetchadd (2 ^ 39 - 1) 17 (2 ^ 64 - 1), .fetchadd (2 ^ 39 - 1) 16 (2 ^ 64), .swapAtomicop (2 ^ 39) 16 (2 ^ 64 - 1),
    .swapAtomicop (2 ^ 39 - 1) 17 (2 ^ 64 - 1), .swapAtomicop (2 ^ 39 - 1) 16 (2 ^ 64), .casAtomicop (2 ^ 39) 16 (2 ^ 64 - 1) (2 ^ 64 - 1),
    .casAtomicop (2 ^ 39 - 1) 17 (2 ^ 64 - 1) (2 ^ 64 - 1), .casAtomicop (2 ^ 39 - 1) 16 (2 ^ 64) (2 ^ 64 - 1),
    .casAtomicop (2 ^ 39 - 1) 16 (2 ^ 64 - 1) (2 ^ 64), .doorbell 1088 (2 ^ 32 - 1), .doorbell 1087 (2 ^ 32)] : List Instr).all (fun i => wellFormed i == false) = true := by decide +kernel

theorem test_wf_refused_17 : ([
    .cqHead 1088 (2 ^ 32 - 1), .cqHead 1087 (2 ^ 32), .trayEnable 1088 (2 ^ 32 - 1), .trayEnable 1087 (2 ^ 32), .trayDisable 1088 (2 ^ 32 - 1),
    .trayDisable 1087 (2 ^ 32), .trayFetch 1088 [], .entryAccept 1088 true, .entryDispatch 1088 0, .workFinish 36, .completionRecordWrite 1088,
    .reqclass 17 (2 ^ 32 - 1), .reqclass 16 (2 ^ 32), .wdkick 17, .watchdogExpiry 17, .heartbeat (2 ^ 17), .pigeonholeSend (.host 17) 63,
    .pigeonholeSend (.cc 16) 64, .pigeonholeTake (.host 17) 63, .pigeonholeTake (.cc 16) 64, .mbxBindWrite (.host 17) 63 (2 ^ 32 - 1),
    .mbxBindWrite (.cc 16) 64 (2 ^ 32 - 1), .mbxBindWrite (.cc 16) 63 (2 ^ 32), .mbxLock (.host 17) (2 ^ 32 - 1)] : List Instr).all (fun i => wellFormed i == false) = true := by decide +kernel

theorem test_wf_refused_18 : ([
    .mbxLock (.cc 16) (2 ^ 32), .logPathReturn 4, .logWord0Read (.host 17) 511, .logWord0Read (.cc 16) 512, .errInjectArm (.host 17) (2 ^ 32 - 1),
    .errInjectArm (.cc 16) (2 ^ 32), .intEnableWrite (2 ^ 32), .powerSample (2 ^ 32) [] [], .thermalModelUpdate 4 modelOut,
    .sensorSample 4 115 sensorOk, .sensorSample 3 116 sensorOk, .fallbackRelease 4 115, .fallbackRelease 3 116, .budgetExchange 4 (2 ^ 32 - 1),
    .budgetExchange 3 (2 ^ 32), .budgetMessage 4 3 (2 ^ 32 - 1) (2 ^ 32 - 1), .budgetMessage 3 4 (2 ^ 32 - 1) (2 ^ 32 - 1),
    .budgetMessage 3 3 (2 ^ 32) (2 ^ 32 - 1), .budgetMessage 3 3 (2 ^ 32 - 1) (2 ^ 32), .budgetMissing 4 3, .budgetMissing 3 4, .governorUpdate 4,
    .sprintWindowClose true (2 ^ 32), .pwrModeWrite (2 ^ 32)] : List Instr).all (fun i => wellFormed i == false) = true := by decide +kernel

theorem test_wf_refused_19 : ([
    .pwrCapWrite (2 ^ 32), .thmCoolantWrite (2 ^ 32), .disagreeWindowEnd 4 21, .disagreeWindowEnd 3 22, .bstPark (2 ^ 32) ⟨0, 0, 0, 0, 0⟩,
    .parkTestEnd (2 ^ 32) [] [] true, .jtagPrivate 64, .getCertificate (2 ^ 16) (2 ^ 16 - 1) (2 ^ 16 - 1),
    .getCertificate (2 ^ 16 - 1) (2 ^ 16) (2 ^ 16 - 1), .getCertificate (2 ^ 16 - 1) (2 ^ 16 - 1) (2 ^ 16), .challenge (2 ^ 16) [],
    .getMeasurements 256 true [], .keyExchange (2 ^ 16), .finishSpdm (2 ^ 32) true, .spdmHeartbeat (2 ^ 32), .keyUpdate (2 ^ 32),
    .endSession (2 ^ 32), .spdmUnsupported 256, .ideKm (2 ^ 32) 255 255 3 1 0, .ideKm (2 ^ 32 - 1) 256 255 3 1 0, .ideKm (2 ^ 32 - 1) 255 256 3 1 0,
    .ideKm (2 ^ 32 - 1) 255 255 4 1 0, .ideKm (2 ^ 32 - 1) 255 255 3 2 0, .badFlitReceived 8 (List.replicate 256 0) true] : List Instr).all (fun i => wellFormed i == false) = true := by decide +kernel

theorem test_wf_refused_20 : ([
    .badFlitReceived 7 (List.replicate 255 0) true, .badFlitReceived 7 (List.replicate 257 0) true, .edgeLaneRepair 8 15 0, .edgeLaneRepair 7 16 0,
    .sensorNoConversion 4 115, .sensorNoConversion 3 116, .controlCoreStart 17, .plinthFloorFailure 4, .kvUnlistedOp 4, .resetLevelRefused (2 ^ 32)] : List Instr).all (fun i => wellFormed i == false) = true := by decide +kernel

theorem test_wf_accepted_1 : ([
    .bar0BadAccess (.cc 16) true (2 ^ 26 - 1) 15, .reg64LoRead (.cc 16) (2 ^ 26 - 1), .reg64HiWrite (.cc 16) (2 ^ 26 - 1) (2 ^ 32 - 1),
    .rcRead (.cc 16) (2 ^ 26 - 1), .registerWrite (.cc 16) (2 ^ 26 - 1) (2 ^ 32 - 1) (2 ^ 48 - 1), .powerUp true, .powerRemoval, .brownOut,
    .vioExcursion, .vaonExcursion, .perstNAssert, .perstNRelease true, .hotReset, .linkDown, .functionLevelReset 16,
    .bootStep2 (2 ^ 32 - 1) readOk readOk, .bootStep3 (2 ^ 32 - 1) 15, .bootStep4 (2 ^ 32 - 1) testOk, .bootStep5 (2 ^ 32 - 1) (2 ^ 36 - 1),
    .bootStep6 (2 ^ 32 - 1) readOk, .bootStepOutOfOrder (2 ^ 32 - 1), .bootStepEnd (2 ^ 24 - 1), .resetCore (2 ^ 32 - 1), .resetCluster (2 ^ 32 - 1),
    .resetPartition (2 ^ 32 - 1), .unitUncorrectableReset 2 3 31, .partialResetEnd 2 3 31 511, .islandRegulatorFault 35, .arrSlotIssue 35 15,
    .arrFillRow 35 15, .arrSlotComplete 35 15, .blockRotation 35 15, .drain 35 15, .arrHold 35 true, .arrDuty 35 (2 ^ 32 - 1), .dutyWindow 35,
    .landingWrite landOk, .epilogueInvocation 35, .prologueInvocation 35 15, .vNop 35 vecOk, .vAdd 35 vecOk, .vSub 35 vecOk, .vMul 35 vecOk,
    .vFma 35 vecOk, .vFms 35 vecOk, .vMax 35 vecOk, .vMin 35 vecOk, .vUna 35 vecOk] : List Instr).all (fun i => wellFormed i == true) = true := by decide +kernel

theorem test_wf_accepted_2 : ([
    .vCmp 35 vecOk, .vSel 35 vecOk, .vCvt 35 vecOk, .vExp2 35 vecOk, .vLog2 35 vecOk, .vRcp 35 vecOk, .vRsqrt 35 vecOk, .vShuf 35 vecOk,
    .vRred 35 vecOk, .vStrd 35 vecOk, .vStwr 35 vecOk, .vPgen 35 vecOk, .vPlog 35 vecOk, .vLd 35 vecOk, .vSt 35 vecOk, .vSend 35 vecOk,
    .sendArrival 35, .vRecv 35 vecOk, .vSop 35 vecOk, .merge 35 mergeOk, .deferredChain 35, .finishPass 35, .operationStart 35,
    .shapeRecordRead 35 true, .fetchUnit 35 1 true, .memoryRead reqOk [], .memoryWrite reqOk, .partialWrite reqOk [], .correctedWriteBack 35,
    .scrubBurst 35 7 [], .refreshDue 35 255, .refresh 35 255, .rowRemap 35 255 4095, .channelRetire 35 (2 ^ 32 - 1), .channelErrorThreshold 35 7,
    .channelRetrainFail 35 8, .channelToSpare 35, .rewritePassEnd 35, .channelCutOff 35, .atomicAdd atomOk, .atomicFadd atomOk, .atomicSmax atomOk,
    .atomicSmin atomOk, .atomicUmax atomOk, .atomicUmin atomOk, .atomicFmax atomOk, .atomicFmin atomOk, .atomicSwap atomOk] : List Instr).all (fun i => wellFormed i == true) = true := by decide +kernel

theorem test_wf_accepted_3 : ([
    .atomicCas atomOk, .slotFp32Contribution reqOk, .slotFixedContribution reqOk, .slotZero reqOk, .slotRead reqOk, .marginTestStart 35 (2 ^ 32 - 1),
    .marginTestEnd 35 (2 ^ 32 - 1), .runSubmit 35 [] .host, .pupRunGo 35 (.cc 16), .runStart 35, .cueDispatch 35, .cueEnd 35, .returnRecords 35,
    .runEnd 35, .pupHalt 35 true, .pNop 35 pupOk (2 ^ 20 - 1), .pLdc 35 pupOk (2 ^ 20 - 1), .pStc 35 pupOk (2 ^ 20 - 1), .pCmul 35 pupOk (2 ^ 20 - 1),
    .pCfma 35 pupOk (2 ^ 20 - 1), .pCfmb 35 pupOk (2 ^ 20 - 1), .pLds 35 pupOk (2 ^ 20 - 1), .pSacc 35 pupOk (2 ^ 20 - 1),
    .pBcv 35 pupOk (2 ^ 20 - 1), .pAdd 35 pupOk (2 ^ 20 - 1), .pMul 35 pupOk (2 ^ 20 - 1), .pFma 35 pupOk (2 ^ 20 - 1), .pMax 35 pupOk (2 ^ 20 - 1),
    .pLim 35 pupOk (2 ^ 20 - 1), .pRsum 35 pupOk (2 ^ 20 - 1), .pRmax 35 pupOk (2 ^ 20 - 1), .pExp2 35 pupOk (2 ^ 20 - 1),
    .pExp2r 35 pupOk (2 ^ 20 - 1), .pSop 35 pupOk (2 ^ 20 - 1), .pPuts 35 pupOk (2 ^ 20 - 1), .pPutv 35 pupOk (2 ^ 20 - 1),
    .pEnd 35 pupOk (2 ^ 20 - 1), .kvCreate 3, .kvFork 3, .kvAppend 3, .kvVerifyCommit 3, .kvFree 3, .kvOpResume 3, .kvmHold true,
    .layoutLoad (2 ^ 32 - 1), .imageFetchEnd imageOk, .layoutCommit none, .layoutStart (2 ^ 32 - 1)] : List Instr).all (fun i => wellFormed i == true) = true := by decide +kernel

theorem test_wf_accepted_4 : ([
    .layoutUnload (2 ^ 32 - 1), .epochStart, .slotStart (2 ^ 16 - 1) true, .sendDataReady (2 ^ 16 - 1) true, .memberReady, .epochBoundary,
    .groupBroken, .actSwitch, .flitIdle 7 flitOk, .sched 7 flitOk, .fabricRead 7 flitOk, .fabricWrite 7 flitOk, .fabricAtomic 7 flitOk,
    .fabricData 7 flitOk, .fabricDone 7 flitOk, .close 7 flitOk, .time 7 flitOk, .assignId 7 flitOk, .setBound 7 flitOk, .init 7 flitOk,
    .flitDropped 7 flitOk, .flitSend 7, .replayTimeout 7, .requestTimeout 4095, .timeSourceLoss 7, .portEnable 7 (2 ^ 32 - 1), .portRetrain 7,
    .portLoopback 7 1, .laneRetire 7 255, .laneErrorWindow 7 7 (2 ^ 32 - 1) (2 ^ 32 - 1), .laneSignalLoss 7 7, .portTrainingEnd 7 true 255,
    .meshPacket 3 9 meshOk, .edgeFlitReceive 7 15 edgeOk 0, .edgeReplayTimeout 7 15, .edgeRetrain 7, .edgeFramingLoss 7,
    .edgeTrainingEnd 7 ⟨[], [], [], []⟩, .edgeFullRetrain 7, .edgeAttemptTimeout 7, .edgeRetire 7, .edgeStable 7, .requestLeave portOk,
    .arbiterGrant arbOk, .scaleFactorArrive 255 35, .qosCommit (2 ^ 32 - 1), .starvation 12287 63, .bar2Read (2 ^ 39 - 1) 4096] : List Instr).all (fun i => wellFormed i == true) = true := by decide +kernel

theorem test_wf_accepted_5 : ([
    .bar2Write (2 ^ 39 - 1) [] [], .poisonedWrite (2 ^ 64 - 1), .fetchadd (2 ^ 39 - 1) 16 (2 ^ 64 - 1), .swapAtomicop (2 ^ 39 - 1) 16 (2 ^ 64 - 1),
    .casAtomicop (2 ^ 39 - 1) 16 (2 ^ 64 - 1) (2 ^ 64 - 1), .doorbell 1087 (2 ^ 32 - 1), .cqHead 1087 (2 ^ 32 - 1), .trayEnable 1087 (2 ^ 32 - 1),
    .trayDisable 1087 (2 ^ 32 - 1), .trayFetch 1087 [], .entryAccept 1087 true, .entryDispatch 1087 0, .workFinish 35, .copyIn 0 [], .copyOut 0 none,
    .completionRecordWrite 1087, .reqclass 16 (2 ^ 32 - 1), .wdkick 16, .watchdogExpiry 16, .heartbeat (2 ^ 17 - 1), .pigeonholeSend (.cc 16) 63,
    .pigeonholeTake (.cc 16) 63, .mbxBindWrite (.cc 16) 63 (2 ^ 32 - 1), .mbxLock (.cc 16) (2 ^ 32 - 1), .mctpSend [], .mctpOther [],
    .logPathReturn 3, .logWord0Read (.cc 16) 511, .errInjectArm (.cc 16) (2 ^ 32 - 1), .intEnableWrite (2 ^ 32 - 1), .powerSample (2 ^ 32 - 1) [] [],
    .thermalModelUpdate 3 modelOut, .sensorSample 3 115 sensorOk, .fallbackRelease 3 115, .budgetExchange 3 (2 ^ 32 - 1),
    .budgetMessage 3 3 (2 ^ 32 - 1) (2 ^ 32 - 1), .budgetMissing 3 3, .packageCheck, .governorUpdate 3, .sprintWindowClose true (2 ^ 32 - 1),
    .pwrModeWrite (2 ^ 32 - 1), .pwrCapWrite (2 ^ 32 - 1), .pwrbrkNAssert, .pwrbrkNRelease, .thmCoolantWrite (2 ^ 32 - 1), .coolantStale,
    .coolingDegraded, .coolingRecovered] : List Instr).all (fun i => wellFormed i == true) = true := by decide +kernel

theorem test_wf_accepted_6 : ([
    .coolFaultNAssert, .pauseComplete, .pausedRequestTimeout, .resume, .disagreeWindowEnd 3 21, .bstPark (2 ^ 32 - 1) ⟨0, 0, 0, 0, 0⟩,
    .parkTestEnd (2 ^ 32 - 1) [] [] true, .supplySample ⟨0, 0, 0, 0, 0⟩, .tokenRegisterOwnerKey ⟨0, 0, 0, 0, 0⟩, .tokenRevokeOwnerKey ⟨0, 0, 0, 0, 0⟩,
    .tokenDebugUnlock, .fuseBurnEnd true, .debugZeroEnd, .jtagBypass, .jtagIdcode, .jtagSamplePreload, .jtagExtest, .jtagClamp, .jtagPrivate 63,
    .getVersion, .getCapabilities, .negotiateAlgorithms true, .getDigests, .getCertificate (2 ^ 16 - 1) (2 ^ 16 - 1) (2 ^ 16 - 1),
    .challenge (2 ^ 16 - 1) [], .getMeasurements 255 true [], .keyExchange (2 ^ 16 - 1), .finishSpdm (2 ^ 32 - 1) true, .spdmHeartbeat (2 ^ 32 - 1),
    .keyUpdate (2 ^ 32 - 1), .endSession (2 ^ 32 - 1), .spdmUnsupported 255, .ideKm (2 ^ 32 - 1) 255 255 3 1 0,
    .badFlitReceived 7 (List.replicate 256 0) true, .edgeLaneRepair 7 15 0, .sensorNoConversion 3 115, .coolFaultNRelease, .controlCoreStart 16,
    .mctpRouteToBmc, .plinthFloorFailure 3, .tokenRefusedKind, .kvUnlistedOp 3, .resetLevelRefused (2 ^ 32 - 1)] : List Instr).all (fun i => wellFormed i == true) = true := by decide +kernel

/-! ### Witnesses by hand -/

/-! ### Steps -/
theorem witness_StepRunsFrontCommand : ({ base with pending := [Instr.linkDown, .hotReset] } : State).pending = .linkDown :: [.hotReset] := rfl
theorem witness_IdleStepAdvancesTime_l : ({ base with up := false } : State).pending = [] ∧ ({ base with up := false } : State).up = false := by decide +kernel
theorem witness_IdleStepAdvancesTime_r : base.pending = [] ∧ base.up = true := by decide +kernel
theorem witness_StepKeepsJournalCount : base.journalShown := by decide +kernel
theorem witness_EveryCommandCompletes_r : base.journalShown ∧ ({ base with up := false } : State).up = false ∧ servedInReset .hotReset = false := by
  decide +kernel

/-! ### Registers, resets, control cores -/
theorem witness_RegisterWriteByAccessType : K02.wit0.up = true ∧ K02.wit0.closedTo K02.wit1 R.ERR_INT_CLASS = false ∧
    msixAt K02.wit1 R.ERR_INT_CLASS = none ∧ mapOff K02.wit1 R.ERR_INT_CLASS = some R.ERR_INT_CLASS ∧ writablePair R.ERR_INT_CLASS = false ∧
    (4 ≤ R.ERR_INT_CLASS → writablePair (R.ERR_INT_CLASS - 4) = false) ∧ K02.wit0.txClosed K02.wit1 R.ERR_INT_CLASS = false ∧
    K02.wit0.tokenClosed R.ERR_INT_CLASS = false ∧ R.ERR_INT_CLASS ≠ R.HQ_STATUS ∧ ∀ c, R.ERR_INT_CLASS ≠ R.CHS_BUDGET c :=
  ⟨by decide +kernel, by decide +kernel, by decide +kernel, by decide +kernel, by decide +kernel, by decide +kernel, by decide +kernel,
    by decide +kernel, by decide +kernel, fun c => by unfold R.ERR_INT_CLASS R.CHS_BUDGET R.chsBase R.chestBase; omega⟩
theorem witness_ResetRequests_rr : base.up = true ∧ bit 0x103 8 = true ∧ bits 0x103 1 0 = 3 ∧
    (3, Instr.resetLevelRefused 0x103) ∈ [(0, Instr.resetCore 0x103), (1, .resetCluster 0x103), (2, .resetPartition 0x103), (3, .resetLevelRefused 0x103)] := by
  decide +kernel
theorem witness_ControlCoreUpkeep_rrrr : K04.wit1.up = true ∧ 3 < 17 ∧ K04.wit1.ccRuns 3 = true ∧ K04.wit1.ccRuns 0 = true ∧ 1 ≤ 3 ∧
    (K04.wit1.cc 3).missed < 2 ∧ ∀ j, 1 ≤ j → j < 17 → j ≠ 3 → K04.wit1.ccRuns j = false :=
  ⟨by decide +kernel, by decide, by decide +kernel, by decide +kernel, by decide, by decide +kernel,
    fun j h1 h2 h3 => (show ∀ j < 17, 1 ≤ j → j ≠ 3 → K04.wit1.ccRuns j = false by decide +kernel) j h2 h1 h3⟩
theorem witness_ErrorLogAndEnables_rl : K07s.wit0.up = true ∧ 0 < 512 ∧ ∀ f, Master.host 0 = Master.host f → f = 0 :=
  ⟨by decide +kernel, by decide, fun _ h => (Master.host.inj h).symm⟩

/-! ### Memory -/
/-- Four bytes written by master 3. -/
def wr4 : MemReq := ⟨.master 3, 3, false, 64, 4, some [1, 2, 3, 4], [true, false], none⟩
theorem witness_MemoryReadWrite_rrl : base.up = true ∧ wr4.src = .master 3 ∧ ccOfMid 3 = none ∧ wr4.host = false ∧ wr4.atom = none ∧
    wr4.write = some [1, 2, 3, 4] ∧ [1, 2, 3, 4].length = wr4.len ∧ openWay (base.disturb [(64, 1)]) wr4 := by unfold openWay; decide +kernel
/-- An atomic of master 3 on a word of sideboard slice 0, which its cache may hold. -/
def at4 : AtomReq := ⟨.master 3, 3, false, mkAddr 0 8 0x140, 4, 7, 9⟩
def host8 : AtomReq := ⟨.master 0x19, 0x19, true, mkAddr 0 8 0x140, 8, 7, 9⟩
def heldLine : State := { base with lines := Tbl.set [] base.lines (lineKey 0 (mkAddr 0 8 0x140)) [⟨lineTag (mkAddr 0 8 0x140), 0, 0, 0xFF, [(0x140, 5)]⟩] }
def atomHyp (s : State) (q : AtomReq) (op : Nat) : Prop := s.up = true ∧ (q.size = 4 ∨ q.size = 8) ∧ s.atomOk (atomReq op q) op = true ∧
  s.refusal (atomReq op q) = none
theorem witness_AtomicsReturnOld_l_memory : atomHyp base at4 1 ∧ openWay base (atomReq 1 at4) ∧ at4.src = .master 3 ∧ ccOfMid 3 = none ∧
    ccOfMid at4.mid = none ∧ at4.host = false := by unfold atomHyp openWay; decide +kernel
theorem witness_AtomicsReturnOld_l_cache : atomHyp heldLine at4 8 ∧ heldLine.cached (at4.addr / 64 * 64) = true ∧ heldLine.holdsSector at4.addr = true := by
  unfold atomHyp; decide +kernel
theorem witness_AtomicsReturnOld_r : atomHyp base host8 9 ∧ openWay base (atomReq 9 host8) ∧ host8.src = .master 0x19 ∧
    host8.mid = 0x19 ∧ host8.host = true ∧ base.bar2Open = true := by unfold atomHyp openWay; decide +kernel
theorem witness_MemoryUpkeep_rlr : K07s.wit0.up = true ∧ K07s.wit0.drawersUp 0 = true ∧ (working (K07s.wit0.slice 0)).contains 0 = true ∧
    K07s.wit0.bankKept 0 (0 * 32 + bankOf (Tbl.get 0 (K07s.wit0.slice 0).scrub 0 % 2 ^ 21 * 512)) = false ∧
    ∀ i < 8, K07s.wit0.sectorErr (K07s.wit0.addrAt 0 0 (Tbl.get 0 (K07s.wit0.slice 0).scrub 0 % 2 ^ 21 * 512 + 64 * i) / 64 * 64) = 0 ∧
      (K07s.wit0.locate (K07s.wit0.addrAt 0 0 (Tbl.get 0 (K07s.wit0.slice 0).scrub 0 % 2 ^ 21 * 512 + 64 * i) / 64 * 64)).elim true
        (fun l => (K07s.wit0.slice l.u).writeBacks.isEmpty) = true := by decide +kernel

/-! ### Cores -/
theorem witness_ArrayFillsAndSlots_rrrrrl :
    let s := K08.wit6
    let b := (s.core 0).sub 0
    let id := K08.wit7
    let o := (s.core 0).op id.op
    let own := match halfOf b id with
      | some h => (List.range (rowsOf o id.block)).map (fun r => accRow (s.core 0) o.desc 0 h r)
      | none => (List.range (rowsOf o id.block)).map (fun _ => List.replicate (subN o.desc) Num.Fixed.zero)
    let sums := if isSplit o.desc then s.sumParts 0 o id own else own
    s.up = true ∧ b.ready = id :: K08.wit8 ∧
    (isSplit o.desc = true → s.ownsSum 0 o.desc = true → (partsNeeded o.desc).all (fun j => s.arrived 0 (partTile o id j)) = true) ∧
    (isSplit o.desc = false ∨ s.ownsSum 0 o.desc = true → ((s.drainFlags 0 0 id.op o.desc sums).drainTo 0 0 o id
      (sums.map (fun r => r.map (fun f => (drainEntry o.desc f).1)))).2 = false) := by decide +kernel
theorem witness_VectorLoadsStoresMessages_rrrrrrrl : K09y.wit3.up = true ∧ nextCtx (K09y.wit3.core 0) (vecWord 0x17 K09y.wit4) = some K09y.wit2 ∧
    (⟨K09y.wit3, 0, K09y.wit2, (K09y.wit3.core 0).op K09y.wit2.id.op, hdrAt (K09y.wit3.core 0) K09y.wit2.chain, K09y.wit4, false⟩ : VX).store.held = false := by
  decide +kernel
theorem witness_OperationsStartAndEnd_l : K10.wit0.up = true ∧ (K10.wit0.core 0).work = some K10.wit1 ∧ startable (K10.wit0.core 0) = some 0 ∧
    (K10.wit0.opGroup 0 0).find? (fun k => ((K10.wit0.descPeek 0 k).elim false (fun d => d.shapeSrc == 2)) &&
      !(K10.wit0.core 0).recs.any (fun r => r.1 == k)) = some 0 ∧ K10.wit0.descPeek 0 0 = some K10.wit2 ∧
    K10.wit0.arrived 0 (Desc.shapeLanding K10.wit2) = true := by decide +kernel
/-- A merge of the triple of landing tile 4, come or not. -/
def mergeOne : MergeReq := ⟨3, [(4, 0)], 0x3000⟩
theorem witness_OperationsStartAndEnd_rrrrl : (K10.wit23.setArrived 0 4 true).up = true ∧
    ((K10.wit23.setArrived 0 4 true).core 0).work = some K10.wit1 ∧ ∀ x ∈ mergeOne.sources, (K10.wit23.setArrived 0 4 true).arrived 0 x.1 = true := by
  decide +kernel
theorem witness_OperationsStartAndEnd_rrrrrl : K10.wit23.up = true ∧ (K10.wit23.core 0).work = some K10.wit1 ∧ (4, 0) ∈ mergeOne.sources ∧
    K10.wit23.arrived 0 4 = false := by decide +kernel

/-! ### Puppets -/
/-- Every puppet that takes part and that the column instruction hits reads a clean column. -/
abbrev pupClean (s : State) (n : PNext) (f : PupF) (j : Nat) : Prop :=
  bit (cueMask n.cue) (2 * j + f.bk) = true → (s.ps 0 j f.r).toNat < 524288 ∧ s.bankCut 0 (2 * j + f.bk) = false ∧
    (s.locate (s.bankAddr 0 (2 * j + f.bk) (s.ps 0 j f.r).toNat / 64 * 64)).isSome = true ∧
    s.sectorErr (s.bankAddr 0 (2 * j + f.bk) (s.ps 0 j f.r).toNat / 64 * 64) = 0
theorem guard128 {p : Nat → Bool} {q : Nat → Prop} (h : ∀ j < 128, p j = true → q j) : ∀ j, (decide (j < 128) && p j) = true → q j := by
  intro j hj
  rw [Bool.and_eq_true, decide_eq_true_iff] at hj
  exact h j hj.1 hj.2
theorem only128 {p : Nat → Bool} {k0 : Nat} (hk : k0 < 128) (h : ∀ j < 128, (p j = true ↔ j = k0)) : ∀ j, (decide (j < 128) && p j) = true ↔ j = k0 := by
  intro j
  rw [Bool.and_eq_true, decide_eq_true_iff]
  exact ⟨fun x => (h j x.1).1 x.2, fun x => by subst x; exact ⟨hk, (h _ hk).2 rfl⟩⟩
theorem witness_PuppetColumnInstructions_l : K11c2.wit0.up = true ∧
    (∀ j, (decide (j < 128) && K11c2.wit0.takesPart 0 K11c2.wit1.cue j) = true → pupClean K11c2.wit0 K11c2.wit1 K11c2.wit2 j) ∧
    pupReady K11c2.wit0 0 3 K11c2.wit2 0 K11c2.wit1 :=
  ⟨by decide +kernel, guard128 (by decide +kernel), by unfold pupReady; decide +kernel⟩
theorem witness_PuppetColumnInstructions_rl : K11c2.wit3.up = true ∧ K11c2.wit2.d % 8 ≠ K11c2.wit2.r % 8 ∧
    (∀ j, (decide (j < 128) && K11c2.wit3.takesPart 0 K11c2.wit4.cue j) = true → pupClean K11c2.wit3 K11c2.wit4 K11c2.wit2 j) ∧
    pupReady K11c2.wit3 0 6 K11c2.wit2 0 K11c2.wit4 :=
  ⟨by decide +kernel, by decide +kernel, guard128 (by decide +kernel), by unfold pupReady; decide +kernel⟩
theorem witness_PuppetColumnInstructions_rrll : K11c2.wit5.up = true ∧
    (∀ k, (decide (k < 128) && K11c2.wit5.takesPart 0 K11c2.wit6.cue k) = true ↔ k = 0) ∧
    bit (cueMask K11c2.wit6.cue) (2 * 0 + K11c2.wit2.bk) = true ∧ pupClean K11c2.wit5 K11c2.wit6 K11c2.wit2 0 ∧
    K11c2.wit5.inClaims 0 (2 * 0 + K11c2.wit2.bk) (K11c2.wit5.ps 0 0 K11c2.wit2.r).toNat = true ∧ pupReady K11c2.wit5 0 2 K11c2.wit2 1 K11c2.wit6 :=
  ⟨by decide +kernel, only128 (by decide) (by decide +kernel), by decide +kernel, by decide +kernel, by decide +kernel, by unfold pupReady; decide +kernel⟩
theorem witness_PuppetColumnInstructions_rrlr : K11c2.wit7.up = true ∧
    (∀ k, (decide (k < 128) && K11c2.wit7.takesPart 0 K11c2.wit8.cue k) = true ↔ k = 0) ∧
    bit (cueMask K11c2.wit8.cue) (2 * 0 + K11c2.wit2.bk) = true ∧ pupClean K11c2.wit7 K11c2.wit8 K11c2.wit2 0 ∧
    K11c2.wit7.inClaims 0 (2 * 0 + K11c2.wit2.bk) (K11c2.wit7.ps 0 0 K11c2.wit2.r).toNat = true ∧ pupReady K11c2.wit7 0 7 K11c2.wit2 1 K11c2.wit8 :=
  ⟨by decide +kernel, only128 (by decide) (by decide +kernel), by decide +kernel, by decide +kernel, by decide +kernel, by unfold pupReady; decide +kernel⟩
/-- Puppet 0's column register past the last column. -/
def farCol : State := K11c2.wit7.setPup 0 (fun t => { t with ps := Tbl.set 0 t.ps (0 * 8 + K11c2.wit2.r % 8) 524288 })
theorem witness_PuppetColumnInstructions_rrrl : farCol.up = true ∧
    (∀ k, (decide (k < 128) && farCol.takesPart 0 K11c2.wit8.cue k) = true → bit (cueMask K11c2.wit8.cue) (2 * k + K11c2.wit2.bk) = true →
      524288 ≤ (farCol.ps 0 k K11c2.wit2.r).toNat) ∧
    (farCol.takesPart 0 K11c2.wit8.cue 0 = true ∧ bit (cueMask K11c2.wit8.cue) (2 * 0 + K11c2.wit2.bk) = true) ∧
    pupReady farCol 0 7 K11c2.wit2 1 K11c2.wit8 :=
  ⟨by decide +kernel, guard128 (by decide +kernel), by decide +kernel, by unfold pupReady; decide +kernel⟩

/-! ### Fabric and edges -/
theorem witness_FabricReceive_rlr : K14a.wit0.up = true ∧ K14a.wit0.portIsUp 2 = true ∧ K14a.wit3.op = 8 ∧ K14a.wit3.hdr.seqd = true ∧
    (K14a.wit0.rxSpoilt 2 = true ∨ ((K14a.wit0.rxTurn 2).rxFields 2 K14a.wit3).expects 2 K14a.wit3 = false) := by decide +kernel
/-- What a TIME flit needs to be taken by port 2. -/
abbrev timeTaken (s : State) (f : Flit) : Prop := s.up = true ∧ s.portIsUp 2 = true ∧ f.hdr.seqd = true ∧ ((s.rxTurn 2).rxFields 2 f).expects 2 f = true ∧
  ((s.rxTurn 2).rxFields 2 f).dropCause f = none ∧ s.rxSpoilt 2 = false ∧ f.op = 8
def stamped (s : State) (f : Flit) : State := let r := (s.rxTurn 2).rxFields 2 f
  { r with fab := { r.fab with lastTime := Tbl.set 0 r.fab.lastTime 2 (r.now + 1) } }
theorem witness_FabricReceive_rrrrrrrrrrll : timeTaken K14a.wit0 K14a.wit19 ∧ (stamped K14a.wit0 K14a.wit19).timeSource = some 2 := by decide +kernel
theorem witness_FabricReceive_rrrrrrrrrrlr : timeTaken K14a.wit20 K14a.wit19 ∧ (stamped K14a.wit20 K14a.wit19).timeSource ≠ some 2 := by decide +kernel
/-- An edge flit without payload whose header the sender refuses, and the CRC of its bytes in steps of 63 zeros. -/
def lostFlit : EdgeFlit := { K15.wit11 with payload := [] }
theorem crc_head : (leBytes 8 (edgeHeader lostFlit.hdr)).foldl crcByte 0xFFFFFFFF = 1569508044 := by decide +kernel
theorem crc_zeros : ∀ p ∈ [(1569508044, 49213350), (49213350, 1569338364), (1569338364, 1899983606), (1899983606, 5708435), (5708435, 1152281457),
    (1152281457, 2543755396), (2543755396, 446978858), (446978858, 2176327051), (2176327051, 2124635800), (2124635800, 1014148941),
    (1014148941, 3037916602), (3037916602, 1460209654), (1460209654, 2256809893), (2256809893, 895466276), (895466276, 3093818010),
    (3093818010, 1473016033)], (List.replicate 63 (0 : Byte)).foldl crcByte p.1 = p.2 := by decide +kernel
theorem crc_lost : crc32c (leBytes 8 (edgeHeader lostFlit.hdr) ++ padTo 1008 []) = 1473016033 ^^^ 0xFFFFFFFF := by
  have h : padTo 1008 [] = (List.replicate 16 (List.replicate 63 (0 : Byte))).flatten := by decide +kernel
  have z := crc_zeros
  rw [crc32c, List.foldl_append, crc_head, h]
  generalize List.replicate 63 (0 : Byte) = l at z
  simp only [List.forall_mem_cons] at z
  obtain ⟨z0, z1, z2, z3, z4, z5, z6, z7, z8, z9, z10, z11, z12, z13, z14, z15, -⟩ := z
  simp only [List.replicate, List.flatten_cons, List.flatten_nil, List.foldl_append, List.foldl_nil, z0, z1, z2, z3, z4, z5, z6, z7, z8, z9, z10, z11,
    z12, z13, z14, z15]
/-- The lowest bit of the CRC arrives changed. -/
def crcErr : BitVec 8192 := BitVec.ofNat 8192 (2 ^ 8128)
theorem lost_arrives : edgeArrives lostFlit crcErr = none := by
  have e : edgeFlitBytes lostFlit = leBytes 8 (edgeHeader lostFlit.hdr) ++ padTo 1008 [] ++ leBytes 4 (1473016033 ^^^ 0xFFFFFFFF) ++
      List.replicate 4 0 := by rw [← crc_lost]; rfl
  have b : ((leBytes 8 (edgeHeader lostFlit.hdr) ++ padTo 1008 [] ++ leBytes 4 (1473016033 ^^^ 0xFFFFFFFF) ++ List.replicate 4 (0 : Byte)).zipWith
      (fun a b => a ^^^ b) (leBytes 1024 crcErr.toNat)) = leBytes 8 (edgeHeader lostFlit.hdr) ++ padTo 1008 [] ++
      leBytes 4 (1473016032 ^^^ 0xFFFFFFFF) ++ List.replicate 4 0 := by decide +kernel
  have n : crcErr ≠ 0 := by decide +kernel
  have c : (leBytes 8 (edgeHeader lostFlit.hdr) ++ padTo 1008 [] ++ leBytes 4 (1473016032 ^^^ 0xFFFFFFFF) ++ List.replicate 4 (0 : Byte)).take 1016 =
      leBytes 8 (edgeHeader lostFlit.hdr) ++ padTo 1008 [] := by decide +kernel
  have d : fieldAt (leBytes 8 (edgeHeader lostFlit.hdr) ++ padTo 1008 [] ++ leBytes 4 (1473016032 ^^^ 0xFFFFFFFF) ++ List.replicate 4 (0 : Byte)) 1016 4 ≠
      1473016033 ^^^ 0xFFFFFFFF := by decide +kernel
  rw [edgeArrives, if_neg n, e, b, edgeFlitOf]
  simp only [c, crc_lost, d, and_false, if_false]
theorem witness_EdgeAndMesh_rlrll : K15.wit0.up = true ∧ K15.wit0.sideState 0 = 0 ∧ K15.wit0.sideState (peerSide 0) = 0 ∧
    bits (K15.wit0.getF (R.LNK_S_WIDTH.width 0)) (2 * 1 + 1) (2 * 1) ≠ 0 ∧ (K15.wit0.edgeSent (peerSide 0) 1 lostFlit).isSome = true ∧
    edgeArrives lostFlit crcErr = none :=
  ⟨by decide +kernel, by decide +kernel, by decide +kernel, by decide +kernel, by decide +kernel, lost_arrives⟩

/-! ### The key-value manager -/

namespace KV
def geo : KvGeo := ⟨16, 1, 1, 1, 1, 1, 2, 60, [0], 0, 1, 1000, 20000, 40000, 50000, 60000, 0x100000, 8, 0x800000, 0x10000, 64, 8⟩
def imgK : Image := ⟨[], [⟨9, 0xFF, 0xFF, 0xFF, 0, 0, 0, .kv geo⟩], 0, 0⟩
/-- A pool of one stream in chest 0, tray 3 enabled. -/
def pool : State := { base with lay := { base.lay with force := some imgK }, kv := { base.kv with free := [(0, [0, 1, 2, 3, 4, 5, 6, 7, 8, 9, 10])] } }.setF (R.HQ_T_STATUS.state 3) 1
def record (q opc : Nat) (l : List (Nat × Nat × Nat)) : List Byte :=
  ([(0, 1, opc), (4, 4, q)] ++ l : List (Nat × Nat × Nat)).foldl (fun (d : List Byte) e => d.take e.1 ++ leBytes e.2.1 e.2.2 ++ d.drop (e.1 + e.2.1)) (List.replicate 64 0)
def ent (r : List Byte) : JEntry := ⟨77, 3, 0, r, 1, 0, 0, 0, 0, 0⟩
def o (r : List Byte) : KvOp := ⟨77, r, false⟩
def give (s : State) (r : List Byte) : State := { s with kv := { s.kv with ops := [o r] }, journal := [ent r] }
/-- What CREATE of sequence 5 leaves in memory: three frames, its map and its entry; `grown` after 20 more positions. -/
def made : State := { pool with
  kv := { pool.kv with free := [(0, [3, 4, 5, 6, 7, 8, 9, 10])], sideUsed := [(0, true), (1, true), (2, true)] }
  mem := [(68719542600, 1), (68719542602, 64), (68719542608, 2), (68719542610, 128), (68720525632, 1), (68720525638, 8), (68720525648, 3), (68720525652, 40),
    (68720525656, 64), (68720525657, 1), (68720525658, 1), (68720525660, 16), (68727865344, 1), (68727865348, 64), (68727865349, 1), (68727865352, 1),
    (68727865356, 64), (68727865357, 3), (68727865360, 1), (68727865364, 64), (68727865365, 5)] }
def grown : State := { pool with
  kv := { pool.kv with free := [(0, [4, 5, 6, 7, 8, 9, 10])], sideUsed := [(0, true), (1, true), (2, true), (3, true)] }
  mem := [(818938880, 16), (819004416, 4), (68719542600, 1), (68719542602, 64), (68719542608, 2), (68719542610, 128), (68719542616, 3), (68719542618, 192),
    (68720525632, 1), (68720525638, 8), (68720525640, 20), (68720525644, 20), (68720525648, 4), (68720525652, 33), (68720525656, 64), (68720525657, 1),
    (68720525658, 1), (68720525660, 16), (68727865344, 1), (68727865348, 64), (68727865349, 1), (68727865352, 1), (68727865356, 64), (68727865357, 3),
    (68727865360, 1), (68727865364, 64), (68727865365, 5), (68727865368, 1), (68727865372, 64), (68727865373, 7)] }
def rCreate : List Byte := record 5 1 [(0x0C, 4, 40)]
def rFork : List Byte := record 7 2 [(8, 4, 5), (0x18, 4, 18)]
def rAppend : List Byte := record 5 3 [(8, 4, 20), (0x0C, 4, 33)]
def rVerify : List Byte := record 5 4 [(2, 1, 0xFF)]
def rFree : List Byte := record 5 5 []
def rOther : List Byte := record 5 9 []
def sCreate : State := give pool rCreate
def sFork : State := give grown rFork
def sAppend : State := give made rAppend
def sVerify : State := give made rVerify
def sFree : State := give made rFree
/-- What every clause supposes of the state and its operation, but for what may hold the operation back. -/
abbrev has (s : State) (r : List Byte) : Prop := s.up = true ∧ s.jFind 77 = some (ent r) ∧ (ent r).st = 1 ∧ s.trayState 3 = 1
abbrev next (s : State) (r : List Byte) (n : Nat) : Prop := has s r ∧ s.kvNext 0 = some (o r) ∧ recOk r = true ∧ recOp r = n
abbrev ready (s : State) (r : List Byte) (n : Nat) : Prop := next s r n ∧ s.kvBlocked (o r) = false ∧ s.kvGeo = some geo ∧ s.kvGap geo = true
abbrev done (s : State) (m : Kv SeqEnt) : Bool := match m.run s with | (.ok _, _) => true | _ => false
abbrev refused (s : State) (m : Kv SeqEnt) : Bool := match m.run s with | (.error (.code _), _) => true | _ => false
abbrev faulted (s : State) (m : Kv SeqEnt) : Bool := match m.run s with | (.error (.fault _ _), _) => true | _ => false
/-- Sequence 5 has a pass. -/
def busy (s : State) : State := { s with kv := { s.kv with passes := [⟨1, 5, [], [], []⟩] } }
def waiting (s : State) (r : List Byte) : State := { s with kv := { s.kv with ops := [⟨77, r, true⟩] } }
def gone0 (s : State) : State := { s with boot := { s.boot with upChests := 14 } }
/-- Walker 0 holds a waiting operation that nothing holds back any more. -/
abbrev resumes (s : State) (r : List Byte) : Prop := has s r ∧ s.isSet R.KVM_CTRL.hold = false ∧ s.kvGeo = some geo ∧ s.kvGap geo = true ∧
  s.kv.ops.find? (fun x => walkerOf x == 0 && x.waiting && !s.kvHeld x && !s.kvBlocked x) = some ⟨77, r, true⟩
end KV

theorem witness_KvOperations_ll : KV.next (KV.busy KV.sAppend) KV.rAppend 3 ∧ (KV.busy KV.sAppend).kvBlocked (KV.o KV.rAppend) = true := by decide +kernel
theorem witness_KvOperations_lrl : let s : State := { KV.sCreate with lay := base.lay }
    KV.next s KV.rCreate 1 ∧ s.kvBlocked (KV.o KV.rCreate) = false ∧ s.kvGeo = none := by decide +kernel
theorem witness_KvOperations_lrrl : let s : State := { KV.sCreate with thm := { KV.sCreate.thm with pausing := true } }
    KV.next s KV.rCreate 1 ∧ s.kvBlocked (KV.o KV.rCreate) = false ∧ s.kvGeo = some KV.geo ∧ s.kvGap KV.geo = false := by decide +kernel
theorem witness_KvOperations_lrrrl_create : KV.ready KV.sCreate KV.rCreate 1 ∧ KV.sCreate.chestUsable (seqChest (recSeq KV.rCreate)) = true ∧
    KV.done KV.sCreate (kvCreateM KV.geo KV.rCreate) = true := by decide +kernel
theorem witness_KvOperations_lrrrl_fork : KV.ready KV.sFork KV.rFork 2 ∧ KV.sFork.chestUsable (seqChest (recSeq KV.rFork)) = true ∧
    KV.done KV.sFork (kvForkM KV.geo KV.rFork) = true := by decide +kernel
theorem witness_KvOperations_lrrrl_append : KV.ready KV.sAppend KV.rAppend 3 ∧ KV.sAppend.chestUsable (seqChest (recSeq KV.rAppend)) = true ∧
    KV.done KV.sAppend (kvAppendM KV.geo KV.rAppend) = true := by decide +kernel
theorem witness_KvOperations_lrrrl_verify : KV.ready KV.sVerify KV.rVerify 4 ∧ KV.sVerify.chestUsable (seqChest (recSeq KV.rVerify)) = true := by decide +kernel
theorem witness_KvOperations_lrrrl_free : KV.ready KV.sFree KV.rFree 5 ∧ KV.sFree.chestUsable (seqChest (recSeq KV.rFree)) = true ∧
    KV.done KV.sFree (kvFreeM KV.geo KV.rFree) = true := by decide +kernel
/-- A second CREATE of the sequence is refused; an APPEND whose map cannot be read is a fault. -/
theorem witness_KvOperations_lrrrl_refused : KV.ready (KV.give KV.made KV.rCreate) KV.rCreate 1 ∧
    KV.refused (KV.give KV.made KV.rCreate) (kvCreateM KV.geo KV.rCreate) = true := by decide +kernel
theorem witness_KvOperations_lrrrl_fault : let s : State := { KV.sAppend with bad := [(seqMap KV.geo 5 / 64, 3), (hdrAddr KV.geo 0 / 64, 3)] }
    KV.ready s KV.rAppend 3 ∧ KV.faulted s (kvAppendM KV.geo KV.rAppend) = true := by decide +kernel
theorem witness_KvOperations_lrrrr : KV.ready (KV.gone0 KV.sCreate) KV.rCreate 1 ∧ (KV.gone0 KV.sCreate).chestUsable (seqChest (recSeq KV.rCreate)) = false := by
  decide +kernel
theorem witness_KvOperations_rlrrr : KV.has KV.sAppend KV.rAppend ∧ KV.done KV.sAppend (kvSeq KV.geo (recSeq KV.rAppend)) = true ∧
    KV.done KV.sAppend (kvAppendM KV.geo KV.rAppend) = true := by decide +kernel
theorem witness_KvOperations_rrll : let s := KV.busy (KV.give KV.pool KV.rOther)
    KV.has s KV.rOther ∧ s.kvNext 0 = some (KV.o KV.rOther) ∧ recOk KV.rOther = false ∧ s.kvBlocked (KV.o KV.rOther) = true := by decide +kernel
theorem witness_KvOperations_rrlr : let s := KV.give KV.pool KV.rOther
    KV.has s KV.rOther ∧ s.kvNext 0 = some (KV.o KV.rOther) ∧ recOk KV.rOther = false ∧ s.kvBlocked (KV.o KV.rOther) = false ∧ s.kvGeo = some KV.geo ∧
      s.kvGap KV.geo = true := by decide +kernel
theorem witness_KvOperations_rrrll : let s := KV.waiting KV.sFree KV.rFree
    KV.resumes s KV.rFree ∧ recOk KV.rFree = true ∧ s.chestUsable (seqChest (recSeq KV.rFree)) = true ∧
      KV.done (s.kvWait ⟨77, KV.rFree, true⟩ false) (kvFreeM KV.geo KV.rFree) = true := by decide +kernel
theorem witness_KvOperations_rrrlrl : let s := KV.gone0 (KV.waiting KV.sFree KV.rFree)
    KV.resumes s KV.rFree ∧ recOk KV.rFree = true ∧ s.chestUsable (seqChest (recSeq KV.rFree)) = false := by decide +kernel
theorem witness_KvOperations_rrrlrr : let s := KV.waiting (KV.give KV.pool KV.rOther) KV.rOther
    KV.resumes s KV.rOther ∧ recOk KV.rOther = false := by decide +kernel

/-! ### Witnesses of the other clauses -/

theorem witness_RegisterReadClearsRcFields_ : (K02.wit0.up = true) ∧ (K02.wit0.closedTo K02.wit1 0 = false) ∧ (msixAt K02.wit1 0 = none) ∧
    (pbaAt K02.wit1 0 = none) ∧ (mapOff K02.wit1 0 = some 0) ∧ (logSlotAt 0 = none) ∧ (K02.wit0.rxHidden K02.wit1 0 = false) ∧ (R.isLo 0 = false) ∧
    (4 ≤ 0 → R.isLo (0 - 4) = false) := by decide +kernel
theorem witness_FlagClearRace_ : (K02.wit0.up = true) ∧ (0 < 8) := by decide +kernel
theorem witness_PairLatches_l : (K02.wit0.up = true) ∧ (mapOff K02.wit1 0x210 = some 0x210) ∧ (R.isLo 0x210 = true) := by decide +kernel
theorem witness_PairLatches_rl : (K02.wit0.up = true) ∧ (mapOff K02.wit1 0x214 = some 0x214) ∧ (K02.wit0.closedTo K02.wit1 0x214 = false) ∧
    (msixAt K02.wit1 0x214 = none) ∧ (pbaAt K02.wit1 0x214 = none) ∧ (logSlotAt 0x214 = none) ∧ (K02.wit0.rxHidden K02.wit1 0x214 = false) ∧
    (R.isLo 0x214 = false) ∧ (4 ≤ 0x214) ∧ (R.isLo (0x214 - 4) = true) := by decide +kernel
theorem witness_PairLatches_rrl : (K02.wit0.up = true) ∧ (mapOff K02.wit1 0x210 = some 0x210) ∧ (0x210 = R.GLB_BOOT_FW_SRC_LO) ∧
    (K02.wit0.closedTo K02.wit1 0x210 = false) ∧ (msixAt K02.wit1 0x210 = none) := by decide +kernel
theorem witness_PairLatches_rrr : (K02.wit0.up = true) ∧ (mapOff K02.wit1 0x214 = some 0x214) ∧ (0x214 = R.GLB_BOOT_FW_SRC_HI) := by decide +kernel
theorem witness_BadBar0AccessIsLogged_ : (K02.wit0.up = true) := by decide +kernel
theorem witness_WholeDeviceReset_l : (K03.wit0.up = true) := by decide +kernel
theorem witness_WholeDeviceReset_rl : (K03.wit0.up = true) := by decide +kernel
theorem witness_WholeDeviceReset_rr : (K03.wit1.pins.perstN = false) ∧ (K03.wit1.pins.vaon = true) ∧ (K03.wit1.pins.vio = true) ∧
    (K03.wit1.pins.vin = true) := by decide +kernel
theorem witness_PowerRails_l : ((K03.wit2.pins.vaon && K03.wit2.pins.vio && K03.wit2.pins.vin) = false) := by decide +kernel
theorem witness_BrownOutKeepsFloors_ : (K03.wit0.up = true) := by decide +kernel
theorem witness_BringUpSteps_l : (K03.wit3.up = true) ∧ (bits 2 2 0 = 2) ∧ (K03.wit3.stepMayStart 2 = true) ∧
    (K03.wit3.stepFetch R.GLB_BOOT_FW_SRC_LO R.GLB_BOOT_FW_LEN K03.wit4 = none) := by decide +kernel
theorem witness_BringUpSteps_rl : (K03.wit3.up = true) ∧ (bits 2 2 0 = 2) ∧ (K03.wit3.stepMayStart 2 = true) ∧
    (K03.wit3.stepFetch R.GLB_BOOT_FW_SRC_LO R.GLB_BOOT_FW_LEN K03.wit5 = some K03.wit6) := by decide +kernel
theorem witness_BringUpSteps_rrl : (K03.wit7.up = true) ∧ (bits 3 2 0 = 3) ∧ (K03.wit7.stepMayStart 3 = true) ∧
    (K03.wit7.ccRuns 0 = true) := by decide +kernel
theorem witness_BringUpSteps_rrrl : (K03.wit8.up = true) ∧ (bits 0x94 2 0 = 4) ∧ (K03.wit8.stepMayStart 4 = true) ∧
    (K03.wit8.ccRuns 0 = true) := by decide +kernel
theorem witness_BringUpSteps_rrrrl : (K03.wit0.up = true) ∧ (bits 0x06 2 0 = 6) ∧ (K03.wit0.stepMayStart 6 = true) ∧ (K03.wit0.ccRuns 0 = true) ∧
    ((if bits (K03.wit0.getW R.GLB_BOOT_LIC_LEN) 17 0 = 0 then some [] else K03.wit0.stepFetch R.GLB_BOOT_LIC_SRC_LO R.GLB_BOOT_LIC_LEN K03.wit5) = some K03.wit6) := by decide +kernel
theorem witness_BringUpSteps_rrrrr : (K03.wit9.up = true) ∧ (2 < 7) ∧ (K03.wit9.stepState 2 = 1) ∧ (∀ (j : Nat), j < 2 →
    K03.wit9.stepState j ≠ 1) := by decide +kernel
theorem witness_BringUpOrderAndCopy_l : (K03.wit0.up = true) ∧ (2 ≤ bits 2 2 0) ∧ (bits 2 2 0 ≤ 6) ∧
    (K03.wit0.stepMayStart (bits 2 2 0) = false) := by decide +kernel
theorem witness_BringUpOrderAndCopy_r : (K03.wit10.up = true) ∧ (bits 0x25 2 0 = 5) ∧ (K03.wit10.stepMayStart 5 = true) ∧
    (K03.wit10.ccRuns 0 = true) := by decide +kernel
theorem witness_ResetRequests_l : (K03.wit11.up = true) ∧ (bit K03.wit12 8 = true) ∧ (bits K03.wit12 1 0 = 0) ∧
    ((0, K03.wit13) ∈ [(0, Instr.resetCore K03.wit12), (1, Instr.resetCluster K03.wit12), (2, Instr.resetPartition K03.wit12),
    (3, Instr.resetLevelRefused K03.wit12)]) ∧ (K03.wit11.resetRefusal 0 (bits K03.wit12 7 4) ≠ 0) := by decide +kernel
theorem witness_ResetRequests_rl : (K03.wit0.up = true) ∧ (bit K03.wit14 8 = true) ∧ (bits K03.wit14 1 0 = 1) ∧
    ((1, K03.wit15) ∈ [(0, Instr.resetCore K03.wit14), (1, Instr.resetCluster K03.wit14), (2, Instr.resetPartition K03.wit14),
    (3, Instr.resetLevelRefused K03.wit14)]) ∧ (K03.wit0.resetRefusal 1 (bits K03.wit14 7 4) = 0) ∧
    (K03.wit0.chestUp (bits K03.wit14 3 2) = true) := by decide +kernel
theorem witness_HardwareResets_l : (K03.wit0.up = true) ∧ (0 = 0 ∧ 0 < 9 ∨ 0 = 2) ∧ (2 < 4) ∧ (K03.wit0.chestUp 2 = true) := by decide +kernel
theorem witness_HardwareResets_rl : (K03.wit16.up = true) ∧ (K03.wit17 ∈ K03.wit16.rst.running) ∧ (K03.wit17.level < 3) ∧ (K03.wit17.chest < 4) ∧
    (K03.wit17.target < 9) := by decide +kernel
theorem witness_HardwareResets_rrl : (K03.wit18.up = true) ∧ (K03.wit18.rst.running = [K03.wit17]) ∧ (K03.wit17.level < 2) ∧ (K03.wit17.chest < 4) ∧
    (K03.wit17.target < 9) ∧ (K03.wit18.journal = []) ∧ (K03.wit18.rst.takeover = []) ∧ (K03.wit18.rst.coreTimes = []) ∧
    (K03.wit18.lay.force = none) := by decide +kernel
theorem witness_HardwareResets_rrrl : (K03.wit19.up = true) ∧ (0 < 36) ∧ (K03.wit19.chestUp (0 / 9) = true) ∧
    (K03.wit19.ccRuns (1 + 0 / 9) = true) := by decide +kernel
theorem witness_HardwareResets_rrrr : (K03.wit0.up = true) ∧ (0 < 4) ∧ (K03.wit0.floorOk 0 = true) := by decide +kernel
theorem witness_ControlCoreUpkeep_l : (K04.wit0.up = true) ∧ (0 < 17) ∧ (K04.wit0.ccRuns 0 = true) := by decide +kernel
theorem witness_ControlCoreUpkeep_rl : (K04.wit0.up = true) ∧ (0 < 17) ∧ (K04.wit0.ccRuns 0 = true) := by decide +kernel
theorem witness_ControlCoreUpkeep_rrl : (K04.wit0.up = true) ∧ (0 < 17) ∧ (K04.wit0.ccRuns 0 = true) ∧
    ((K04.wit0.cc 0).kicked + K04.wit0.watchdogNs 0 ≤ K04.wit0.now) := by decide +kernel
theorem witness_ControlCoreUpkeep_rrrl : (K04.wit0.up = true) ∧ (0 < 17) ∧ (K04.wit0.ccRuns 0 = true) ∧
    (K04.wit0.ccRuns 0 = true) := by decide +kernel
theorem witness_ControlCoreStarts_ : (K04.wit2.up = true) ∧ (3 < 17) ∧ (K04.wit2.boot.fwHome = some 1) ∧ (K04.wit2.ccState 3 = 3) ∧
    (K04.wit2.chestInReset 1 = false) ∧ ((K04.wit2.rst.running.any fun r => r.hasCc 3) = false) := by decide +kernel
theorem witness_PigeonholeSendAndTake_l : (K04.wit3.up = true) ∧ (33 < 64) ∧ (K04.wit4.endpoint = some 2) ∧ (K04.wit3.holeOpen 33 = true) ∧
    (K04.wit3.holeValid 33 = true) ∧ (K04.wit3.holeSender 33 = 2) ∧ (K04.wit3.receiverInReset 33 = false) ∧
    (K04.wit3.holeFull 33 = false) := by decide +kernel
theorem witness_PigeonholeSendAndTake_rl : (K04.wit5.up = true) ∧ (33 < 64) ∧ (K04.wit4.endpoint = some 2) ∧ (K04.wit5.holeOpen 33 = true) ∧
    (K04.wit5.holeValid 33 = true) ∧ (K04.wit5.holeSender 33 = 2) ∧ (K04.wit5.receiverInReset 33 = false) ∧
    (K04.wit5.holeFull 33 = true) := by decide +kernel
theorem witness_PigeonholeSendAndTake_rrl : (K04.wit3.up = true) ∧ (33 < 64) ∧ (K04.wit4.endpoint = some 2) ∧ (K04.wit3.holeOpen 33 = true) ∧
    (K04.wit3.holeValid 33 = true) ∧ (K04.wit3.holeSender 33 = 2) ∧ (K04.wit3.receiverInReset 33 = false) ∧ (K04.wit3.holeReceiver 33 ≠ 1) ∧
    (K04.wit6.endpoint = some (K04.wit3.holeReceiver 33)) := by decide +kernel
theorem witness_PigeonholeSendAndTake_rrrl : (K04.wit7.up = true) ∧ (2 < 64) ∧ (K04.wit8.endpoint = some 6) ∧ (K04.wit7.holeOpen 2 = true) ∧
    (K04.wit7.holeValid 2 = true) ∧ (K04.wit7.holeReceiver 2 = 6) := by decide +kernel
theorem witness_PigeonholeSendAndTake_rrrr : (K04.wit9.up = true) ∧ (0 < 64) ∧ (K04.wit6.endpoint = some 0) ∧ (K04.wit9.holeOpen 0 = true) ∧
    (K04.wit9.holeValid 0 = false) := by decide +kernel
theorem witness_BindingTable_l : (K04.wit9.up = true) ∧ (0 < 64) ∧ (K04.wit4 = Master.cc 0) ∧ (K04.wit9.isSet R.MBX_LOCK.locked = false) ∧
    (K04.wit9.bindOpen 0 = true) := by decide +kernel
theorem witness_BindingTable_rl : (K04.wit9.up = true) ∧ (0 < 64) ∧
    (K04.wit6 ≠ Master.cc 0 ∨ K04.wit9.isSet R.MBX_LOCK.locked = true ∨ K04.wit9.bindOpen 0 = false) := by decide +kernel
theorem witness_BindingTable_rrl : (K04.wit9.up = true) ∧ (0 < 64) ∧ (K04.wit4 = Master.cc 0) ∧ (bit 1 0 = true) := by decide +kernel
theorem witness_BindingTable_rrr : (K04.wit9.up = true) ∧ (0 < 64) ∧ (K04.wit6 ≠ Master.cc 0) := by decide +kernel
theorem witness_BmcMessages_l : (K04.wit3.up = true) ∧ (K04.wit10.headD 0 = 1) ∧ (BitVec.toNat (K04.wit10.getD 1 0) = 2) ∧
    (K04.wit3.holeValid 2 = true) ∧ (K04.wit3.holeSender 2 = 1) ∧ (K04.wit3.receiverInReset 2 = false) ∧ (K04.wit3.holeFull 2 = false) ∧
    (K04.wit3.holeOpen 2 = true) := by decide +kernel
theorem witness_BmcMessages_rl : (K04.wit11.up = true) ∧ (K04.wit10.headD 0 = 1) ∧
    (K04.wit11.holeValid (BitVec.toNat (K04.wit10.getD 1 0)) = false) ∧ (K04.wit11.bmcRoute = true) ∧
    (64 ≤ BitVec.toNat (K04.wit10.getD 1 0) ∨ K04.wit11.holeOpen (BitVec.toNat (K04.wit10.getD 1 0)) = true) := by decide +kernel
theorem witness_BmcMessages_rrl : (K04.wit9.up = true) ∧ (K04.wit12.headD 0 ≠ 1) := by decide +kernel
theorem witness_BmcMessages_rrr : (K04.wit9.up = true) := by decide +kernel
theorem witness_TrayRegisters_l : (K05.wit0.up = true) ∧ (0 < 1088) ∧ (bit 71 0 = true) ∧ (K05.wit0.trayState 0 = 0) ∧ (K05.wit0.stepState 6 = 2) ∧
    (4 ≤ bits 71 8 4) ∧ (bits 71 8 4 ≤ 16) := by decide +kernel
theorem witness_TrayRegisters_rl : (K05.wit1.up = true) ∧ (3 < 1088) ∧ (bit 0 0 = false) ∧ (K05.wit1.trayState 3 = 1) ∧
    ((K05.wit1.journal.any fun e => e.tray == 3) = false) := by decide +kernel
theorem witness_TrayRegisters_rrl : (K05.wit1.up = true) ∧ (3 < 1088) ∧ (bit 0 0 = false) ∧ (K05.wit1.trayState 3 ≠ 0) ∧
    (K05.wit1.trayState 3 ≠ 4) := by decide +kernel
theorem witness_TrayRegisters_rrrl : (K05.wit1.up = true) ∧ (3 < 1088) ∧ (K05.wit1.trayState 3 = 1) ∧
    (countBehind 6 (K05.wit1.getW (R.HQ_T_DOORBELL 3)) = false) ∧
    (countDist 6 (K05.wit1.getW (R.HQ_T_CQ_HEAD 3)) ≤ 2 ^ (K05.wit1.tray 3).n) := by decide +kernel
theorem witness_TrayRegisters_rrrrl : (K05.wit1.up = true) ∧ (3 < 1088) ∧ (K05.wit1.trayState 3 = 1) ∧
    (countBehind 0 (K05.wit1.getW (R.HQ_T_DOORBELL 3)) = true ∨ 2 ^ (K05.wit1.tray 3).n < countDist 0 (K05.wit1.getW (R.HQ_T_CQ_HEAD 3))) := by decide +kernel
theorem witness_TrayRegisters_rrrrr : (K05.wit1.up = true) ∧ (3 < 1088) ∧ (K05.wit1.trayState 3 = 1 ∨ K05.wit1.trayState 3 = 3) := by decide +kernel
theorem witness_FunctionLevelReset_ : (K05.wit0.up = true) ∧ (0 < 17) := by decide +kernel
theorem witness_TrayFetchAndAccept_l : (K05.wit1.up = true) ∧ (3 < 1088) ∧ (K05.wit1.trayNext = some 3) ∧ (K05.wit1.fetchPaused = false) ∧
    (K05.wit1.park.off = false) ∧ (K05.wit2.length ≤ 32) ∧
    ((K05.wit1.tray 3).fetched.length + K05.wit2.length ≤ countDist (K05.wit1.getW (R.HQ_T_DOORBELL 3)) (K05.wit1.getW (R.HQ_T_ACCEPT 3))) := by decide +kernel
theorem witness_TrayFetchAndAccept_rl : (K05.wit3.up = true) ∧ (70 < 1088) ∧ ((K05.wit3.tray 70).fetched = K05.wit4 :: K05.wit5) ∧
    (K05.wit3.journal.length < journalSize) ∧
    (countDist (K05.wit3.getW (R.HQ_T_ACCEPT 70)) (K05.wit3.getW (R.HQ_T_CQ_HEAD 70)) < K05.wit3.maxOut 70) := by decide +kernel
theorem witness_TrayFetchAndAccept_rr : (K05.wit1.up = true) ∧ (3 < 1088) ∧ (K05.wit1.trayNext = some 3) ∧ (K05.wit1.fetchPaused = false) ∧
    (K05.wit1.park.off = false) ∧ ((K05.wit6 ++ none :: K05.wit6).length ≤ 32) ∧
    ((K05.wit1.tray 3).fetched.length + (K05.wit6 ++ none :: K05.wit6).length ≤ countDist (K05.wit1.getW (R.HQ_T_DOORBELL 3)) (K05.wit1.getW (R.HQ_T_ACCEPT 3))) := by decide +kernel
theorem witness_EntriesRun_l : (K05.wit7.up = true) ∧ (K05.wit7.jFind K05.wit8.jid = some K05.wit8) ∧ (K05.wit8.st = 0) ∧ (K05.wit7.paused = false) ∧
    (((List.takeWhile (fun x => x.jid != K05.wit8.jid) K05.wit7.journal).any fun x => holdsBack K05.wit8 x) = false) ∧ (entKind K05.wit8.bytes = 1) ∧
    (K05.wit7.workMay K05.wit8.bytes = true) ∧ (entSeqPresent K05.wit8.bytes = false) := by decide +kernel
theorem witness_EntriesRun_rl : (K05.wit7.up = true) ∧ (K05.wit7.jFind K05.wit8.jid = some K05.wit8) ∧ (K05.wit8.st = 0) ∧
    (K05.wit7.paused = false) ∧ (((List.takeWhile (fun x => x.jid != K05.wit8.jid) K05.wit7.journal).any fun x => holdsBack K05.wit8 x) = false) ∧
    (entKind K05.wit8.bytes = 1) ∧ (K05.wit7.workMay K05.wit8.bytes = true) ∧ (K05.wit7.trayState K05.wit8.tray ≠ 4) := by decide +kernel
theorem witness_EntriesRun_rrl : (K05.wit9.up = true) ∧ (K05.wit9.jFind K05.wit10.jid = some K05.wit10) ∧ (K05.wit10.st = 0) ∧
    (K05.wit9.paused = false) ∧ (((List.takeWhile (fun x => x.jid != K05.wit10.jid) K05.wit9.journal).any fun x => holdsBack K05.wit10 x) = false) ∧
    (entKind K05.wit10.bytes ≠ 1) := by decide +kernel
theorem witness_EntriesRun_rrr : (K05.wit11.up = true) ∧ (K05.wit11.jFind K05.wit12.jid = some K05.wit12) ∧
    ((K05.wit11.core 1).work = some K05.wit13) ∧ (K05.wit13.jid = K05.wit12.jid) ∧ (K05.wit13.next = none) ∧ ((K05.wit11.core 1).ops = []) ∧
    ((K05.wit11.core 1).finish = none) ∧ (K05.wit12.st ≠ 2) ∧ (K05.wit11.trayState K05.wit12.tray ≠ 4) := by decide +kernel
theorem witness_CopiesMoveBytes_l : (K05.wit9.up = true) ∧ (K05.wit9.jFind K05.wit14.jid = some K05.wit14) ∧ (K05.wit14.st = 1) ∧
    (K05.wit9.trayState K05.wit14.tray ≠ 4) ∧ (entLen K05.wit14.bytes = K05.wit14.detail + K05.wit15.length) ∧ (K05.wit15 ≠ []) ∧
    (entDevAddr K05.wit14.bytes + entLen K05.wit14.bytes ≤ 2 ^ 39) ∧ (entKind K05.wit14.bytes = 3) ∧
    (∀ (p : Nat × Nat), p ∈ sectorParts (entDevAddr K05.wit14.bytes + K05.wit14.detail) K05.wit15.length →
    clearWay K05.wit9 (MemReq.mk (ReqSrc.master 25) 25 true p.fst p.snd (some (List.take p.snd (List.drop (p.fst - (entDevAddr K05.wit14.bytes + K05.wit14.detail)) K05.wit15))) [] none)) := by unfold clearWay; decide +kernel
theorem witness_CopiesMoveBytes_rl : (K05.wit9.up = true) ∧ (K05.wit9.jFind K05.wit14.jid = some K05.wit14) ∧ (K05.wit14.st = 1) ∧
    (K05.wit9.trayState K05.wit14.tray ≠ 4) ∧ (entLen K05.wit14.bytes = K05.wit14.detail + K05.wit15.length) ∧ (K05.wit15 ≠ []) ∧
    (entDevAddr K05.wit14.bytes + entLen K05.wit14.bytes ≤ 2 ^ 39) ∧ (entKind K05.wit14.bytes = 3) := by decide +kernel
theorem witness_CopiesMoveBytes_rr : (K05.wit9.up = true) ∧ (K05.wit9.jFind K05.wit16.jid = some K05.wit16) ∧ (K05.wit16.st = 1) ∧
    (K05.wit9.trayState K05.wit16.tray ≠ 4) ∧ (entLen K05.wit16.bytes = K05.wit16.detail + K05.wit17.length) ∧ (K05.wit17 ≠ []) ∧
    (entDevAddr K05.wit16.bytes + entLen K05.wit16.bytes ≤ 2 ^ 39) ∧ (entKind K05.wit16.bytes = 4) ∧
    (∀ (p : Nat × Nat), p ∈ sectorParts (entDevAddr K05.wit16.bytes + K05.wit16.detail) K05.wit17.length →
    clearWay K05.wit9 (MemReq.mk (ReqSrc.master 25) 25 true p.fst p.snd none [] none)) := by unfold clearWay; decide +kernel
theorem witness_CompletionRecords_ : (K05.wit9.up = true) ∧ (K05.wit9.trayState 3 = 1 ∨ K05.wit9.trayState 3 = 3) ∧
    (List.find? (fun x => x.tray == 3 && x.count == K05.wit9.getW (R.HQ_T_DONE 3) && x.st == 2) K05.wit9.journal = some K05.wit18) := by decide +kernel
theorem witness_Bar2ReadWrite_l : (K06.wit0.up = true) ∧ (K06.wit0.bar2Open = true) ∧
    (K06.wit0.refusal (MemReq.mk (ReqSrc.master 25) 25 true 3 K06.wit1.length (some K06.wit1) K06.wit2 none) = none) ∧
    (reqInWindow (MemReq.mk (ReqSrc.master 25) 25 true 3 K06.wit1.length (some K06.wit1) K06.wit2 none) = false) ∧ (K06.wit0.paused = false) ∧
    (K06.wit0.drawerSleeps (MemReq.mk (ReqSrc.master 25) 25 true 3 K06.wit1.length (some K06.wit1) K06.wit2 none) = false) ∧
    (K06.wit0.cueHolds (MemReq.mk (ReqSrc.master 25) 25 true 3 K06.wit1.length (some K06.wit1) K06.wit2 none) = none) ∧
    (K06.wit0.anyCached (MemReq.mk (ReqSrc.master 25) 25 true 3 K06.wit1.length (some K06.wit1) K06.wit2 none).addr (MemReq.mk (ReqSrc.master 25) 25 true 3 K06.wit1.length (some K06.wit1) K06.wit2 none).len = false) ∧
    (∀ (x : Nat), x ∈ sectorsOf (MemReq.mk (ReqSrc.master 25) 25 true 3 K06.wit1.length (some K06.wit1) K06.wit2 none).addr (MemReq.mk (ReqSrc.master 25) 25 true 3 K06.wit1.length (some K06.wit1) K06.wit2 none).len →
    (K06.wit0.locate x).isSome = true ∧ K06.wit0.sectorErr x = 0) := by decide +kernel
theorem witness_Bar2ReadWrite_rl : (K06.wit0.up = true) ∧ (K06.wit0.bar2Open = true) ∧
    (K06.wit0.refusal (MemReq.mk (ReqSrc.master 25) 25 true 3 3 none [] none) = none) ∧
    (reqInWindow (MemReq.mk (ReqSrc.master 25) 25 true 3 3 none [] none) = false) ∧ (K06.wit0.paused = false) ∧
    (K06.wit0.drawerSleeps (MemReq.mk (ReqSrc.master 25) 25 true 3 3 none [] none) = false) ∧
    (K06.wit0.cueHolds (MemReq.mk (ReqSrc.master 25) 25 true 3 3 none [] none) = none) ∧
    (K06.wit0.anyCached (MemReq.mk (ReqSrc.master 25) 25 true 3 3 none [] none).addr (MemReq.mk (ReqSrc.master 25) 25 true 3 3 none [] none).len = false) ∧
    (∀ (x : Nat), x ∈ sectorsOf (MemReq.mk (ReqSrc.master 25) 25 true 3 3 none [] none).addr (MemReq.mk (ReqSrc.master 25) 25 true 3 3 none [] none).len →
    (K06.wit0.locate x).isSome = true ∧ K06.wit0.sectorErr x = 0) := by decide +kernel
theorem witness_Bar2ReadWrite_rrl : (K06.wit0.up = true) ∧ (K06.wit0.bar2Open = true) ∧
    (K06.wit0.refusal (MemReq.mk (ReqSrc.master 25) 25 true 3 3 none [] none) = none) ∧
    (reqInWindow (MemReq.mk (ReqSrc.master 25) 25 true 3 3 none [] none) = false) ∧ (K06.wit0.paused = false) ∧
    (K06.wit0.drawerSleeps (MemReq.mk (ReqSrc.master 25) 25 true 3 3 none [] none) = false) ∧
    (K06.wit0.cueHolds (MemReq.mk (ReqSrc.master 25) 25 true 3 3 none [] none) = none) ∧
    ((MemReq.mk (ReqSrc.master 25) 25 true 3 3 none [] none).addr % 512 + (MemReq.mk (ReqSrc.master 25) 25 true 3 3 none [] none).len ≤ 512) ∧
    (∀ (x : Nat), x ∈ sectorsOf (MemReq.mk (ReqSrc.master 25) 25 true 3 3 none [] none).addr (MemReq.mk (ReqSrc.master 25) 25 true 3 3 none [] none).len →
    (K06.wit0.locate x).isSome = true ∧ K06.wit0.sectorErr x ≤ 1) := by decide +kernel
theorem witness_Bar2ReadWrite_rrrl : (K06.wit0.up = true) ∧ (K06.wit0.bar2Open = true) ∧
    (K06.wit0.refusal (MemReq.mk (ReqSrc.master 25) 25 true 3 K06.wit1.length (some K06.wit1) K06.wit2 none) = none) ∧
    (reqInWindow (MemReq.mk (ReqSrc.master 25) 25 true 3 K06.wit1.length (some K06.wit1) K06.wit2 none) = false) ∧ (K06.wit0.paused = false) ∧
    (K06.wit0.drawerSleeps (MemReq.mk (ReqSrc.master 25) 25 true 3 K06.wit1.length (some K06.wit1) K06.wit2 none) = false) ∧
    (K06.wit0.cueHolds (MemReq.mk (ReqSrc.master 25) 25 true 3 K06.wit1.length (some K06.wit1) K06.wit2 none) = none) ∧
    ((MemReq.mk (ReqSrc.master 25) 25 true 3 K06.wit1.length (some K06.wit1) K06.wit2 none).addr % 512 + (MemReq.mk (ReqSrc.master 25) 25 true 3 K06.wit1.length (some K06.wit1) K06.wit2 none).len ≤ 512) ∧
    (∀ (x : Nat), x ∈ sectorsOf (MemReq.mk (ReqSrc.master 25) 25 true 3 K06.wit1.length (some K06.wit1) K06.wit2 none).addr (MemReq.mk (ReqSrc.master 25) 25 true 3 K06.wit1.length (some K06.wit1) K06.wit2 none).len →
    (K06.wit0.locate x).isSome = true ∧ K06.wit0.sectorErr x ≤ 1) := by decide +kernel
theorem witness_Bar2ReadWrite_rrrrl : (K06.wit3.up = true) ∧ (K06.wit3.bar2Open = false) := by decide +kernel
theorem witness_Bar2ReadWrite_rrrrrl : (K06.wit3.up = true) ∧ (K06.wit3.bar2Open = false) := by decide +kernel
theorem witness_Bar2ReadWrite_rrrrrr : (K06.wit0.up = true) := by decide +kernel
theorem witness_MemoryStaysCanonical_r : (K06.wit0.up = true) ∧ (Memory.wf K06.wit0.mem) := by decide +kernel
theorem witness_MemoryReadWrite_l : (K06.wit0.up = true) ∧ (K06.wit4.src = ReqSrc.master 3) ∧ (ccOfMid 3 = none) ∧ (K06.wit4.host = false) ∧
    (K06.wit4.atom = none) ∧ (K06.wit4.write = none) ∧ (K06.wit0.refusal K06.wit4 = none) ∧ (reqInWindow K06.wit4 = false) ∧
    (K06.wit0.paused = false) ∧ (K06.wit0.drawerSleeps K06.wit4 = false) ∧ (K06.wit0.cueHolds K06.wit4 = none) ∧
    (K06.wit0.anyCached K06.wit4.addr K06.wit4.len = false) ∧ (∀ (x : Nat), x ∈ sectorsOf K06.wit4.addr K06.wit4.len →
    (K06.wit0.locate x).isSome = true ∧ K06.wit0.sectorErr x = 0) := by decide +kernel
theorem witness_MemoryReadWrite_rl : (K06.wit0.up = true) ∧ (K06.wit4.src = ReqSrc.master 3) ∧ (ccOfMid 3 = none) ∧ (K06.wit4.host = false) ∧
    (K06.wit4.atom = none) ∧ (K06.wit4.write = none) ∧ ((K06.wit0.disturb K06.wit5).refusal K06.wit4 = none) ∧ (reqInWindow K06.wit4 = false) ∧
    ((K06.wit0.disturb K06.wit5).paused = false) ∧ ((K06.wit0.disturb K06.wit5).drawerSleeps K06.wit4 = false) ∧
    ((K06.wit0.disturb K06.wit5).cueHolds K06.wit4 = none) ∧ (K06.wit4.addr % 512 + K06.wit4.len ≤ 512) ∧
    (∀ (x : Nat), x ∈ sectorsOf K06.wit4.addr K06.wit4.len → ((K06.wit0.disturb K06.wit5).locate x).isSome = true ∧
    (K06.wit0.disturb K06.wit5).sectorErr x ≤ 1) := by decide +kernel
theorem witness_MemoryReadWrite_rrrl : (K06.wit0.up = true) ∧ (K06.wit6.src = ReqSrc.master 3) ∧ (ccOfMid 3 = none) ∧ (K06.wit6.host = false) ∧
    (K06.wit6.atom = none) ∧ (K06.wit6.write = some K06.wit1) ∧ (K06.wit1.length = K06.wit6.len) ∧ (K06.wit0.refusal K06.wit6 = none) ∧
    (reqInWindow K06.wit6 = false) ∧ (K06.wit0.paused = false) ∧ (K06.wit0.drawerSleeps K06.wit6 = false) ∧ (K06.wit0.cueHolds K06.wit6 = none) ∧
    (K06.wit0.anyCached K06.wit6.addr K06.wit6.len = false) ∧ (∀ (x : Nat), x ∈ sectorsOf K06.wit6.addr K06.wit6.len →
    (K06.wit0.locate x).isSome = true ∧ K06.wit0.sectorErr x = 0) := by decide +kernel
theorem witness_MemoryReadWrite_rrrrl : (K06.wit7.up = true) ∧ (K06.wit8.src = ReqSrc.master 3) ∧ (ccOfMid 3 = none) ∧ (K06.wit8.host = false) ∧
    (K06.wit8.atom = none) ∧ (K06.wit8.write = none) ∧ (K06.wit8.addr % 64 = 0) ∧ (K06.wit8.len = 64) ∧ (K06.wit7.refusal K06.wit8 = none) ∧
    (reqInWindow K06.wit8 = false) ∧ (K06.wit7.paused = false) ∧ (K06.wit7.drawerSleeps K06.wit8 = false) ∧ (K06.wit7.cueHolds K06.wit8 = none) ∧
    (K06.wit7.cached K06.wit8.addr = false) ∧ (K06.wit7.locate K06.wit8.addr = some K06.wit9) ∧ (K06.wit9.u < 36) ∧
    ((K06.wit7.slice K06.wit9.u).writeBacks.contains K06.wit8.addr = false) ∧
    (popcount 36 (Tbl.get 0 K06.wit7.bad (K06.wit8.addr / 64) ||| 1).toNat = 1) ∧
    (K06.wit7.getF (R.SLC_ROW.row_thresh K06.wit9.u) = 0) := by decide +kernel
theorem witness_MemoryReadWrite_rrrrr : (K06.wit0.up = true) ∧ (K06.wit8.src = ReqSrc.master 3) ∧ (ccOfMid 3 = none) ∧ (K06.wit8.host = false) ∧
    (K06.wit8.atom = none) ∧ (K06.wit8.write = none) ∧ (K06.wit8.addr % 64 = 0) ∧ (K06.wit8.len = 64) ∧ (K06.wit0.refusal K06.wit8 = none) ∧
    (reqInWindow K06.wit8 = false) ∧ (K06.wit0.paused = false) ∧ (K06.wit0.drawerSleeps K06.wit8 = false) ∧ (K06.wit0.cueHolds K06.wit8 = none) ∧
    (K06.wit0.cached K06.wit8.addr = false) ∧ (K06.wit0.locate K06.wit8.addr = some K06.wit9) ∧ (K06.wit9.u < 36) ∧
    ((K06.wit0.slice K06.wit9.u).writeBacks.contains K06.wit8.addr = false) ∧
    (popcount 36 (Tbl.get 0 K06.wit0.bad (K06.wit8.addr / 64) ||| 3).toNat = 2) := by decide +kernel
theorem witness_ErrorLogAndEnables_l : (K07s.wit0.up = true) ∧ (0 < 4) ∧ (K07s.wit0.pathTo0 0 = true) := by decide +kernel
theorem witness_ErrorLogAndEnables_rrl : (K07s.wit0.up = true) := by decide +kernel
theorem witness_ErrorLogAndEnables_rrr : (K07s.wit0.up = true) := by decide +kernel
theorem witness_MemoryUpkeep_rll : (K07s.wit0.up = true) ∧ (K07s.wit0.drawersUp 0 = true) ∧ (0 < 256) ∧ (0 < 4096) ∧
    ((working (K07s.wit0.slice 0)).contains 0 = true) ∧
    (K07s.wit0.bankKept 0 (0 * 32 + bankOf (Tbl.get 0 (K07s.wit0.slice 0).scrub 0 % 2 ^ 21 * 512)) = false) := by decide +kernel
theorem witness_MemoryUpkeep_rrl : (K07s.wit0.up = true) ∧ (K07s.wit0.drawersUp 0 = true) ∧ (0 < 256) ∧ (0 < 4096) := by decide +kernel
theorem witness_MemoryUpkeep_rrrl : (K07s.wit0.up = true) ∧ (K07s.wit0.drawersUp 0 = true) ∧ (0 < 256) ∧ (0 < 4096) ∧
    (K07s.wit0.bankKept 0 0 = false) := by decide +kernel
theorem witness_MemoryUpkeep_rrrrl : (K07s.wit2.up = true) ∧ (K07s.wit2.drawersUp 0 = true) ∧ (2 < 256) ∧ (7 < 4096) ∧
    ((K07s.wit2.slice 0).badRows.contains (2 * 4096 + 7) = true) ∧ (K07s.wit2.bankKept 0 2 = false) ∧
    (K07s.wit2.sparesLeft 0 2 ≠ 0) := by decide +kernel
theorem witness_MemoryUpkeep_rrrrr : (K07s.wit2.up = true) ∧ (K07s.wit2.drawersUp 0 = true) ∧ (3 < 256) ∧ (7 < 4096) ∧
    ((K07s.wit2.slice 0).badRows.contains (3 * 4096 + 7) = true) ∧ (K07s.wit2.bankKept 0 3 = false) ∧
    (K07s.wit2.sparesLeft 0 3 = 0) := by decide +kernel
theorem witness_MemoryUpkeep_l : (K07u.wit0.up = true) ∧ (K07u.wit0.drawersUp 0 = true) ∧ (0 < 256) ∧ (0 < 4096) ∧
    ((K07u.wit0.slice 0).writeBacks = 64 :: K07u.wit1) ∧ (K07u.wit0.locate 64 = some K07u.wit2) ∧
    (K07u.wit0.bankKept K07u.wit2.u (locBank K07u.wit2) = false) := by decide +kernel
theorem witness_ChannelsOutOfService_l : (K07s.wit0.up = true) ∧ (K07s.wit0.drawersUp 0 = true) ∧ (2 < 8) ∧ (2 = 0 →
    K07s.wit0.getF (R.SLC_CH_CTRL.ce_thresh 0) ≠ 0 ∧ K07s.wit0.getF (R.SLC_CH_CTRL.ce_thresh 0) < Tbl.get 0 (K07s.wit0.slice 0).errs 2 ∧
    3 ≤ popcount 32 (Tbl.get 0 (K07s.wit0.slice 0).errBanks 2)) ∧ (2 = 2 → bit 0x102 8 = true ∧ bits 0x102 3 0 = 2) ∧
    (bit (K07s.wit0.slice 0).cut 2 = false) ∧ (K07s.wit0.sliceState 0 ≠ 3) ∧ (((K07s.wit0.slice 0).toCut.any fun p => p.fst == 2) = false) ∧
    (Option.any (fun p => p.fst == 2) (K07s.wit0.slice 0).toSpare = false) := by decide +kernel
theorem witness_ChannelsOutOfService_rl : (K07s.wit3.up = true) ∧ (K07s.wit3.drawersUp 0 = true) ∧ (2 < 8) ∧
    ((K07s.wit3.slice 0).toSpare = some (2, 0)) ∧ (K07s.wit3.chanEngaged 0 2 = false) ∧ (K07s.wit3.sliceState 0 ≠ 3) := by decide +kernel
theorem witness_ChannelsOutOfService_rrl : (K07s.wit4.up = true) ∧ (K07s.wit4.drawersUp 0 = true) ∧ (2 < 8) ∧
    ((K07s.wit4.slice 0).rewrite = some 2) ∧ (K07s.wit4.chanEngaged 0 2 = false) := by decide +kernel
theorem witness_ChannelsOutOfService_rrrl : (K07s.wit5.up = true) ∧ (K07s.wit5.drawersUp 0 = true) ∧ (2 < 8) ∧
    ((K07s.wit5.slice 0).toCut = (2, 1) :: K07s.wit6) ∧ ((K07s.wit5.pup 0).cue = none) ∧ (K07s.wit5.sliceState 0 ≠ 3) := by decide +kernel
theorem witness_ChannelsOutOfService_rrrrl : (K07s.wit0.up = true) ∧ (K07s.wit0.drawersUp 0 = true) ∧ (0 < 8) ∧ (bit 0x13 4 = true) ∧
    (bits 0x13 3 0 ≤ 8) ∧ (K07s.wit0.isSet (R.SLC_STATUS.offline 0) = true) ∧ ((K07s.wit0.slice 0).margin = none) := by decide +kernel
theorem witness_ChannelsOutOfService_rrrrrl : (K07s.wit0.up = true) ∧ (K07s.wit0.drawersUp 0 = true) ∧ (0 < 8) ∧ (bit 0x19 4 = true) ∧
    (8 < bits 0x19 3 0 ∨ (K07s.wit0.slice 0).margin.isSome = true) := by decide +kernel
theorem witness_ChannelsOutOfService_rrrrrr : (K07s.wit7.up = true) ∧ (K07s.wit7.drawersUp 0 = true) ∧ (0 < 8) ∧
    ((K07s.wit7.slice 0).margin.isSome = true) := by decide +kernel
theorem witness_ReductionSlots_l : (K07r.wit0.up = true) ∧ (K07r.wit1.src = ReqSrc.master 3) ∧ (ccOfMid 3 = none) ∧ (K07r.wit1.host = false) ∧
    (K07r.wit1.atom = none) ∧ (K07r.wit0.refusal K07r.wit1 = none) ∧ (slotForm K07r.wit1 = some 0) ∧
    ((K07r.wit0.slot (slotKey (addrChest K07r.wit1.addr) ((addrOff K07r.wit1.addr - 8589672448) / 64))).enabled = true) := by decide +kernel
theorem witness_ReductionSlots_rl : (K07r.wit2.up = true) ∧ (K07r.wit3.src = ReqSrc.master 3) ∧ (ccOfMid 3 = none) ∧ (K07r.wit3.host = false) ∧
    (K07r.wit3.atom = none) ∧ (K07r.wit2.refusal K07r.wit3 = none) ∧ (slotForm K07r.wit3 = some 2) ∧
    ((K07r.wit2.slot (slotKey (addrChest K07r.wit3.addr) ((addrOff K07r.wit3.addr - 8589672448) / 64))).enabled = true) ∧
    ((K07r.wit2.slot (slotKey (addrChest K07r.wit3.addr) ((addrOff K07r.wit3.addr - 8589672448) / 64))).fixed = true) := by decide +kernel
theorem witness_ReductionSlots_rrl : (K07r.wit0.up = true) ∧ (K07r.wit4.src = ReqSrc.master 3) ∧ (ccOfMid 3 = none) ∧ (K07r.wit4.host = false) ∧
    (K07r.wit4.atom = none) ∧ (K07r.wit0.refusal K07r.wit4 = none) ∧ (slotForm K07r.wit4 = some 1) ∧
    ((K07r.wit0.slot (slotKey (addrChest K07r.wit4.addr) ((addrOff K07r.wit4.addr - 8589672448) / 64))).enabled = true) := by decide +kernel
theorem witness_ReductionSlots_rrrl : (K07r.wit5.up = true) ∧ (K07r.wit6.src = ReqSrc.master 3) ∧ (ccOfMid 3 = none) ∧ (K07r.wit6.host = false) ∧
    (K07r.wit6.atom = none) ∧ (K07r.wit5.refusal K07r.wit6 = none) ∧ (slotForm K07r.wit6 = some 3 ∨ slotForm K07r.wit6 = some 4 ∧
    (K07r.wit5.slot (slotKey (addrChest K07r.wit6.addr) ((addrOff K07r.wit6.addr - 8589672448) / 64))).enabled = true) := by decide +kernel
theorem witness_ReductionSlots_rrrr : (K07r.wit5.up = true) ∧ (K07r.wit1.src = ReqSrc.master 3) ∧ (ccOfMid 3 = none) ∧ (K07r.wit1.host = false) ∧
    (K07r.wit1.atom = none) ∧ (K07r.wit5.refusal K07r.wit1 = none) ∧ (slotForm K07r.wit1 = some 0) ∧
    ((K07r.wit5.slot (slotKey (addrChest K07r.wit1.addr) ((addrOff K07r.wit1.addr - 8589672448) / 64))).enabled = false) := by decide +kernel
theorem witness_ArrayFillsAndSlots_l : (K08.wit0.up = true) ∧ (0 < 36) ∧
    ((subTiles (K08.wit0.core 0) 0)[((K08.wit0.core 0).sub 0).fillPos]? = some (0, K08.wit1)) ∧ (subGranted (K08.wit0.core 0) 0 = true) ∧
    (((K08.wit0.core 0).sub 0).filled < subK ((K08.wit0.core 0).op 0).desc.mode) ∧
    (((K08.wit0.core 0).sub 0).pos = ((K08.wit0.core 0).sub 0).fillPos ∨ ((K08.wit0.core 0).sub 0).fillPos < ((K08.wit0.core 0).sub 0).pos ∨ ((K08.wit0.core 0).sub 0).pos + 1 = ((K08.wit0.core 0).sub 0).fillPos ∧
    ((K08.wit0.core 0).sub 0).streaming = true) ∧
    (K08.wit0.unitHere 0 ((K08.wit0.core 0).op 0).desc.w (wUnit ((K08.wit0.core 0).op 0) 0 K08.wit1) = true) ∧
    (K08.wit0.landedAll 0 (fillRanges ((K08.wit0.core 0).op 0) K08.wit1 ((K08.wit0.core 0).sub 0).filled) = true) ∧
    ((K08.wit0.touchScales 0 ((K08.wit0.core 0).op 0).desc.fmtW ((K08.wit0.core 0).op 0).desc.w (fillScales ((K08.wit0.core 0).op 0) K08.wit1 ((K08.wit0.core 0).sub 0).filled)).snd = 0) := by decide +kernel
theorem witness_ArrayFillsAndSlots_rll : (K08.wit0.up = true) ∧ (0 < 36) ∧
    ((subTiles (K08.wit0.core 0) 0)[((K08.wit0.core 0).sub 0).pos]? = some (0, K08.wit1)) ∧ (subGranted (K08.wit0.core 0) 0 = true) ∧
    (K08.wit0.slotWait 0 0 0 K08.wit1 = some 1) := by decide +kernel
theorem witness_ArrayFillsAndSlots_rlr : (K08.wit2.up = true) ∧ (0 < 36) ∧
    ((subTiles (K08.wit2.core 0) 0)[((K08.wit2.core 0).sub 0).pos]? = some (0, K08.wit1)) ∧ (subGranted (K08.wit2.core 0) 0 = true) ∧
    (K08.wit2.slotWait 0 0 0 K08.wit1 = none) ∧
    ((K08.wit2.touchScales 0 ((K08.wit2.core 0).op 0).desc.fmtX ((K08.wit2.core 0).op 0).desc.x (rowScales ((K08.wit2.core 0).op 0) K08.wit1 ((K08.wit2.core 0).sub 0).block (slotRows ((K08.wit2.core 0).op 0) ((K08.wit2.core 0).sub 0)))).snd = 0) := by decide +kernel
theorem witness_ArrayFillsAndSlots_rrrl : (K08.wit3.up = true) ∧ (0 < 36) ∧ (outHalf (K08.wit3.core 0) 0 = some (1, K08.wit4)) := by decide +kernel
theorem witness_ArrayFillsAndSlots_rrrrl : (K08.wit5.up = true) ∧ (0 < 36) ∧ (outHalf (K08.wit5.core 0) 0 = none) ∧
    (inBlock (K08.wit5.core 0) 0 = some K08.wit4) ∧ (freeHalf ((K08.wit5.core 0).sub 0) = some 1) ∧
    (rowsFree (K08.wit5.core 0) 0 1 0 (rowsOf ((K08.wit5.core 0).op K08.wit4.op) K08.wit4.block) = true) := by decide +kernel
theorem witness_ArrayFillsAndSlots_rrrrrr : (K08.wit6.up = true) ∧ (0 < 36) ∧ (((K08.wit6.core 0).sub 0).ready = K08.wit7 :: K08.wit8) ∧
    (isSplit ((K08.wit6.core 0).op K08.wit7.op).desc = false) ∧ (((K08.wit6.core 0).op K08.wit7.op).desc.kind = 3 →
    ((K08.wit6.core 0).op K08.wit7.op).desc.tripleOut = false) ∧ ((chainPtr ((K08.wit6.core 0).op K08.wit7.op).desc.epiChain).isSome = true) ∧
    (halfOf ((K08.wit6.core 0).sub 0) K08.wit7 = some 1) := by decide +kernel
theorem witness_ArrayFillsAndSlots_rrl : (K08a.wit0.up = true) ∧ (0 < 36) ∧ (((K08a.wit0.core 0).sub 0).flight = K08a.wit1 :: K08a.wit2) ∧
    (halfOf ((K08a.wit0.core 0).sub 0) (BlockId.mk K08a.wit1.op K08a.wit1.head K08a.wit1.nt K08a.wit1.block) = some 0) := by decide +kernel
theorem witness_ArrayControlAndLanding_l : (K88.wit0.up = true) ∧ (0 < 36) := by decide +kernel
theorem witness_ArrayControlAndLanding_rl : (K88.wit0.up = true) ∧ (0 < 36) := by decide +kernel
theorem witness_ArrayControlAndLanding_rrl : (K88.wit0.up = true) ∧ (0 < 36) := by decide +kernel
theorem witness_ArrayControlAndLanding_rrrll : (K88.wit0.up = true) ∧ (0 < 36) ∧ (K88.wit1.src = ReqSrc.master 0x19) ∧ (ccOfMid 0x19 = none) ∧
    (K88.wit1.core < 36) ∧ (K88.wit1.idx < 4096) ∧ (K88.wit0.coreInReset K88.wit1.core = false) ∧
    (K88.wit0.landTile K88.wit1.core K88.wit1.idx = some K88.wit2) ∧ (K88.wit1.off + K88.wit1.bytes.length ≤ K88.wit2.len) ∧
    (K88.wit1.first = true) ∧ (K88.wit0.arrived K88.wit1.core K88.wit1.idx = false) := by decide +kernel
theorem witness_ArrayControlAndLanding_rrrlrl : (K88.wit0.up = true) ∧ (0 < 36) ∧ (K88.wit3.src = ReqSrc.master 0x19) ∧ (ccOfMid 0x19 = none) ∧
    (K88.wit3.core < 36) ∧ (K88.wit3.idx < 4096) ∧ (K88.wit0.coreInReset K88.wit3.core = false) ∧
    (K88.wit0.landTile K88.wit3.core K88.wit3.idx = some K88.wit2) ∧ (K88.wit3.off + K88.wit3.bytes.length ≤ K88.wit2.len) ∧
    (K88.wit3.first = false) ∧ (xferIn (K88.wit0.core K88.wit3.core).dropXfer K88.wit3 = false) := by decide +kernel
theorem witness_ArrayControlAndLanding_rrrlrr : (K88.wit4.up = true) ∧ (0 < 36) ∧ (K88.wit1.src = ReqSrc.master 0x19) ∧ (ccOfMid 0x19 = none) ∧
    (K88.wit1.core < 36) ∧ (K88.wit1.idx < 4096) ∧ (K88.wit4.coreInReset K88.wit1.core = false) ∧
    (K88.wit4.landTile K88.wit1.core K88.wit1.idx = some K88.wit2) ∧ (K88.wit1.off + K88.wit1.bytes.length ≤ K88.wit2.len) ∧
    (K88.wit1.first = true) ∧ (K88.wit4.arrived K88.wit1.core K88.wit1.idx = true) := by decide +kernel
theorem witness_ArrayControlAndLanding_rrrrl : (K88.wit5.up = true) ∧ (0 < 36) ∧ (K88.wit1.src = ReqSrc.master 0x19) ∧ (ccOfMid 0x19 = none) ∧
    (K88.wit1.core < 36) ∧ (K88.wit1.idx < 4096) ∧ (K88.wit5.coreInReset K88.wit1.core = true) := by decide +kernel
theorem witness_ArrayControlAndLanding_rrrrr : (K88.wit0.up = true) ∧ (0 < 36) ∧ (K88.wit6.src = ReqSrc.master 0x19) ∧ (ccOfMid 0x19 = none) ∧
    (K88.wit6.core < 36) ∧ (K88.wit6.idx < 4096) ∧ (K88.wit0.coreInReset K88.wit6.core = false) ∧
    (∀ (cfg : LandCfg), K88.wit0.landTile K88.wit6.core K88.wit6.idx = some cfg → cfg.len < K88.wit6.off + K88.wit6.bytes.length) := by decide +kernel
theorem witness_VectorLaneInstructions_l : (K09f2.wit0.up = true) ∧ (0 < 36) ∧
    (nextCtx (K09f2.wit0.core 0) (vecWord 0 K09f2.wit1) = some K09f2.wit2) ∧
    (K09f2.wit2.pc + 1 < segLen (hdrAt (K09f2.wit0.core 0) K09f2.wit2.chain) K09f2.wit2.seg) := by decide +kernel
theorem witness_VectorLaneInstructions_rl : (K09f2.wit3.up = true) ∧ (0 < 36) ∧
    (nextCtx (K09f2.wit3.core 0) (vecWord 5 K09f2.wit1) = some K09f2.wit2) ∧
    (K09f2.wit2.pc + 1 < segLen (hdrAt (K09f2.wit3.core 0) K09f2.wit2.chain) K09f2.wit2.seg) := by decide +kernel
theorem witness_VectorLaneInstructions_rr : (K09f2.wit4.up = true) ∧ (0 < 36) ∧
    (nextCtx (K09f2.wit4.core 0) (vecWord 16 K09f2.wit1) = some K09f2.wit2) := by decide +kernel
theorem witness_VectorPredicatesScalarsRows_l : (K09f2.wit5.up = true) ∧ (0 < 36) ∧
    (nextCtx (K09f2.wit5.core 0) (vecWord 9 K09f2.wit1) = some K09f2.wit2) ∧
    (K09f2.wit2.pc + 1 < segLen (hdrAt (K09f2.wit5.core 0) K09f2.wit2.chain) K09f2.wit2.seg) := by decide +kernel
theorem witness_VectorPredicatesScalarsRows_rl : (K09f2.wit6.up = true) ∧ (0 < 36) ∧
    (nextCtx (K09f2.wit6.core 0) (vecWord 20 K09f2.wit1) = some K09f2.wit2) ∧
    (K09f2.wit2.pc + 1 < segLen (hdrAt (K09f2.wit6.core 0) K09f2.wit2.chain) K09f2.wit2.seg) := by decide +kernel
theorem witness_VectorPredicatesScalarsRows_rrl : (K09f2.wit7.up = true) ∧ (0 < 36) ∧
    (nextCtx (K09f2.wit7.core 0) (vecWord 21 K09f2.wit1) = some K09f2.wit2) ∧
    (K09f2.wit2.pc + 1 < segLen (hdrAt (K09f2.wit7.core 0) K09f2.wit2.chain) K09f2.wit2.seg) := by decide +kernel
theorem witness_VectorPredicatesScalarsRows_rrrl : (K09f2.wit8.up = true) ∧ (0 < 36) ∧
    (nextCtx (K09f2.wit8.core 0) (vecWord 26 K09f2.wit1) = some K09f2.wit2) ∧
    (K09f2.wit2.pc + 1 < segLen (hdrAt (K09f2.wit8.core 0) K09f2.wit2.chain) K09f2.wit2.seg) := by decide +kernel
theorem witness_VectorPredicatesScalarsRows_rrrrl : (K09f2.wit9.up = true) ∧ (0 < 36) ∧
    (nextCtx (K09f2.wit9.core 0) (vecWord 17 K09f2.wit1) = some K09f2.wit2) ∧
    (K09f2.wit2.pc + 1 < segLen (hdrAt (K09f2.wit9.core 0) K09f2.wit2.chain) K09f2.wit2.seg) := by decide +kernel
theorem witness_VectorPredicatesScalarsRows_rrrrrl : (K09f2.wit10.up = true) ∧ (0 < 36) ∧
    (nextCtx (K09f2.wit10.core 0) (vecWord 18 K09f2.wit1) = some K09f2.wit2) ∧
    (K09f2.wit2.pc + 1 < segLen (hdrAt (K09f2.wit10.core 0) K09f2.wit2.chain) K09f2.wit2.seg) := by decide +kernel
theorem witness_VectorPredicatesScalarsRows_rrrrrr : (K09f2.wit11.up = true) ∧ (0 < 36) ∧
    (nextCtx (K09f2.wit11.core 0) (vecWord 19 K09f2.wit1) = some K09f2.wit2) ∧
    (K09f2.wit2.pc + 1 < segLen (hdrAt (K09f2.wit11.core 0) K09f2.wit2.chain) K09f2.wit2.seg) := by decide +kernel
theorem witness_VectorLoadsStoresMessages_l : (K09ld.wit0.up = true) ∧ (0 < 36) ∧ (K09ld.wit1.fn < 2) ∧
    ((VX.mk K09ld.wit0 0 K09ld.wit2 ((K09ld.wit0.core 0).op K09ld.wit2.id.op) (hdrAt (K09ld.wit0.core 0) K09ld.wit2.chain) K09ld.wit1 false).ldRange.fst + (VX.mk K09ld.wit0 0 K09ld.wit2 ((K09ld.wit0.core 0).op K09ld.wit2.id.op) (hdrAt (K09ld.wit0.core 0) K09ld.wit2.chain) K09ld.wit1 false).ldRange.snd ≤ tileEnd) ∧
    (K09ld.wit0.landedRange 0 (VX.mk K09ld.wit0 0 K09ld.wit2 ((K09ld.wit0.core 0).op K09ld.wit2.id.op) (hdrAt (K09ld.wit0.core 0) K09ld.wit2.chain) K09ld.wit1 false).ldRange.fst (VX.mk K09ld.wit0 0 K09ld.wit2 ((K09ld.wit0.core 0).op K09ld.wit2.id.op) (hdrAt (K09ld.wit0.core 0) K09ld.wit2.chain) K09ld.wit1 false).ldRange.snd = true) ∧
    (nextCtx (K09ld.wit0.core 0) (vecWord 22 K09ld.wit1) = some K09ld.wit2) ∧
    (K09ld.wit2.pc + 1 < segLen (hdrAt (K09ld.wit0.core 0) K09ld.wit2.chain) K09ld.wit2.seg) := by decide +kernel
theorem witness_VectorLoadsStoresMessages_rrl : (K09ld.wit0.up = true) ∧ (0 < 36) ∧
    (K09ld.wit0.landedRange 0 (VX.mk K09ld.wit0 0 K09ld.wit2 ((K09ld.wit0.core 0).op K09ld.wit2.id.op) (hdrAt (K09ld.wit0.core 0) K09ld.wit2.chain) K09ld.wit1 false).ldRange.fst (VX.mk K09ld.wit0 0 K09ld.wit2 ((K09ld.wit0.core 0).op K09ld.wit2.id.op) (hdrAt (K09ld.wit0.core 0) K09ld.wit2.chain) K09ld.wit1 false).ldRange.snd = true) ∧
    (nextCtx (K09ld.wit0.core 0) (vecWord 22 K09ld.wit1) = some K09ld.wit2) := by decide +kernel
theorem witness_VectorLoadsStoresMessages_rrrl : (K09ld.wit3.up = true) ∧ (0 < 36) ∧
    (K09ld.wit3.landedRange 0 (VX.mk K09ld.wit3 0 K09ld.wit4 ((K09ld.wit3.core 0).op K09ld.wit4.id.op) (hdrAt (K09ld.wit3.core 0) K09ld.wit4.chain) K09ld.wit1 false).ldRange.fst (VX.mk K09ld.wit3 0 K09ld.wit4 ((K09ld.wit3.core 0).op K09ld.wit4.id.op) (hdrAt (K09ld.wit3.core 0) K09ld.wit4.chain) K09ld.wit1 false).ldRange.snd = false) ∧
    (nextCtx (K09ld.wit3.core 0) (vecWord 22 K09ld.wit1) = some K09ld.wit4) := by decide +kernel
theorem witness_VectorLoadsStoresMessages_rrrrl : (K09ld.wit5.up = true) ∧ (0 < 36) ∧
    (nextCtx (K09ld.wit5.core 0) (vecWord 11 K09ld.wit1) = some K09ld.wit4) ∧
    (K09ld.wit4.pc + 1 < segLen (hdrAt (K09ld.wit5.core 0) K09ld.wit4.chain) K09ld.wit4.seg) := by decide +kernel
theorem witness_VectorLoadsStoresMessages_rrrrrl : (K09ld.wit6.up = true) ∧ (0 < 36) ∧ (K09ld.wit7.fn = 1) ∧ (K09ld.wit4.seg ≠ 1) ∧
    (Num.isMx K09ld.wit7.fmt = false) ∧ (((K09ld.wit6.core 0).op K09ld.wit4.id.op).desc.strict = false) ∧ (K09ld.wit7.all = true) ∧
    (Num.elemBits (storeFmt K09ld.wit7.fmt) = 32) ∧
    ((VX.mk K09ld.wit6 0 K09ld.wit4 ((K09ld.wit6.core 0).op K09ld.wit4.id.op) (hdrAt (K09ld.wit6.core 0) K09ld.wit4.chain) K09ld.wit7 false).series (K09ld.wit7.vb % 32) (K09ld.wit7.vc % 32) + 2048 ≤ tileEnd) ∧
    (nextCtx (K09ld.wit6.core 0) (vecWord 23 K09ld.wit7) = some K09ld.wit4) ∧
    (K09ld.wit4.pc + 1 < segLen (hdrAt (K09ld.wit6.core 0) K09ld.wit4.chain) K09ld.wit4.seg) := by decide +kernel
theorem witness_VectorLoadsStoresMessages_rrrrrrrrrll : (K09ld.wit9.up = true) ∧ (0 < 36) ∧
    (nextCtx (K09ld.wit9.core 0) (vecWord 24 K09ld.wit1) = some K09ld.wit4) ∧
    ((Tbl.get false (K09ld.wit9.core (K09ld.wit9.coreKey (bits K09ld.wit1.imm 14 10))).rrFull (bits K09ld.wit1.imm 2 0) || (K09ld.wit9.core (K09ld.wit9.coreKey (bits K09ld.wit1.imm 14 10))).sends.any fun z => z.fst == bits K09ld.wit1.imm 2 0) = false) := by decide +kernel
theorem witness_VectorLoadsStoresMessages_rrrrrrrrrlrl : (K09ld.wit9.up = true) ∧ (0 < 36) ∧
    (nextCtx (K09ld.wit9.core 0) (vecWord 24 K09ld.wit1) = some K09ld.wit4) ∧
    ((Tbl.get false (K09ld.wit9.core (K09ld.wit9.coreKey (bits K09ld.wit1.imm 14 10))).rrFull (bits K09ld.wit1.imm 2 0) || (K09ld.wit9.core (K09ld.wit9.coreKey (bits K09ld.wit1.imm 14 10))).sends.any fun z => z.fst == bits K09ld.wit1.imm 2 0) = false) ∧
    (K09ld.wit9.coreInReset (K09ld.wit9.coreKey (bits K09ld.wit1.imm 14 10)) = false) ∧
    (nextCtx (K09ld.wit9.core 0) (vecWord 24 K09ld.wit1) = some K09ld.wit4) ∧
    (K09ld.wit4.pc + 1 < segLen (hdrAt (K09ld.wit9.core 0) K09ld.wit4.chain) K09ld.wit4.seg) := by decide +kernel
theorem witness_VectorLoadsStoresMessages_rrrrrrrrrlrr : (K09ld.wit10.up = true) ∧ (0 < 36) ∧
    (nextCtx (K09ld.wit10.core 0) (vecWord 24 K09ld.wit11) = some K09ld.wit4) ∧
    ((Tbl.get false (K09ld.wit10.core (K09ld.wit10.coreKey (bits K09ld.wit11.imm 14 10))).rrFull (bits K09ld.wit11.imm 2 0) || (K09ld.wit10.core (K09ld.wit10.coreKey (bits K09ld.wit11.imm 14 10))).sends.any fun z => z.fst == bits K09ld.wit11.imm 2 0) = true) := by decide +kernel
theorem witness_VectorLoadsStoresMessages_rrrrrrrrrrrl : (K09ld.wit12.up = true) ∧ (0 < 36) ∧
    (Tbl.get false (K09ld.wit12.core 0).rrFull (bits K09ld.wit11.imm 2 0) = true) ∧
    (nextCtx (K09ld.wit12.core 0) (vecWord 25 K09ld.wit11) = some K09ld.wit4) ∧
    (K09ld.wit4.pc + 1 < segLen (hdrAt (K09ld.wit12.core 0) K09ld.wit4.chain) K09ld.wit4.seg) := by decide +kernel
theorem witness_VectorLoadsStoresMessages_rrrrrrrrrrrrl : (K09ld.wit12.up = true) ∧ (0 < 36) ∧
    (nextCtx (K09ld.wit12.core 0) (vecWord 25 K09ld.wit11) = some K09ld.wit4) ∧
    (Tbl.get false (K09ld.wit12.core 0).rrFull (bits K09ld.wit11.imm 2 0) = true) := by decide +kernel
theorem witness_VectorLoadsStoresMessages_rrrrrrrrrrrrr : (K09ld.wit13.up = true) ∧ (0 < 36) ∧
    (nextCtx (K09ld.wit13.core 0) (vecWord 25 K09ld.wit1) = some K09ld.wit4) ∧
    (Tbl.get false (K09ld.wit13.core 0).rrFull (bits K09ld.wit1.imm 2 0) = false) := by decide +kernel
theorem witness_VectorLoadsStoresMessages_rl : (K09y.wit0.up = true) ∧ (0 < 36) ∧ (K09y.wit1.fn = 2) ∧
    ((VX.mk K09y.wit0 0 K09y.wit2 ((K09y.wit0.core 0).op K09y.wit2.id.op) (hdrAt (K09y.wit0.core 0) K09y.wit2.chain) K09y.wit1 false).ldRange.fst + (VX.mk K09y.wit0 0 K09y.wit2 ((K09y.wit0.core 0).op K09y.wit2.id.op) (hdrAt (K09y.wit0.core 0) K09y.wit2.chain) K09y.wit1 false).ldRange.snd ≤ tileEnd) ∧
    (K09y.wit0.landedRange 0 (VX.mk K09y.wit0 0 K09y.wit2 ((K09y.wit0.core 0).op K09y.wit2.id.op) (hdrAt (K09y.wit0.core 0) K09y.wit2.chain) K09y.wit1 false).ldRange.fst (VX.mk K09y.wit0 0 K09y.wit2 ((K09y.wit0.core 0).op K09y.wit2.id.op) (hdrAt (K09y.wit0.core 0) K09y.wit2.chain) K09y.wit1 false).ldRange.snd = true) ∧
    (nextCtx (K09y.wit0.core 0) (vecWord 22 K09y.wit1) = some K09y.wit2) ∧
    (K09y.wit2.pc + 1 < segLen (hdrAt (K09y.wit0.core 0) K09y.wit2.chain) K09y.wit2.seg) := by decide +kernel
theorem witness_VectorLoadsStoresMessages_rrrrrrl : (K09y.wit3.up = true) ∧ (0 < 36) ∧
    (nextCtx (K09y.wit3.core 0) (vecWord 23 K09y.wit4) = some K09y.wit2) ∧
    (K09y.wit2.pc + 1 < segLen (hdrAt (K09y.wit3.core 0) K09y.wit2.chain) K09y.wit2.seg) ∧ (K09y.wit4.fn = 0) ∧
    (((K09y.wit3.core 0).op K09y.wit2.id.op).desc.kind ≠ 2) ∧ (Num.isMx K09y.wit4.fmt = false) ∧
    (2 < (VX.mk K09y.wit3 0 K09y.wit2 ((K09y.wit3.core 0).op K09y.wit2.id.op) (hdrAt (K09y.wit3.core 0) K09y.wit2.chain) K09y.wit4 false).segs) ∧
    ((VX.mk K09y.wit3 0 K09y.wit2 ((K09y.wit3.core 0).op K09y.wit2.id.op) (hdrAt (K09y.wit3.core 0) K09y.wit2.chain) K09y.wit4 false).vecIdx * (VX.mk K09y.wit3 0 K09y.wit2 ((K09y.wit3.core 0).op K09y.wit2.id.op) (hdrAt (K09y.wit3.core 0) K09y.wit2.chain) K09y.wit4 false).segs + 2 < K09y.wit2.rows) ∧
    (2 + 1 = (VX.mk K09y.wit3 0 K09y.wit2 ((K09y.wit3.core 0).op K09y.wit2.id.op) (hdrAt (K09y.wit3.core 0) K09y.wit2.chain) K09y.wit4 false).segs ∨ K09y.wit2.rows ≤ (VX.mk K09y.wit3 0 K09y.wit2 ((K09y.wit3.core 0).op K09y.wit2.id.op) (hdrAt (K09y.wit3.core 0) K09y.wit2.chain) K09y.wit4 false).vecIdx * (VX.mk K09y.wit3 0 K09y.wit2 ((K09y.wit3.core 0).op K09y.wit2.id.op) (hdrAt (K09y.wit3.core 0) K09y.wit2.chain) K09y.wit4 false).segs + (2 + 1)) ∧
    (K09y.wit3.epiDest 0 ((K09y.wit3.core 0).op K09y.wit2.id.op) K09y.wit2.sub K09y.wit2.id K09y.wit4.fmt ((VX.mk K09y.wit3 0 K09y.wit2 ((K09y.wit3.core 0).op K09y.wit2.id.op) (hdrAt (K09y.wit3.core 0) K09y.wit2.chain) K09y.wit4 false).vecIdx * (VX.mk K09y.wit3 0 K09y.wit2 ((K09y.wit3.core 0).op K09y.wit2.id.op) (hdrAt (K09y.wit3.core 0) K09y.wit2.chain) K09y.wit4 false).segs + 2) = Dest.tile 0x9080) ∧
    ((VX.mk K09y.wit3 0 K09y.wit2 ((K09y.wit3.core 0).op K09y.wit2.id.op) (hdrAt (K09y.wit3.core 0) K09y.wit2.chain) K09y.wit4 false).store.held = false) := by decide +kernel
theorem witness_VectorLoadsStoresMessages_rrrrrrrrl : (K09y.wit5.up = true) ∧ (0 < 36) ∧
    (nextCtx (K09y.wit5.core 0) (vecWord 23 K09y.wit4) = some K09y.wit6) ∧
    ((VX.mk K09y.wit5 0 K09y.wit6 ((K09y.wit5.core 0).op K09y.wit6.id.op) (hdrAt (K09y.wit5.core 0) K09y.wit6.chain) K09y.wit4 false).store.held = true) := by decide +kernel
theorem witness_VectorLoadsStoresMessages_rrrrrrrrrrl : (K09y.wit0.up = true) ∧ (0 < 36) ∧
    ((K09y.wit0.core 0).sends = (2, K09y.wit7) :: K09y.wit8) := by decide +kernel
theorem witness_InvocationsStart_l : (K10a.wit0.up = true) ∧ (0 < 36) ∧ ((K10a.wit0.core 0).ctx = none) ∧ ((K10a.wit0.core 0).defer = []) ∧
    (nextEpilogue (K10a.wit0.core 0) = some K10a.wit1) ∧
    (chainPtr ((K10a.wit0.core 0).op K10a.wit1.id.op).desc.epiChain = some 0) := by decide +kernel
theorem witness_InvocationsStart_rll : (K10a.wit2.up = true) ∧ (0 < 36) ∧ ((K10a.wit2.core 0).pctx = none) ∧
    (nextPrologue (K10a.wit2.core 0) 0 = some (0, K10a.wit3, 0)) ∧ (chainPtr ((K10a.wit2.core 0).op 0).desc.proChain = some 0) ∧
    ((K10a.wit2.unitHere 0 ((K10a.wit2.core 0).op 0).desc.x (xUnit ((K10a.wit2.core 0).op 0) 0 K10a.wit3 0) && K10a.wit2.landedAll 0 (rowRanges ((K10a.wit2.core 0).op 0) K10a.wit3 0 false (List.range (rowsOf ((K10a.wit2.core 0).op 0) 0)))) = true) ∧
    ((!((K10a.wit2.core 0).op 0).desc.deferredIn || K10a.wit2.arrived 0 (vectorTile ((K10a.wit2.core 0).op 0) K10a.wit3.head 0)) = true) ∧
    ((K10a.wit2.touchScales 0 ((K10a.wit2.core 0).op 0).desc.fmtX ((K10a.wit2.core 0).op 0).desc.x (rowScales ((K10a.wit2.core 0).op 0) K10a.wit3 0 (List.range (rowsOf ((K10a.wit2.core 0).op 0) 0)))).snd = 0) := by decide +kernel
theorem witness_InvocationsStart_rlrl : (K10a.wit4.up = true) ∧ (0 < 36) ∧ ((K10a.wit4.core 0).pctx = none) ∧
    (nextPrologue (K10a.wit4.core 0) 0 = some (0, K10a.wit3, 0)) ∧ (chainPtr ((K10a.wit4.core 0).op 0).desc.proChain = some 0) ∧
    ((K10a.wit4.unitHere 0 ((K10a.wit4.core 0).op 0).desc.x (xUnit ((K10a.wit4.core 0).op 0) 0 K10a.wit3 0) && K10a.wit4.landedAll 0 (rowRanges ((K10a.wit4.core 0).op 0) K10a.wit3 0 false (List.range (rowsOf ((K10a.wit4.core 0).op 0) 0)))) = true) ∧
    ((!((K10a.wit4.core 0).op 0).desc.deferredIn || K10a.wit4.arrived 0 (vectorTile ((K10a.wit4.core 0).op 0) K10a.wit3.head 0)) = true) ∧
    ((K10a.wit4.touchScales 0 ((K10a.wit4.core 0).op 0).desc.fmtX ((K10a.wit4.core 0).op 0).desc.x (rowScales ((K10a.wit4.core 0).op 0) K10a.wit3 0 (List.range (rowsOf ((K10a.wit4.core 0).op 0) 0)))).snd = 2) := by decide +kernel
theorem witness_InvocationsStart_rlrrl : (K10a.wit5.up = true) ∧ (0 < 36) ∧ ((K10a.wit5.core 0).pctx = none) ∧
    (nextPrologue (K10a.wit5.core 0) 0 = some (0, K10a.wit3, 0)) ∧ (chainPtr ((K10a.wit5.core 0).op 0).desc.proChain = some 0) ∧
    ((K10a.wit5.unitHere 0 ((K10a.wit5.core 0).op 0).desc.x (xUnit ((K10a.wit5.core 0).op 0) 0 K10a.wit3 0) && K10a.wit5.landedAll 0 (rowRanges ((K10a.wit5.core 0).op 0) K10a.wit3 0 false (List.range (rowsOf ((K10a.wit5.core 0).op 0) 0)))) = false) := by decide +kernel
theorem witness_InvocationsStart_rlrrr : (K10a.wit6.up = true) ∧ (0 < 36) ∧ ((K10a.wit6.core 0).pctx = none) ∧
    (nextPrologue (K10a.wit6.core 0) 0 = some (0, K10a.wit3, 0)) ∧ (chainPtr ((K10a.wit6.core 0).op 0).desc.proChain = some 0) ∧
    ((K10a.wit6.unitHere 0 ((K10a.wit6.core 0).op 0).desc.x (xUnit ((K10a.wit6.core 0).op 0) 0 K10a.wit3 0) && K10a.wit6.landedAll 0 (rowRanges ((K10a.wit6.core 0).op 0) K10a.wit3 0 false (List.range (rowsOf ((K10a.wit6.core 0).op 0) 0)))) = true) ∧
    ((!((K10a.wit6.core 0).op 0).desc.deferredIn || K10a.wit6.arrived 0 (vectorTile ((K10a.wit6.core 0).op 0) K10a.wit3.head 0)) = false) := by decide +kernel
theorem witness_InvocationsStart_rrl : (K10a.wit7.up = true) ∧ (0 < 36) ∧ ((K10a.wit7.core 0).ctx = none) ∧
    ((K10a.wit7.core 0).defer = K10a.wit8 :: K10a.wit9) ∧
    (chainPtr ((K10a.wit7.core 0).op K10a.wit8.id.op).desc.defChain = some 0) := by decide +kernel
theorem witness_InvocationsStart_rrr : (K10a.wit10.up = true) ∧ (0 < 36) ∧ ((K10a.wit10.core 0).ctx = none) ∧
    ((K10a.wit10.core 0).defer = K10a.wit8 :: K10a.wit9) ∧
    (chainPtr ((K10a.wit10.core 0).op K10a.wit8.id.op).desc.defChain = none) := by decide +kernel
theorem witness_OperationsStartAndEnd_rll : (K10.wit3.up = true) ∧ (0 < 36) ∧ ((K10.wit3.core 0).work = some K10.wit1) ∧
    (startable (K10.wit3.core 0) = some 0) ∧
    (((K10.wit3.opGroup 0 0).any fun k => (K10.wit3.descPeek 0 k).elim false fun d => (K10.wit3.shapeNow 0 k d).isNone) = true) := by decide +kernel
theorem witness_OperationsStartAndEnd_rlrl : (K10.wit4.up = true) ∧ (0 < 36) ∧ ((K10.wit4.core 0).work = some K10.wit1) ∧
    (startable (K10.wit4.core 0) = some 0) ∧
    (((K10.wit4.opGroup 0 0).any fun k => (K10.wit4.descPeek 0 k).elim false fun d => (K10.wit4.shapeNow 0 k d).isNone) = false) ∧
    ((K10.wit4.readGroup 0 (K10.wit4.opGroup 0 0)).snd.snd = 2) := by decide +kernel
theorem witness_OperationsStartAndEnd_rlrrl : (K10.wit5.up = true) ∧ (0 < 36) ∧ ((K10.wit5.core 0).work = some K10.wit1) ∧
    (startable (K10.wit5.core 0) = some 0) ∧
    (((K10.wit5.opGroup 0 0).any fun k => (K10.wit5.descPeek 0 k).elim false fun d => (K10.wit5.shapeNow 0 k d).isNone) = false) ∧
    ((K10.wit5.readGroup 0 (K10.wit5.opGroup 0 0)).snd.snd ≠ 2) ∧
    (K10.wit5.opGroup 0 0 = [] ∨ (K10.wit5.readGroup 0 (K10.wit5.opGroup 0 0)).snd.snd ≠ 0) := by decide +kernel
theorem witness_OperationsStartAndEnd_rlrrrl : (K10.wit6.up = true) ∧ (0 < 36) ∧ ((K10.wit6.core 0).work = some K10.wit1) ∧
    (startable (K10.wit6.core 0) = some 0) ∧
    (((K10.wit6.opGroup 0 0).any fun k => (K10.wit6.descPeek 0 k).elim false fun d => (K10.wit6.shapeNow 0 k d).isNone) = false) ∧
    ((K10.wit6.readGroup 0 (K10.wit6.opGroup 0 0)).snd.snd = 0) ∧ (K10.wit6.opGroup 0 0 ≠ []) ∧
    (K10.wit6.startKind 0 (K10.wit6.readGroup 0 (K10.wit6.opGroup 0 0)).snd.fst = Start.fault K10.wit7) := by decide +kernel
theorem witness_OperationsStartAndEnd_rlrrrrl : (K10.wit8.up = true) ∧ (0 < 36) ∧ ((K10.wit8.core 0).work = some K10.wit1) ∧
    (startable (K10.wit8.core 0) = some 0) ∧
    (((K10.wit8.opGroup 0 0).any fun k => (K10.wit8.descPeek 0 k).elim false fun d => (K10.wit8.shapeNow 0 k d).isNone) = false) ∧
    ((K10.wit8.readGroup 0 (K10.wit8.opGroup 0 0)).snd.snd = 0) ∧ (K10.wit8.opGroup 0 0 ≠ []) ∧
    (K10.wit8.startKind 0 (K10.wit8.readGroup 0 (K10.wit8.opGroup 0 0)).snd.fst = Start.over K10.wit9) := by decide +kernel
theorem witness_OperationsStartAndEnd_rlrrrrrl : (K10.wit10.up = true) ∧ (0 < 36) ∧ ((K10.wit10.core 0).work = some K10.wit1) ∧
    (startable (K10.wit10.core 0) = some 0) ∧
    (((K10.wit10.opGroup 0 0).any fun k => (K10.wit10.descPeek 0 k).elim false fun d => (K10.wit10.shapeNow 0 k d).isNone) = false) ∧
    ((K10.wit10.readGroup 0 (K10.wit10.opGroup 0 0)).snd.snd = 0) ∧ (K10.wit10.opGroup 0 0 ≠ []) ∧
    (K10.wit10.startKind 0 (K10.wit10.readGroup 0 (K10.wit10.opGroup 0 0)).snd.fst = Start.empty K10.wit11 K10.wit12) := by decide +kernel
theorem witness_OperationsStartAndEnd_rlrrrrrr : (K10.wit13.up = true) ∧ (0 < 36) ∧ ((K10.wit13.core 0).work = some K10.wit1) ∧
    (startable (K10.wit13.core 0) = some 0) ∧
    (((K10.wit13.opGroup 0 0).any fun k => (K10.wit13.descPeek 0 k).elim false fun d => (K10.wit13.shapeNow 0 k d).isNone) = false) ∧
    ((K10.wit13.readGroup 0 (K10.wit13.opGroup 0 0)).snd.snd = 0) ∧ (K10.wit13.opGroup 0 0 ≠ []) ∧
    (K10.wit13.startKind 0 (K10.wit13.readGroup 0 (K10.wit13.opGroup 0 0)).snd.fst = Start.run K10.wit14) ∧
    ((K10.wit14.any fun o => o.shape.k != 0 && !shapeEmpty o.shape) = true) := by decide +kernel
theorem witness_OperationsStartAndEnd_rrl : (K10.wit15.up = true) ∧ (0 < 36) ∧ ((K10.wit15.core 0).work = some K10.wit1) ∧
    (0 < (K10.wit15.core 0).ops.length) ∧
    (unitAt (if false = true then wCounts ((K10.wit15.core 0).op 0).desc ((K10.wit15.core 0).op 0).shape else xCounts ((K10.wit15.core 0).op 0).desc ((K10.wit15.core 0).op 0).shape) (Tbl.get 0 (K10.wit15.core 0).fetched (0 * 2 + if false = true then 1 else 0)) = some (0, 0)) ∧
    (K10.wit15.landTile 0 ((if false = true then ((K10.wit15.core 0).op 0).desc.w else ((K10.wit15.core 0).op 0).desc.x).tile (Tbl.get 0 (K10.wit15.core 0).fetched (0 * 2 + if false = true then 1 else 0))) = some K10.wit16) ∧
    ((if false = true then ((K10.wit15.core 0).op 0).desc.w else ((K10.wit15.core 0).op 0).desc.x).space = 0) ∧
    (K10.wit15.arrived 0 ((if false = true then ((K10.wit15.core 0).op 0).desc.w else ((K10.wit15.core 0).op 0).desc.x).tile (Tbl.get 0 (K10.wit15.core 0).fetched (0 * 2 + if false = true then 1 else 0))) = false) ∧
    ((if false = true then ((K10.wit15.core 0).op 0).desc.w else ((K10.wit15.core 0).op 0).desc.x).tile (Tbl.get 0 (K10.wit15.core 0).fetched (0 * 2 + if false = true then 1 else 0)) < 4096) ∧
    ((if false = true then 1 else blocks ((K10.wit15.core 0).op 0).desc ((K10.wit15.core 0).op 0).shape) ≠ 0) ∧
    ((if false = true then tileSeq ((K10.wit15.core 0).op 0).desc ((K10.wit15.core 0).op 0).shape 0 else xTiles ((K10.wit15.core 0).op 0).desc ((K10.wit15.core 0).op 0).shape 0)[0 / if false = true then 1 else blocks ((K10.wit15.core 0).op 0).desc ((K10.wit15.core 0).op 0).shape]? = some K10.wit17) ∧
    ((if false = true then wRuns ((K10.wit15.core 0).op 0) K10.wit17 else xRuns ((K10.wit15.core 0).op 0) K10.wit17 (0 % if false = true then 1 else blocks ((K10.wit15.core 0).op 0).desc ((K10.wit15.core 0).op 0).shape)) = [K10.wit18]) ∧
    (K10.wit15.refusal (MemReq.mk (ReqSrc.master (coreMid 0)) (coreMid 0) false K10.wit18.fst K10.wit18.snd.snd none [] none) = none) ∧
    (reqInWindow (MemReq.mk (ReqSrc.master (coreMid 0)) (coreMid 0) false K10.wit18.fst K10.wit18.snd.snd none [] none) = false) ∧
    (K10.wit15.paused = false) ∧
    (K10.wit15.drawerSleeps (MemReq.mk (ReqSrc.master (coreMid 0)) (coreMid 0) false K10.wit18.fst K10.wit18.snd.snd none [] none) = false) ∧
    (K10.wit15.cueHolds (MemReq.mk (ReqSrc.master (coreMid 0)) (coreMid 0) false K10.wit18.fst K10.wit18.snd.snd none [] none) = none) ∧
    (K10.wit15.anyCached (MemReq.mk (ReqSrc.master (coreMid 0)) (coreMid 0) false K10.wit18.fst K10.wit18.snd.snd none [] none).addr (MemReq.mk (ReqSrc.master (coreMid 0)) (coreMid 0) false K10.wit18.fst K10.wit18.snd.snd none [] none).len = false) ∧
    (∀ (x : Nat), x ∈ sectorsOf (MemReq.mk (ReqSrc.master (coreMid 0)) (coreMid 0) false K10.wit18.fst K10.wit18.snd.snd none [] none).addr (MemReq.mk (ReqSrc.master (coreMid 0)) (coreMid 0) false K10.wit18.fst K10.wit18.snd.snd none [] none).len →
    (K10.wit15.locate x).isSome = true ∧ K10.wit15.sectorErr x = 0) := by decide +kernel
theorem witness_OperationsStartAndEnd_rrrll : (K10.wit19.up = true) ∧ (0 < 36) ∧ ((K10.wit19.core 0).work = some K10.wit1) ∧
    (0 < (K10.wit19.core 0).ops.length) ∧
    (unitAt (if false = true then wCounts ((K10.wit19.core 0).op 0).desc ((K10.wit19.core 0).op 0).shape else xCounts ((K10.wit19.core 0).op 0).desc ((K10.wit19.core 0).op 0).shape) (Tbl.get 0 (K10.wit19.core 0).fetched (0 * 2 + if false = true then 1 else 0)) = some (0, 0)) ∧
    (K10.wit19.landTile 0 ((if false = true then ((K10.wit19.core 0).op 0).desc.w else ((K10.wit19.core 0).op 0).desc.x).tile (Tbl.get 0 (K10.wit19.core 0).fetched (0 * 2 + if false = true then 1 else 0))) = some K10.wit16) ∧
    ((if false = true then ((K10.wit19.core 0).op 0).desc.w else ((K10.wit19.core 0).op 0).desc.x).space = 0) ∧
    (K10.wit19.arrived 0 ((if false = true then ((K10.wit19.core 0).op 0).desc.w else ((K10.wit19.core 0).op 0).desc.x).tile (Tbl.get 0 (K10.wit19.core 0).fetched (0 * 2 + if false = true then 1 else 0))) = false) ∧
    ((if false = true then ((K10.wit19.core 0).op 0).desc.w else ((K10.wit19.core 0).op 0).desc.x).tile (Tbl.get 0 (K10.wit19.core 0).fetched (0 * 2 + if false = true then 1 else 0)) < 4096) ∧
    ((if false = true then 1 else blocks ((K10.wit19.core 0).op 0).desc ((K10.wit19.core 0).op 0).shape) ≠ 0) ∧
    ((if false = true then tileSeq ((K10.wit19.core 0).op 0).desc ((K10.wit19.core 0).op 0).shape 0 else xTiles ((K10.wit19.core 0).op 0).desc ((K10.wit19.core 0).op 0).shape 0)[0 / if false = true then 1 else blocks ((K10.wit19.core 0).op 0).desc ((K10.wit19.core 0).op 0).shape]? = some K10.wit17) ∧
    ((List.foldl (fun st r => st.fst.fetchRun 0 K10.wit16.off st.snd r) (K10.wit19, 0) (if false = true then wRuns ((K10.wit19.core 0).op 0) K10.wit17 else xRuns ((K10.wit19.core 0).op 0) K10.wit17 (0 % if false = true then 1 else blocks ((K10.wit19.core 0).op 0).desc ((K10.wit19.core 0).op 0).shape))).snd = 0) := by decide +kernel
theorem witness_OperationsStartAndEnd_rrrlrl : (K10.wit20.up = true) ∧ (0 < 36) ∧ ((K10.wit20.core 0).work = some K10.wit1) ∧
    (0 < (K10.wit20.core 0).ops.length) ∧
    (unitAt (if false = true then wCounts ((K10.wit20.core 0).op 0).desc ((K10.wit20.core 0).op 0).shape else xCounts ((K10.wit20.core 0).op 0).desc ((K10.wit20.core 0).op 0).shape) (Tbl.get 0 (K10.wit20.core 0).fetched (0 * 2 + if false = true then 1 else 0)) = some (0, 0)) ∧
    (K10.wit20.landTile 0 ((if false = true then ((K10.wit20.core 0).op 0).desc.w else ((K10.wit20.core 0).op 0).desc.x).tile (Tbl.get 0 (K10.wit20.core 0).fetched (0 * 2 + if false = true then 1 else 0))) = some K10.wit16) ∧
    ((if false = true then ((K10.wit20.core 0).op 0).desc.w else ((K10.wit20.core 0).op 0).desc.x).space = 0) ∧
    (K10.wit20.arrived 0 ((if false = true then ((K10.wit20.core 0).op 0).desc.w else ((K10.wit20.core 0).op 0).desc.x).tile (Tbl.get 0 (K10.wit20.core 0).fetched (0 * 2 + if false = true then 1 else 0))) = false) ∧
    ((if false = true then ((K10.wit20.core 0).op 0).desc.w else ((K10.wit20.core 0).op 0).desc.x).tile (Tbl.get 0 (K10.wit20.core 0).fetched (0 * 2 + if false = true then 1 else 0)) < 4096) ∧
    ((if false = true then 1 else blocks ((K10.wit20.core 0).op 0).desc ((K10.wit20.core 0).op 0).shape) ≠ 0) ∧
    ((if false = true then tileSeq ((K10.wit20.core 0).op 0).desc ((K10.wit20.core 0).op 0).shape 0 else xTiles ((K10.wit20.core 0).op 0).desc ((K10.wit20.core 0).op 0).shape 0)[0 / if false = true then 1 else blocks ((K10.wit20.core 0).op 0).desc ((K10.wit20.core 0).op 0).shape]? = some K10.wit17) ∧
    ((List.foldl (fun st r => st.fst.fetchRun 0 K10.wit16.off st.snd r) (K10.wit20, 0) (if false = true then wRuns ((K10.wit20.core 0).op 0) K10.wit17 else xRuns ((K10.wit20.core 0).op 0) K10.wit17 (0 % if false = true then 1 else blocks ((K10.wit20.core 0).op 0).desc ((K10.wit20.core 0).op 0).shape))).snd = 1) ∧
    (K10.wit1.result = 0) := by decide +kernel
theorem witness_OperationsStartAndEnd_rrrlrr : (K10.wit21.up = true) ∧ (0 < 36) ∧ ((K10.wit21.core 0).work = some K10.wit1) ∧
    (0 < (K10.wit21.core 0).ops.length) ∧
    (unitAt (if true = true then wCounts ((K10.wit21.core 0).op 0).desc ((K10.wit21.core 0).op 0).shape else xCounts ((K10.wit21.core 0).op 0).desc ((K10.wit21.core 0).op 0).shape) (Tbl.get 0 (K10.wit21.core 0).fetched (0 * 2 + if true = true then 1 else 0)) = some (0, 0)) ∧
    (K10.wit21.landTile 0 ((if true = true then ((K10.wit21.core 0).op 0).desc.w else ((K10.wit21.core 0).op 0).desc.x).tile (Tbl.get 0 (K10.wit21.core 0).fetched (0 * 2 + if true = true then 1 else 0))) = some K10.wit22) ∧
    ((if true = true then ((K10.wit21.core 0).op 0).desc.w else ((K10.wit21.core 0).op 0).desc.x).space = 0) ∧
    (K10.wit21.arrived 0 ((if true = true then ((K10.wit21.core 0).op 0).desc.w else ((K10.wit21.core 0).op 0).desc.x).tile (Tbl.get 0 (K10.wit21.core 0).fetched (0 * 2 + if true = true then 1 else 0))) = false) ∧
    ((if true = true then ((K10.wit21.core 0).op 0).desc.w else ((K10.wit21.core 0).op 0).desc.x).tile (Tbl.get 0 (K10.wit21.core 0).fetched (0 * 2 + if true = true then 1 else 0)) < 4096) ∧
    ((if true = true then 1 else blocks ((K10.wit21.core 0).op 0).desc ((K10.wit21.core 0).op 0).shape) ≠ 0) ∧
    ((if true = true then tileSeq ((K10.wit21.core 0).op 0).desc ((K10.wit21.core 0).op 0).shape 0 else xTiles ((K10.wit21.core 0).op 0).desc ((K10.wit21.core 0).op 0).shape 0)[0 / if true = true then 1 else blocks ((K10.wit21.core 0).op 0).desc ((K10.wit21.core 0).op 0).shape]? = some K10.wit17) ∧
    ((List.foldl (fun st r => st.fst.fetchRun 0 K10.wit22.off st.snd r) (K10.wit21, 0) (if true = true then wRuns ((K10.wit21.core 0).op 0) K10.wit17 else xRuns ((K10.wit21.core 0).op 0) K10.wit17 (0 % if true = true then 1 else blocks ((K10.wit21.core 0).op 0).desc ((K10.wit21.core 0).op 0).shape))).snd = 2) := by decide +kernel
theorem witness_OperationsStartAndEnd_rrrrrrl : (K10.wit25.up = true) ∧ (0 < 36) ∧ ((K10.wit25.core 0).work = some K10.wit1) ∧
    ((K10.wit25.core 0).finish = some K10.wit26) ∧
    (((List.foldl (fun y ib => y.tile 0 K10.wit26 ib) (FinSt.mk (OutSt.mk K10.wit25 false false) 0 true) (outTiles K10.wit26)).x.held || (List.foldl (fun y ib => y.tile 0 K10.wit26 ib) (FinSt.mk (OutSt.mk K10.wit25 false false) 0 true) (outTiles K10.wit26)).ok && ((List.foldl (fun y ib => y.tile 0 K10.wit26 ib) (FinSt.mk (OutSt.mk K10.wit25 false false) 0 true) (outTiles K10.wit26)).x.s.padOutput 0 K10.wit26).held) = false) ∧
    ((List.foldl (fun y ib => y.tile 0 K10.wit26 ib) (FinSt.mk (OutSt.mk K10.wit25 false false) 0 true) (outTiles K10.wit26)).ok = true) := by decide +kernel
theorem witness_OperationsStartAndEnd_rrrrrrrl : (K10.wit27.up = true) ∧ (0 < 36) ∧ ((K10.wit27.core 0).work = some K10.wit1) ∧
    ((K10.wit27.core 0).finish = some K10.wit28) ∧
    (((List.foldl (fun y ib => y.tile 0 K10.wit28 ib) (FinSt.mk (OutSt.mk K10.wit27 false false) 0 true) (outTiles K10.wit28)).x.held || (List.foldl (fun y ib => y.tile 0 K10.wit28 ib) (FinSt.mk (OutSt.mk K10.wit27 false false) 0 true) (outTiles K10.wit28)).ok && ((List.foldl (fun y ib => y.tile 0 K10.wit28 ib) (FinSt.mk (OutSt.mk K10.wit27 false false) 0 true) (outTiles K10.wit28)).x.s.padOutput 0 K10.wit28).held) = false) ∧
    ((List.foldl (fun y ib => y.tile 0 K10.wit28 ib) (FinSt.mk (OutSt.mk K10.wit27 false false) 0 true) (outTiles K10.wit28)).ok = false) ∧
    (K10.wit1.result = 0) := by decide +kernel
theorem witness_OperationsStartAndEnd_rrrrrrrr : (K10u.wit0.up = true) ∧ (0 < 36) ∧ ((K10u.wit0.core 0).work = some K10u.wit1) ∧
    ((K10u.wit0.core 0).finish = some K10u.wit2) ∧
    (((List.foldl (fun y ib => y.tile 0 K10u.wit2 ib) (FinSt.mk (OutSt.mk K10u.wit0 false false) 0 true) (outTiles K10u.wit2)).x.held || (List.foldl (fun y ib => y.tile 0 K10u.wit2 ib) (FinSt.mk (OutSt.mk K10u.wit0 false false) 0 true) (outTiles K10u.wit2)).ok && ((List.foldl (fun y ib => y.tile 0 K10u.wit2 ib) (FinSt.mk (OutSt.mk K10u.wit0 false false) 0 true) (outTiles K10u.wit2)).x.s.padOutput 0 K10u.wit2).held) = true) := by decide +kernel
theorem witness_PuppetRuns_ll : (K11a.wit0.up = true) ∧ (0 < 36) ∧ (K11a.wit0.chestUp (0 / 9) = true) ∧ (K11a.wit0.chestInReset (0 / 9) = false) ∧
    (K11a.wit1.length = 64) ∧ (K11a.wit0.maySubmit 0 K11a.wit1 K11a.wit2 = true) ∧ (K11a.wit0.runRefused 0 K11a.wit1 = false) := by decide +kernel
theorem witness_PuppetRuns_lr : (K11a.wit0.up = true) ∧ (1 < 36) ∧ (K11a.wit0.chestUp (1 / 9) = true) ∧ (K11a.wit0.chestInReset (1 / 9) = false) ∧
    (K11a.wit1.length = 64) ∧ (K11a.wit0.maySubmit 1 K11a.wit1 K11a.wit2 = true) ∧ (K11a.wit0.runRefused 1 K11a.wit1 = true) := by decide +kernel
theorem witness_PuppetRuns_rll : (K11a.wit3.up = true) ∧ (0 < 36) ∧ (K11a.wit3.chestUp (0 / 9) = true) ∧ (K11a.wit3.chestInReset (0 / 9) = false) ∧
    (K11a.wit3.isSet (R.SLC_STATUS.offline 0) = true) ∧ (K11a.wit3.runRefused 0 (K11a.wit3.hostRun 0) = false) := by decide +kernel
theorem witness_PuppetRuns_rlr : (K11a.wit0.up = true) ∧ (0 < 36) ∧ (K11a.wit0.chestUp (0 / 9) = true) ∧ (K11a.wit0.chestInReset (0 / 9) = false) ∧
    (K11a.wit0.isSet (R.SLC_STATUS.offline 0) = false) := by decide +kernel
theorem witness_PuppetRuns_rrll : (K11a.wit3.up = true) ∧ (0 < 36) ∧ (K11a.wit3.chestUp (0 / 9) = true) ∧ (K11a.wit3.chestInReset (0 / 9) = false) ∧
    (K11a.wit3.runRefused 0 (K11a.wit3.hostRun 0) = false) := by decide +kernel
theorem witness_PuppetRuns_rrlr : (K11a.wit0.up = true) ∧ (0 < 36) ∧ (K11a.wit0.chestUp (0 / 9) = true) ∧ (K11a.wit0.chestInReset (0 / 9) = false) ∧
    (K11a.wit0.runRefused 0 (K11a.wit0.hostRun 0) = true) ∧ (K11a.wit4 = Master.cc 0 ∨ K11a.wit4 = Master.host 0 ∧
    K11a.wit0.isSet (R.SLC_STATUS.offline 0) = true) := by decide +kernel
theorem witness_PuppetRuns_rrrll : (K11a.wit5.up = true) ∧ (0 < 36) ∧ (K11a.wit5.chestUp (0 / 9) = true) ∧ (K11a.wit5.chestInReset (0 / 9) = false) ∧
    ((K11a.wit5.pup 0).run = none) ∧ ((K11a.wit5.pup 0).queue = (K11a.wit1, K11a.wit2) :: K11a.wit6) ∧
    ((K11a.wit5.pup 0).lost = true) := by decide +kernel
theorem witness_PuppetRuns_rrrlrl : (K11a.wit7.up = true) ∧ (0 < 36) ∧ (K11a.wit7.chestUp (0 / 9) = true) ∧
    (K11a.wit7.chestInReset (0 / 9) = false) ∧ ((K11a.wit7.pup 0).run = none) ∧ ((K11a.wit7.pup 0).queue = (K11a.wit8, K11a.wit2) :: K11a.wit9) ∧
    ((K11a.wit7.pup 0).lost = false) ∧
    ((if (bit (runBcast K11a.wit8) 63 || runBcastSlots K11a.wit8 * 256 == 0) = true then (K11a.wit7, 0, List.replicate (runBcastSlots K11a.wit8 * 256) 0) else K11a.wit7.unitRead (pupMid 0) (bits (runBcast K11a.wit8) 38 0) (runBcastSlots K11a.wit8 * 256)).snd.fst = 15) := by decide +kernel
theorem witness_PuppetRuns_rrrlrrl : (K11a.wit10.up = true) ∧ (0 < 36) ∧ (K11a.wit10.chestUp (0 / 9) = true) ∧
    (K11a.wit10.chestInReset (0 / 9) = false) ∧ ((K11a.wit10.pup 0).run = none) ∧ ((K11a.wit10.pup 0).queue = (K11a.wit8, K11a.wit2) :: K11a.wit9) ∧
    ((K11a.wit10.pup 0).lost = false) ∧
    ((if (bit (runBcast K11a.wit8) 63 || runBcastSlots K11a.wit8 * 256 == 0) = true then (K11a.wit10, 0, List.replicate (runBcastSlots K11a.wit8 * 256) 0) else K11a.wit10.unitRead (pupMid 0) (bits (runBcast K11a.wit8) 38 0) (runBcastSlots K11a.wit8 * 256)).snd.fst ≠ 0) ∧
    ((if (bit (runBcast K11a.wit8) 63 || runBcastSlots K11a.wit8 * 256 == 0) = true then (K11a.wit10, 0, List.replicate (runBcastSlots K11a.wit8 * 256) 0) else K11a.wit10.unitRead (pupMid 0) (bits (runBcast K11a.wit8) 38 0) (runBcastSlots K11a.wit8 * 256)).snd.fst ≠ 15) := by decide +kernel
theorem witness_PuppetRuns_rrrlrrr : (K11a.wit11.up = true) ∧ (0 < 36) ∧ (K11a.wit11.chestUp (0 / 9) = true) ∧
    (K11a.wit11.chestInReset (0 / 9) = false) ∧ ((K11a.wit11.pup 0).run = none) ∧ ((K11a.wit11.pup 0).queue = (K11a.wit1, K11a.wit2) :: K11a.wit9) ∧
    ((K11a.wit11.pup 0).lost = false) ∧
    ((if (bit (runBcast K11a.wit1) 63 || runBcastSlots K11a.wit1 * 256 == 0) = true then (K11a.wit11, 0, List.replicate (runBcastSlots K11a.wit1 * 256) 0) else K11a.wit11.unitRead (pupMid 0) (bits (runBcast K11a.wit1) 38 0) (runBcastSlots K11a.wit1 * 256)).snd.fst = 0) := by decide +kernel
theorem witness_PuppetRuns_rrrrl : (K11a.wit12.up = true) ∧ (0 < 36) ∧ (K11a.wit12.chestUp (0 / 9) = true) ∧
    (K11a.wit12.chestInReset (0 / 9) = false) ∧ ((K11a.wit12.pup 0).run = some K11a.wit13) ∧ ((K11a.wit12.pup 0).cue = none) ∧
    (K11a.wit13.started = true) ∧ (K11a.wit13.part ≠ 3) ∧ (K11a.wit12.cueMayRun 0 = true) := by decide +kernel
theorem witness_PuppetRuns_rrrrrl : (K11a.wit14.up = true) ∧ (0 < 36) ∧ (K11a.wit14.chestUp (0 / 9) = true) ∧
    (K11a.wit14.chestInReset (0 / 9) = false) ∧ ((K11a.wit14.pup 0).run = some K11a.wit15) ∧ ((K11a.wit14.pup 0).cue = some 2) ∧
    (K11a.wit15.done = true) := by decide +kernel
theorem witness_PuppetRuns_rrrrrrl : (K11a.wit16.up = true) ∧ (0 < 36) ∧ (K11a.wit16.chestUp (0 / 9) = true) ∧
    (K11a.wit16.chestInReset (0 / 9) = false) ∧ ((K11a.wit16.pup 0).run = some K11a.wit17) ∧ ((K11a.wit16.pup 0).cue = none) ∧
    (K11a.wit17.started = true) ∧ (K11a.wit17.part = 3) ∧ (K11a.wit17.written = false) ∧ (runNoRecords K11a.wit17.bytes = false) := by decide +kernel
theorem witness_PuppetRuns_rrrrrrrl : (K11a.wit16.up = true) ∧ (0 < 36) ∧ (K11a.wit16.chestUp (0 / 9) = true) ∧
    (K11a.wit16.chestInReset (0 / 9) = false) ∧ ((K11a.wit16.pup 0).run = some K11a.wit17) ∧ ((K11a.wit16.pup 0).cue = none) ∧
    (K11a.wit17.started = true) ∧ (K11a.wit17.part = 3) ∧ (K11a.wit17.written = false) ∧ (runNoRecords K11a.wit17.bytes = false) ∧
    (K11a.wit16.landTile (K11a.wit16.coreKey (runTarget K11a.wit17.bytes)) (runLanding K11a.wit17.bytes) = some K11a.wit18) ∧
    (K11a.wit17.rows * K11a.wit17.puppets.length * (64 * runRecUnits K11a.wit17.bytes) ≤ K11a.wit18.len) ∧
    (0 < K11a.wit17.rows * K11a.wit17.puppets.length * (64 * runRecUnits K11a.wit17.bytes)) ∧
    (K11a.wit16.coreInReset (K11a.wit16.coreKey (runTarget K11a.wit17.bytes)) = false) ∧
    (K11a.wit16.arrived (K11a.wit16.coreKey (runTarget K11a.wit17.bytes)) (runLanding K11a.wit17.bytes) = false) := by decide +kernel
theorem witness_PuppetRuns_rrrrrrrrl : (K11a.wit19.up = true) ∧ (0 < 36) ∧ (K11a.wit19.chestUp (0 / 9) = true) ∧
    (K11a.wit19.chestInReset (0 / 9) = false) ∧ ((K11a.wit19.pup 0).run = some K11a.wit20) ∧ ((K11a.wit19.pup 0).cue = none) ∧
    (K11a.wit20.started = true) ∧ (K11a.wit20.part = 3) ∧ (K11a.wit20.written = true ∨ runNoRecords K11a.wit20.bytes = true) := by decide +kernel
theorem witness_PuppetRuns_rrrrrrrrr : (K11a.wit0.up = true) ∧ (0 < 36) ∧ (K11a.wit0.chestUp (0 / 9) = true) ∧
    (K11a.wit0.chestInReset (0 / 9) = false) := by decide +kernel
theorem witness_PuppetRegisterInstructions_l : (K11b.wit0.up = true) ∧ (K11b.wit0.pupNext 0 = some K11b.wit1) ∧ (K11b.wit1.op = 0) ∧
    (K11b.wit1.f = K11b.wit2) ∧ (K11b.wit1.run.iter = 0) := by decide +kernel
theorem witness_PuppetRegisterInstructions_rl : (K11b.wit3.up = true) ∧ (K11b.wit3.pupNext 0 = some K11b.wit4) ∧ (K11b.wit4.op = 13) ∧
    (K11b.wit4.f = K11b.wit2) ∧ (K11b.wit4.run.iter = 0) := by decide +kernel
theorem witness_PuppetRegisterInstructions_rrl : (K11b.wit5.up = true) ∧ (15 = 14 → K11b.wit2.fn = 0) ∧ (K11b.wit5.pupNext 0 = some K11b.wit6) ∧
    (K11b.wit6.op = 15) ∧ (K11b.wit6.f = K11b.wit2) ∧ (K11b.wit6.run.iter = 0) := by decide +kernel
theorem witness_PuppetRegisterInstructions_rrrl : (K11b.wit7.up = true) ∧ (K11b.wit8.fn ≠ 0) ∧ (K11b.wit7.pupNext 0 = some K11b.wit9) ∧
    (K11b.wit9.op = 14) ∧ (K11b.wit9.f = K11b.wit8) ∧ (K11b.wit9.run.iter = 0) := by decide +kernel
theorem witness_PuppetRegisterInstructions_rrrrll : (K11b.wit10.up = true) ∧ (runNoRecords K11b.wit11.run.bytes = false) ∧
    (K11b.wit2.imm < 16 * runRecUnits K11b.wit11.run.bytes) ∧ (K11b.wit10.pupNext 0 = some K11b.wit11) ∧ (K11b.wit11.op = 19) ∧
    (K11b.wit11.f = K11b.wit2) ∧ (K11b.wit11.run.iter = 0) := by decide +kernel
theorem witness_PuppetRegisterInstructions_rrrrlr : (K11b.wit12.up = true) ∧ (runNoRecords K11b.wit13.run.bytes = false) ∧
    (K11b.wit2.imm < 16 * runRecUnits K11b.wit13.run.bytes) ∧ (K11b.wit12.pupNext 0 = some K11b.wit13) ∧ (K11b.wit13.op = 20) ∧
    (K11b.wit13.f = K11b.wit2) ∧ (K11b.wit13.run.iter = 0) := by decide +kernel
theorem witness_PuppetRegisterInstructions_rrrrrl : (K11b.wit10.up = true) ∧ (K11b.wit10.pupNext 0 = some K11b.wit11) ∧ (K11b.wit11.op = 19) ∧
    (K11b.wit11.f = K11b.wit2) ∧ (K11b.wit11.run.iter = 0) := by decide +kernel
theorem witness_PuppetRegisterInstructions_rrrrrrl : (K11b.wit12.up = true) ∧ (K11b.wit12.pupNext 0 = some K11b.wit13) ∧ (K11b.wit13.op = 20) ∧
    (K11b.wit13.f = K11b.wit2) ∧ (K11b.wit13.run.iter = 0) := by decide +kernel
theorem witness_PuppetRegisterInstructions_rrrrrrr : (K11b.wit14.up = true) ∧ (K11b.wit14.pupNext 0 = some K11b.wit15) ∧ (K11b.wit15.op = 21) ∧
    (K11b.wit15.f = K11b.wit2) ∧ (K11b.wit15.run.iter = 0) := by decide +kernel
theorem witness_PuppetColumnInstructions_rrrr : (K11c2.wit3.up = true) ∧ (K11c2.wit3.pupNext 0 = some K11c2.wit4) ∧ (K11c2.wit4.op = 6) ∧
    (K11c2.wit4.f = K11c2.wit2) ∧ (K11c2.wit4.run.iter = 0) := by decide +kernel
theorem witness_LayoutLoading_l : (K13a.wit0.up = true) ∧ (bit 1 0 = true) ∧ (K13a.wit0.loadBusy = false) ∧ (K13a.wit0.stepState 6 = 2) ∧
    (K13a.wit0.getF R.LAY_SRC_LO.address % 64 = 0) ∧ (16 ≤ K13a.wit0.getF R.LAY_LEN.units) ∧
    (K13a.wit0.getF R.LAY_LEN.units ≤ 16777216) := by decide +kernel
theorem witness_LayoutLoading_rl : (K13a.wit0.up = true) ∧ (bit 0 0 = false) := by decide +kernel
theorem witness_LayoutLoading_rrl : (K13a.wit1.up = true) ∧ (bit 1 0 = true) ∧
    (K13a.wit1.loadBusy = true ∨ K13a.wit1.stepState 6 ≠ 2) := by decide +kernel
theorem witness_LayoutLoading_rrrl : (K13a.wit2.up = true) ∧ (bit 1 0 = true) ∧ (K13a.wit2.loadBusy = false) ∧ (K13a.wit2.stepState 6 = 2) ∧
    (K13a.wit2.layState < 8) ∧
    (K13a.wit2.getF R.LAY_SRC_LO.address % 64 ≠ 0 ∨ K13a.wit2.getF R.LAY_LEN.units < 16 ∨ 16777216 < K13a.wit2.getF R.LAY_LEN.units) := by decide +kernel
theorem witness_LayoutLoading_rrrrl : (K13a.wit3.up = true) ∧ (K13a.wit3.layState = 1) ∧ (K13a.wit3.lay.before < 8) ∧ (K13a.wit4.ok = true →
    K13a.wit4.bytes.length = K13a.wit3.getF R.LAY_LEN.units * 64) ∧ (K13a.wit4.ok = false →
    K13a.wit4.bytes.length < K13a.wit3.getF R.LAY_LEN.units * 64) := by decide +kernel
theorem witness_LayoutLoading_rrrrrll : (K13a.wit5.up = true) ∧ (K13a.wit5.lay.staged = some K13a.wit6) ∧ (K13a.wit5.layState = 3) ∧
    (K13a.wit5.paused = false) ∧ (K13a.wit5.rst.running = []) ∧ (K13a.wit5.marginMeets K13a.wit6 0 = false) := by decide +kernel
theorem witness_LayoutLoading_rrrrrlr : (K13a.wit5.up = true) ∧ (K13a.wit5.lay.staged = some K13a.wit6) ∧ (K13a.wit5.layState = 3) ∧
    (K13a.wit5.paused = false) ∧ (K13a.wit5.rst.running = []) ∧ (K13a.wit5.marginMeets K13a.wit6 0 = false) := by decide +kernel
theorem witness_LayoutLoading_rrrrrrl : (K13a.wit7.up = true) ∧ (K13a.wit7.lay.staged = some K13a.wit6) ∧ (K13a.wit7.layState = 3) ∧
    (K13a.wit7.paused = true ∨ K13a.wit7.rst.running ≠ [] ∨ K13a.wit7.marginMeets K13a.wit6 0 = true) := by decide +kernel
theorem witness_LayoutLoading_rrrrrrrl : (K13a.wit0.up = true) ∧ (bit 0 1 = false) := by decide +kernel
theorem witness_LayoutLoading_rrrrrrrrl : (K13a.wit0.up = true) ∧ (bit 0 2 = false) := by decide +kernel
theorem witness_LayoutLoading_rrrrrrrrrl : (K13a.wit8.up = true) ∧ (bit 2 1 = true) ∧ (K13a.wit8.layState = 4) ∧
    (K13a.wit8.tickNow + 16 ≤ K13a.wit8.getPair R.LAY_START_LO) := by decide +kernel
theorem witness_LayoutLoading_rrrrrrrrrrl : (K13a.wit0.up = true) ∧ (bit 2 1 = true) ∧
    (K13a.wit0.layState ≠ 4 ∨ K13a.wit0.getPair R.LAY_START_LO < K13a.wit0.tickNow + 16) := by decide +kernel
theorem witness_LayoutLoading_rrrrrrrrrrrl : (K13a.wit0.up = true) ∧ (bit 4 2 = true) ∧ (K13a.wit0.loadBusy = false) := by decide +kernel
theorem witness_LayoutLoading_rrrrrrrrrrrr : (K13a.wit1.up = true) ∧ (bit 4 2 = true) ∧ (K13a.wit1.loadBusy = true) := by decide +kernel
theorem witness_LayoutEpochs_l : (K13.wit0.up = true) ∧ (K13.wit0.runState = 4) ∧ (K13.wit0.lay.start ≠ 0) ∧
    (K13.wit0.lay.start ≤ K13.wit0.tickNow) := by decide +kernel
theorem witness_LayoutEpochs_rlll : (K13.wit1.up = true) ∧ (K13.wit1.slotList[0]? = some K13.wit2) ∧ (K13.wit1.runsEpochs = true) ∧
    (K13.wit2.dir = 0) ∧ (K13.wit1.lay.switchDue = false) ∧ (Tbl.get 0 K13.wit1.lay.slotSt 0 = 0) ∧
    (K13.wit1.lay.start + K13.wit2.start ≤ K13.wit1.tickNow) ∧ ((K13.wit1.slotData K13.wit2).snd.isSome = true) := by decide +kernel
theorem witness_LayoutEpochs_rllrl : (K13.wit3.up = true) ∧ (K13.wit3.slotList[0]? = some K13.wit4) ∧ (K13.wit3.runsEpochs = true) ∧
    (K13.wit4.dir = 0) ∧ (K13.wit3.lay.switchDue = false) ∧ (Tbl.get 0 K13.wit3.lay.slotSt 0 = 0) ∧
    (K13.wit3.lay.start + K13.wit4.start ≤ K13.wit3.tickNow) ∧ ((K13.wit3.slotData K13.wit4).snd.isSome = false) := by decide +kernel
theorem witness_LayoutEpochs_rllrr : (K13.wit1.up = true) ∧ (K13.wit1.slotList[0]? = some K13.wit2) ∧ (K13.wit1.runsEpochs = true) ∧
    (K13.wit2.dir = 0) ∧ (K13.wit1.lay.switchDue = false) ∧ (Tbl.get 0 K13.wit1.lay.slotSt 0 = 0) ∧
    (K13.wit1.lay.start + K13.wit2.start ≤ K13.wit1.tickNow) := by decide +kernel
theorem witness_LayoutEpochs_rlrl : (K13.wit5.up = true) ∧ (K13.wit5.slotList[0]? = some K13.wit2) ∧ (K13.wit5.runsEpochs = true) ∧
    (K13.wit2.dir = 0) ∧ (Tbl.get 0 K13.wit5.lay.slotSt 0 = 1) ∧ ((K13.wit5.slotData K13.wit2).snd.isSome = true) := by decide +kernel
theorem witness_LayoutEpochs_rlrr : (K13.wit6.up = true) ∧ (K13.wit6.slotList[0]? = some K13.wit4) ∧ (K13.wit6.runsEpochs = true) ∧
    (K13.wit4.dir = 0) ∧ (Tbl.get 0 K13.wit6.lay.slotSt 0 = 1) ∧ ((K13.wit6.slotData K13.wit4).snd.isSome = false) := by decide +kernel
theorem witness_LayoutEpochs_rrl : (K13.wit7.up = true) ∧ (K13.wit7.runsEpochs = true) ∧ (K13.wit7.lay.closed = false) ∧
    (K13.wit7.lay.switchDue = false) ∧ (K13.wit7.transfersDone = true) ∧ (K13.wit7.switchNext = true → K13.wit7.drained = true) := by decide +kernel
theorem witness_LayoutEpochs_rrrl : (K13.wit8.up = true) ∧ (K13.wit8.runsEpochs = true) ∧ (K13.wit8.lay.closed = true) ∧
    (K13.wit8.allClosed = true) ∧ (K13.wit8.nextStart ≤ K13.wit8.tickNow) ∧ (K13.wit8.lay.stopDue = false) := by decide +kernel
theorem witness_LayoutEpochs_rrrrl : (K13.wit9.up = true) ∧ (K13.wit9.runsEpochs = true) ∧ (K13.wit9.lay.closed = true) ∧
    (K13.wit9.allClosed = true) ∧ (K13.wit9.nextStart ≤ K13.wit9.tickNow) ∧ (K13.wit9.lay.stopDue = true) := by decide +kernel
theorem witness_LayoutEpochs_rrrrrl : (K13.wit1.up = true) ∧ (K13.wit1.runState = 5 ∨ K13.wit1.runState = 6) ∧ (K13.wit1.lay.began = true) ∧
    (K13.wit1.allClosed = false) ∧ (K13.wit1.nominalEnd + 2 ^ K13.wit1.group.e ≤ K13.wit1.tickNow) := by decide +kernel
theorem witness_LayoutEpochs_rrrrrrl : (K13.wit10.up = true) ∧ (K13.wit10.runsEpochs = true) ∧ (K13.wit10.lay.switchDue = true) ∧
    (K13.wit10.drained = true) ∧ (K13.wit10.paused = false) ∧ (K13.wit10.rst.running = []) ∧ (∀ (i : Image), K13.wit10.lay.force = some i →
    K13.wit10.marginMeets i (K13.wit10.schedAt K13.wit10.lay.entry).act = false) := by decide +kernel
theorem witness_LayoutEpochs_rrrrrrr : (K13.wit0.up = true) ∧
    (K13.wit0.runsEpochs = false ∨ K13.wit0.lay.switchDue = false ∨ K13.wit0.drained = false ∨ K13.wit0.paused = true ∨ K13.wit0.rst.running ≠ []) := by decide +kernel
theorem witness_FabricReceive_l : (K14a.wit0.up = true) ∧ (2 < 8) ∧ (K14a.wit0.portIsUp 2 = true) ∧ (K14a.wit1.op = 0) ∧
    (K14a.wit1.hdr.seqd = false) ∧ (K14a.wit0.rxSpoilt 2 = false) := by decide +kernel
theorem witness_FabricReceive_rll : (K14a.wit0.up = true) ∧ (2 < 8) ∧ (K14a.wit0.portIsUp 2 = true) ∧ (1 = K14a.wit2.op) ∧
    (K14a.wit2.hdr.seqd = true) ∧ (((K14a.wit0.rxTurn 2).rxFields 2 K14a.wit2).expects 2 K14a.wit2 = true) ∧
    (((K14a.wit0.rxTurn 2).rxFields 2 K14a.wit2).dropCause K14a.wit2 = none) ∧ (K14a.wit0.rxSpoilt 2 = false) := by decide +kernel
theorem witness_FabricReceive_rrll : (K14a.wit0.up = true) ∧ (2 < 8) ∧ (K14a.wit0.portIsUp 2 = true) ∧ (K14a.wit4.op = 9) ∧
    (1 = fieldAt K14a.wit4.payload 0 1) ∧ (K14a.wit4.hdr.seqd = true) ∧ (((K14a.wit0.rxTurn 2).rxFields 2 K14a.wit4).expects 2 K14a.wit4 = true) ∧
    (((K14a.wit0.rxTurn 2).rxFields 2 K14a.wit4).dropCause K14a.wit4 = none) ∧ (K14a.wit0.rxSpoilt 2 = false) := by decide +kernel
theorem witness_FabricReceive_rrlr : (K14a.wit5.up = true) ∧ (2 < 8) ∧ (K14a.wit5.portIsUp 2 = true) ∧ (K14a.wit4.op = 9) ∧
    (1 = fieldAt K14a.wit4.payload 0 1) ∧ (K14a.wit4.hdr.seqd = true) ∧
    (K14a.wit5.rxSpoilt 2 = true ∨ ((K14a.wit5.rxTurn 2).rxFields 2 K14a.wit4).expects 2 K14a.wit4 = false) := by decide +kernel
theorem witness_FabricReceive_rrrl : (K14a.wit0.up = true) ∧ (2 < 8) ∧ (K14a.wit0.portIsUp 2 = true) ∧ (K14a.wit2.hdr.seqd = true) ∧
    (((K14a.wit0.rxTurn 2).rxFields 2 K14a.wit2).expects 2 K14a.wit2 = true) ∧
    (((K14a.wit0.rxTurn 2).rxFields 2 K14a.wit2).dropCause K14a.wit2 = none) ∧ (K14a.wit0.rxSpoilt 2 = false) ∧ (K14a.wit2.op = 1) ∧
    ((((K14a.wit0.rxTurn 2).rxFields 2 K14a.wit2).port 2).inbound = none) ∧ (flitFirst K14a.wit2 = true) ∧
    (((K14a.wit0.rxTurn 2).rxFields 2 K14a.wit2).coreInReset (((K14a.wit0.rxTurn 2).rxFields 2 K14a.wit2).coreKey (flitCore K14a.wit2)) = false) ∧
    (((K14a.wit0.rxTurn 2).rxFields 2 K14a.wit2).landTile (((K14a.wit0.rxTurn 2).rxFields 2 K14a.wit2).coreKey (flitCore K14a.wit2)) (flitTag K14a.wit2) = some K14a.wit6) ∧
    (K14a.wit2.payload.length ≤ K14a.wit6.len) ∧
    (((K14a.wit0.rxTurn 2).rxFields 2 K14a.wit2).arrived (((K14a.wit0.rxTurn 2).rxFields 2 K14a.wit2).coreKey (flitCore K14a.wit2)) (flitTag K14a.wit2) = false) ∧
    (((K14a.wit0.rxTurn 2).rxFields 2 K14a.wit2).coreKey (flitCore K14a.wit2) < 36) := by decide +kernel
theorem witness_FabricReceive_rrrrl : (K14a.wit0.up = true) ∧ (2 < 8) ∧ (K14a.wit0.portIsUp 2 = true) ∧ (K14a.wit7.hdr.seqd = true) ∧
    (((K14a.wit0.rxTurn 2).rxFields 2 K14a.wit7).expects 2 K14a.wit7 = true) ∧
    (((K14a.wit0.rxTurn 2).rxFields 2 K14a.wit7).dropCause K14a.wit7 = none) ∧ (K14a.wit0.rxSpoilt 2 = false) ∧ (K14a.wit7.op = 2) ∧
    (flitFirst K14a.wit7 = true) ∧ (flitLast K14a.wit7 = true) ∧ (0 < reqLength K14a.wit7.payload) ∧ (bit (reqKind K14a.wit7.payload) 0 = false) ∧
    (((K14a.wit0.rxTurn 2).rxFields 2 K14a.wit7).refusal (MemReq.mk (ReqSrc.fabric K14a.wit7.hdr.src (flitTag K14a.wit7) K14a.wit7.op) (portMid 2) false (bits (reqTarget K14a.wit7.payload) 38 0) (reqLength K14a.wit7.payload) none [] none) = none) ∧
    (reqInWindow (MemReq.mk (ReqSrc.fabric K14a.wit7.hdr.src (flitTag K14a.wit7) K14a.wit7.op) (portMid 2) false (bits (reqTarget K14a.wit7.payload) 38 0) (reqLength K14a.wit7.payload) none [] none) = false) ∧
    (((K14a.wit0.rxTurn 2).rxFields 2 K14a.wit7).paused = false) ∧
    (((K14a.wit0.rxTurn 2).rxFields 2 K14a.wit7).drawerSleeps (MemReq.mk (ReqSrc.fabric K14a.wit7.hdr.src (flitTag K14a.wit7) K14a.wit7.op) (portMid 2) false (bits (reqTarget K14a.wit7.payload) 38 0) (reqLength K14a.wit7.payload) none [] none) = false) ∧
    (((K14a.wit0.rxTurn 2).rxFields 2 K14a.wit7).cueHolds (MemReq.mk (ReqSrc.fabric K14a.wit7.hdr.src (flitTag K14a.wit7) K14a.wit7.op) (portMid 2) false (bits (reqTarget K14a.wit7.payload) 38 0) (reqLength K14a.wit7.payload) none [] none) = none) ∧
    ((MemReq.mk (ReqSrc.fabric K14a.wit7.hdr.src (flitTag K14a.wit7) K14a.wit7.op) (portMid 2) false (bits (reqTarget K14a.wit7.payload) 38 0) (reqLength K14a.wit7.payload) none [] none).addr % 512 + (MemReq.mk (ReqSrc.fabric K14a.wit7.hdr.src (flitTag K14a.wit7) K14a.wit7.op) (portMid 2) false (bits (reqTarget K14a.wit7.payload) 38 0) (reqLength K14a.wit7.payload) none [] none).len ≤ 512) ∧
    (∀ (x : Nat), x ∈ sectorsOf (MemReq.mk (ReqSrc.fabric K14a.wit7.hdr.src (flitTag K14a.wit7) K14a.wit7.op) (portMid 2) false (bits (reqTarget K14a.wit7.payload) 38 0) (reqLength K14a.wit7.payload) none [] none).addr (MemReq.mk (ReqSrc.fabric K14a.wit7.hdr.src (flitTag K14a.wit7) K14a.wit7.op) (portMid 2) false (bits (reqTarget K14a.wit7.payload) 38 0) (reqLength K14a.wit7.payload) none [] none).len →
    (((K14a.wit0.rxTurn 2).rxFields 2 K14a.wit7).locate x).isSome = true ∧ ((K14a.wit0.rxTurn 2).rxFields 2 K14a.wit7).sectorErr x ≤ 1) ∧
    (((K14a.wit0.rxTurn 2).rxFields 2 K14a.wit7).homePort K14a.wit7.hdr.src = some 2) := by decide +kernel
theorem witness_FabricReceive_rrrrrl : (K14a.wit0.up = true) ∧ (2 < 8) ∧ (K14a.wit0.portIsUp 2 = true) ∧ (K14a.wit7.hdr.seqd = true) ∧
    (((K14a.wit0.rxTurn 2).rxFields 2 K14a.wit7).expects 2 K14a.wit7 = true) ∧
    (((K14a.wit0.rxTurn 2).rxFields 2 K14a.wit7).dropCause K14a.wit7 = none) ∧ (K14a.wit0.rxSpoilt 2 = false) ∧ (K14a.wit7.op = 2) ∧
    (flitFirst K14a.wit7 = true) ∧ (flitLast K14a.wit7 = true) ∧ (0 < reqLength K14a.wit7.payload) ∧ (reqLength K14a.wit7.payload ≤ 4096) ∧
    (bit (reqKind K14a.wit7.payload) 0 = false) ∧
    (((K14a.wit0.rxTurn 2).rxFields 2 K14a.wit7).refusal (MemReq.mk (ReqSrc.fabric K14a.wit7.hdr.src (flitTag K14a.wit7) K14a.wit7.op) (portMid 2) false (bits (reqTarget K14a.wit7.payload) 38 0) (reqLength K14a.wit7.payload) none [] none) = none) ∧
    (reqInWindow (MemReq.mk (ReqSrc.fabric K14a.wit7.hdr.src (flitTag K14a.wit7) K14a.wit7.op) (portMid 2) false (bits (reqTarget K14a.wit7.payload) 38 0) (reqLength K14a.wit7.payload) none [] none) = false) ∧
    (((K14a.wit0.rxTurn 2).rxFields 2 K14a.wit7).paused = false) ∧
    (((K14a.wit0.rxTurn 2).rxFields 2 K14a.wit7).drawerSleeps (MemReq.mk (ReqSrc.fabric K14a.wit7.hdr.src (flitTag K14a.wit7) K14a.wit7.op) (portMid 2) false (bits (reqTarget K14a.wit7.payload) 38 0) (reqLength K14a.wit7.payload) none [] none) = false) ∧
    (((K14a.wit0.rxTurn 2).rxFields 2 K14a.wit7).cueHolds (MemReq.mk (ReqSrc.fabric K14a.wit7.hdr.src (flitTag K14a.wit7) K14a.wit7.op) (portMid 2) false (bits (reqTarget K14a.wit7.payload) 38 0) (reqLength K14a.wit7.payload) none [] none) = none) ∧
    (((K14a.wit0.rxTurn 2).rxFields 2 K14a.wit7).anyCached (MemReq.mk (ReqSrc.fabric K14a.wit7.hdr.src (flitTag K14a.wit7) K14a.wit7.op) (portMid 2) false (bits (reqTarget K14a.wit7.payload) 38 0) (reqLength K14a.wit7.payload) none [] none).addr (MemReq.mk (ReqSrc.fabric K14a.wit7.hdr.src (flitTag K14a.wit7) K14a.wit7.op) (portMid 2) false (bits (reqTarget K14a.wit7.payload) 38 0) (reqLength K14a.wit7.payload) none [] none).len = false) ∧
    (∀ (x : Nat), x ∈ sectorsOf (MemReq.mk (ReqSrc.fabric K14a.wit7.hdr.src (flitTag K14a.wit7) K14a.wit7.op) (portMid 2) false (bits (reqTarget K14a.wit7.payload) 38 0) (reqLength K14a.wit7.payload) none [] none).addr (MemReq.mk (ReqSrc.fabric K14a.wit7.hdr.src (flitTag K14a.wit7) K14a.wit7.op) (portMid 2) false (bits (reqTarget K14a.wit7.payload) 38 0) (reqLength K14a.wit7.payload) none [] none).len →
    (((K14a.wit0.rxTurn 2).rxFields 2 K14a.wit7).locate x).isSome = true ∧ ((K14a.wit0.rxTurn 2).rxFields 2 K14a.wit7).sectorErr x = 0) ∧
    (((K14a.wit0.rxTurn 2).rxFields 2 K14a.wit7).homePort K14a.wit7.hdr.src = some 2) := by decide +kernel
theorem witness_FabricReceive_rrrrrrl : (K14a.wit0.up = true) ∧ (2 < 8) ∧ (K14a.wit0.portIsUp 2 = true) ∧ (K14a.wit8.hdr.seqd = true) ∧
    (((K14a.wit0.rxTurn 2).rxFields 2 K14a.wit8).expects 2 K14a.wit8 = true) ∧
    (((K14a.wit0.rxTurn 2).rxFields 2 K14a.wit8).dropCause K14a.wit8 = none) ∧ (K14a.wit0.rxSpoilt 2 = false) ∧ (K14a.wit8.op = 3) ∧
    (flitFirst K14a.wit8 = true) ∧ (flitLast K14a.wit8 = true) ∧ (0 < reqLength K14a.wit8.payload) ∧
    (reqLength K14a.wit8.payload ≤ (List.drop 16 K14a.wit8.payload).length) ∧ ((List.drop 16 K14a.wit8.payload).length ≤ 4096) ∧
    (bit (reqKind K14a.wit8.payload) 0 = false) ∧
    (((K14a.wit0.rxTurn 2).rxFields 2 K14a.wit8).refusal (MemReq.mk (ReqSrc.fabric K14a.wit8.hdr.src (flitTag K14a.wit8) K14a.wit8.op) (portMid 2) false (bits (reqTarget K14a.wit8.payload) 38 0) (reqLength K14a.wit8.payload) (some (List.take (reqLength K14a.wit8.payload) (List.drop 16 K14a.wit8.payload))) [] none) = none) ∧
    (reqInWindow (MemReq.mk (ReqSrc.fabric K14a.wit8.hdr.src (flitTag K14a.wit8) K14a.wit8.op) (portMid 2) false (bits (reqTarget K14a.wit8.payload) 38 0) (reqLength K14a.wit8.payload) (some (List.take (reqLength K14a.wit8.payload) (List.drop 16 K14a.wit8.payload))) [] none) = false) ∧
    (((K14a.wit0.rxTurn 2).rxFields 2 K14a.wit8).paused = false) ∧
    (((K14a.wit0.rxTurn 2).rxFields 2 K14a.wit8).drawerSleeps (MemReq.mk (ReqSrc.fabric K14a.wit8.hdr.src (flitTag K14a.wit8) K14a.wit8.op) (portMid 2) false (bits (reqTarget K14a.wit8.payload) 38 0) (reqLength K14a.wit8.payload) (some (List.take (reqLength K14a.wit8.payload) (List.drop 16 K14a.wit8.payload))) [] none) = false) ∧
    (((K14a.wit0.rxTurn 2).rxFields 2 K14a.wit8).cueHolds (MemReq.mk (ReqSrc.fabric K14a.wit8.hdr.src (flitTag K14a.wit8) K14a.wit8.op) (portMid 2) false (bits (reqTarget K14a.wit8.payload) 38 0) (reqLength K14a.wit8.payload) (some (List.take (reqLength K14a.wit8.payload) (List.drop 16 K14a.wit8.payload))) [] none) = none) ∧
    (((K14a.wit0.rxTurn 2).rxFields 2 K14a.wit8).anyCached (MemReq.mk (ReqSrc.fabric K14a.wit8.hdr.src (flitTag K14a.wit8) K14a.wit8.op) (portMid 2) false (bits (reqTarget K14a.wit8.payload) 38 0) (reqLength K14a.wit8.payload) (some (List.take (reqLength K14a.wit8.payload) (List.drop 16 K14a.wit8.payload))) [] none).addr (MemReq.mk (ReqSrc.fabric K14a.wit8.hdr.src (flitTag K14a.wit8) K14a.wit8.op) (portMid 2) false (bits (reqTarget K14a.wit8.payload) 38 0) (reqLength K14a.wit8.payload) (some (List.take (reqLength K14a.wit8.payload) (List.drop 16 K14a.wit8.payload))) [] none).len = false) ∧
    (∀ (x : Nat), x ∈ sectorsOf (MemReq.mk (ReqSrc.fabric K14a.wit8.hdr.src (flitTag K14a.wit8) K14a.wit8.op) (portMid 2) false (bits (reqTarget K14a.wit8.payload) 38 0) (reqLength K14a.wit8.payload) (some (List.take (reqLength K14a.wit8.payload) (List.drop 16 K14a.wit8.payload))) [] none).addr (MemReq.mk (ReqSrc.fabric K14a.wit8.hdr.src (flitTag K14a.wit8) K14a.wit8.op) (portMid 2) false (bits (reqTarget K14a.wit8.payload) 38 0) (reqLength K14a.wit8.payload) (some (List.take (reqLength K14a.wit8.payload) (List.drop 16 K14a.wit8.payload))) [] none).len →
    (((K14a.wit0.rxTurn 2).rxFields 2 K14a.wit8).locate x).isSome = true ∧ ((K14a.wit0.rxTurn 2).rxFields 2 K14a.wit8).sectorErr x = 0) ∧
    (((K14a.wit0.rxTurn 2).rxFields 2 K14a.wit8).homePort K14a.wit8.hdr.src = some 2) := by decide +kernel
theorem witness_FabricReceive_rrrrrrrl : (K14a.wit9.up = true) ∧ (2 < 8) ∧ (K14a.wit9.portIsUp 2 = true) ∧ (K14a.wit10.hdr.seqd = true) ∧
    (((K14a.wit9.rxTurn 2).rxFields 2 K14a.wit10).expects 2 K14a.wit10 = true) ∧
    (((K14a.wit9.rxTurn 2).rxFields 2 K14a.wit10).dropCause K14a.wit10 = none) ∧ (K14a.wit9.rxSpoilt 2 = false) ∧ (K14a.wit10.op = 4) ∧
    (flitFirst K14a.wit10 = true) ∧ (flitLast K14a.wit10 = true) ∧ (0 < reqLength K14a.wit10.payload) ∧ (reqLength K14a.wit10.payload ≤ 4096) ∧
    (bit (reqKind K14a.wit10.payload) 0 = false) ∧ (bits (reqAtomic K14a.wit10.payload) 3 0 ≤ 9) ∧
    ((if bit (reqAtomic K14a.wit10.payload) 4 = true then 8 else 4) + 16 ≤ K14a.wit10.payload.length) ∧
    (((K14a.wit9.rxTurn 2).rxFields 2 K14a.wit10).refusal (MemReq.mk (ReqSrc.fabric K14a.wit10.hdr.src (flitTag K14a.wit10) K14a.wit10.op) (portMid 2) false (bits (reqTarget K14a.wit10.payload) 38 0) (if bit (reqAtomic K14a.wit10.payload) 4 = true then 8 else 4) (some (List.take (if bit (reqAtomic K14a.wit10.payload) 4 = true then 8 else 4) (List.drop 16 K14a.wit10.payload))) [] (some (bits (reqAtomic K14a.wit10.payload) 3 0, fieldAt (List.drop 16 K14a.wit10.payload) (if bit (reqAtomic K14a.wit10.payload) 4 = true then 8 else 4) (if bit (reqAtomic K14a.wit10.payload) 4 = true then 8 else 4)))) = none) ∧
    (((K14a.wit9.rxTurn 2).rxFields 2 K14a.wit10).paused = false) ∧
    ((((K14a.wit9.rxTurn 2).rxFields 2 K14a.wit10).findLine (bits (reqTarget K14a.wit10.payload) 38 0)).isSome = true) ∧
    (((K14a.wit9.rxTurn 2).rxFields 2 K14a.wit10).homePort K14a.wit10.hdr.src = some 2) := by decide +kernel
theorem witness_FabricReceive_rrrrrrrrll : (K14a.wit11.up = true) ∧ (2 < 8) ∧ (K14a.wit11.portIsUp 2 = true) ∧ (K14a.wit12.hdr.seqd = true) ∧
    (((K14a.wit11.rxTurn 2).rxFields 2 K14a.wit12).expects 2 K14a.wit12 = true) ∧
    (((K14a.wit11.rxTurn 2).rxFields 2 K14a.wit12).dropCause K14a.wit12 = none) ∧ (K14a.wit11.rxSpoilt 2 = false) ∧ (5 = K14a.wit12.op) ∧
    (List.find? (fun x => x.tag == flitTag K14a.wit12) ((K14a.wit11.rxTurn 2).rxFields 2 K14a.wit12).fab.reqs = some K14a.wit13) ∧
    (flitLast K14a.wit12 = true) := by decide +kernel
theorem witness_FabricReceive_rrrrrrrrlrl : (K14a.wit11.up = true) ∧ (2 < 8) ∧ (K14a.wit11.portIsUp 2 = true) ∧ (K14a.wit14.hdr.seqd = true) ∧
    (((K14a.wit11.rxTurn 2).rxFields 2 K14a.wit14).expects 2 K14a.wit14 = true) ∧
    (((K14a.wit11.rxTurn 2).rxFields 2 K14a.wit14).dropCause K14a.wit14 = none) ∧ (K14a.wit11.rxSpoilt 2 = false) ∧ (5 = K14a.wit14.op) ∧
    (List.find? (fun x => x.tag == flitTag K14a.wit14) ((K14a.wit11.rxTurn 2).rxFields 2 K14a.wit14).fab.reqs = some K14a.wit13) ∧
    (flitLast K14a.wit14 = false) := by decide +kernel
theorem witness_FabricReceive_rrrrrrrrlrr : (K14a.wit0.up = true) ∧ (2 < 8) ∧ (K14a.wit0.portIsUp 2 = true) ∧ (K14a.wit12.hdr.seqd = true) ∧
    (((K14a.wit0.rxTurn 2).rxFields 2 K14a.wit12).expects 2 K14a.wit12 = true) ∧
    (((K14a.wit0.rxTurn 2).rxFields 2 K14a.wit12).dropCause K14a.wit12 = none) ∧ (K14a.wit0.rxSpoilt 2 = false) ∧ (5 = K14a.wit12.op) ∧
    (List.find? (fun x => x.tag == flitTag K14a.wit12) ((K14a.wit0.rxTurn 2).rxFields 2 K14a.wit12).fab.reqs = none) := by decide +kernel
theorem witness_FabricReceive_rrrrrrrrrll : (K14a.wit15.up = true) ∧ (2 < 8) ∧ (K14a.wit15.portIsUp 2 = true) ∧ (K14a.wit16.hdr.seqd = true) ∧
    (((K14a.wit15.rxTurn 2).rxFields 2 K14a.wit16).expects 2 K14a.wit16 = true) ∧
    (((K14a.wit15.rxTurn 2).rxFields 2 K14a.wit16).dropCause K14a.wit16 = none) ∧ (K14a.wit15.rxSpoilt 2 = false) ∧ (K14a.wit16.op = 7) ∧
    (((K14a.wit15.rxTurn 2).rxFields 2 K14a.wit16).runState = 5 ∨ ((K14a.wit15.rxTurn 2).rxFields 2 K14a.wit16).runState = 4 ∧
    ((K14a.wit15.rxTurn 2).rxFields 2 K14a.wit16).lay.start ≠ 0) ∧
    ((closeOf ((K14a.wit15.rxTurn 2).rxFields 2 K14a.wit16).group K14a.wit16).group = ((K14a.wit15.rxTurn 2).rxFields 2 K14a.wit16).group.groupId) ∧
    ((closeOf ((K14a.wit15.rxTurn 2).rxFields 2 K14a.wit16).group K14a.wit16).digest8 = digest8 ((K14a.wit15.rxTurn 2).rxFields 2 K14a.wit16).group) ∧
    (((K14a.wit15.rxTurn 2).rxFields 2 K14a.wit16).lay.closes.contains (closeOf ((K14a.wit15.rxTurn 2).rxFields 2 K14a.wit16).group K14a.wit16) = false) ∧
    ((closeOf ((K14a.wit15.rxTurn 2).rxFields 2 K14a.wit16).group K14a.wit16).rank < ((K14a.wit15.rxTurn 2).rxFields 2 K14a.wit16).group.members) := by decide +kernel
theorem witness_FabricReceive_rrrrrrrrrlrl : (K14a.wit17.up = true) ∧ (2 < 8) ∧ (K14a.wit17.portIsUp 2 = true) ∧ (K14a.wit16.hdr.seqd = true) ∧
    (((K14a.wit17.rxTurn 2).rxFields 2 K14a.wit16).expects 2 K14a.wit16 = true) ∧
    (((K14a.wit17.rxTurn 2).rxFields 2 K14a.wit16).dropCause K14a.wit16 = none) ∧ (K14a.wit17.rxSpoilt 2 = false) ∧ (K14a.wit16.op = 7) ∧
    (((K14a.wit17.rxTurn 2).rxFields 2 K14a.wit16).runState = 5 ∨ ((K14a.wit17.rxTurn 2).rxFields 2 K14a.wit16).runState = 4 ∧
    ((K14a.wit17.rxTurn 2).rxFields 2 K14a.wit16).lay.start ≠ 0) ∧
    ((closeOf ((K14a.wit17.rxTurn 2).rxFields 2 K14a.wit16).group K14a.wit16).group = ((K14a.wit17.rxTurn 2).rxFields 2 K14a.wit16).group.groupId) ∧
    ((closeOf ((K14a.wit17.rxTurn 2).rxFields 2 K14a.wit16).group K14a.wit16).digest8 = digest8 ((K14a.wit17.rxTurn 2).rxFields 2 K14a.wit16).group) ∧
    (((K14a.wit17.rxTurn 2).rxFields 2 K14a.wit16).lay.closes.contains (closeOf ((K14a.wit17.rxTurn 2).rxFields 2 K14a.wit16).group K14a.wit16) = true ∨ ((K14a.wit17.rxTurn 2).rxFields 2 K14a.wit16).group.members ≤ (closeOf ((K14a.wit17.rxTurn 2).rxFields 2 K14a.wit16).group K14a.wit16).rank) := by decide +kernel
theorem witness_FabricReceive_rrrrrrrrrlrr : (K14a.wit15.up = true) ∧ (2 < 8) ∧ (K14a.wit15.portIsUp 2 = true) ∧ (K14a.wit18.hdr.seqd = true) ∧
    (((K14a.wit15.rxTurn 2).rxFields 2 K14a.wit18).expects 2 K14a.wit18 = true) ∧
    (((K14a.wit15.rxTurn 2).rxFields 2 K14a.wit18).dropCause K14a.wit18 = none) ∧ (K14a.wit15.rxSpoilt 2 = false) ∧ (K14a.wit18.op = 7) ∧
    (((K14a.wit15.rxTurn 2).rxFields 2 K14a.wit18).runState = 5 ∨ ((K14a.wit15.rxTurn 2).rxFields 2 K14a.wit18).runState = 4 ∧
    ((K14a.wit15.rxTurn 2).rxFields 2 K14a.wit18).lay.start ≠ 0) ∧
    (¬((closeOf ((K14a.wit15.rxTurn 2).rxFields 2 K14a.wit18).group K14a.wit18).group = ((K14a.wit15.rxTurn 2).rxFields 2 K14a.wit18).group.groupId ∧
    (closeOf ((K14a.wit15.rxTurn 2).rxFields 2 K14a.wit18).group K14a.wit18).digest8 = digest8 ((K14a.wit15.rxTurn 2).rxFields 2 K14a.wit18).group)) := by decide +kernel
theorem witness_FabricReceive_rrrrrrrrrrrll : (K14a.wit21.up = true) ∧ (2 < 8) ∧ (K14a.wit21.portIsUp 2 = true) ∧ (K14a.wit4.hdr.seqd = true) ∧
    (((K14a.wit21.rxTurn 2).rxFields 2 K14a.wit4).expects 2 K14a.wit4 = true) ∧
    (((K14a.wit21.rxTurn 2).rxFields 2 K14a.wit4).dropCause K14a.wit4 = none) ∧ (K14a.wit21.rxSpoilt 2 = false) ∧ (K14a.wit4.op = 9) ∧
    (fieldAt K14a.wit4.payload 0 1 = 1) ∧ (((K14a.wit21.rxTurn 2).rxFields 2 K14a.wit4).idAssigned = false) := by decide +kernel
theorem witness_FabricReceive_rrrrrrrrrrrlr : (K14a.wit0.up = true) ∧ (2 < 8) ∧ (K14a.wit0.portIsUp 2 = true) ∧ (K14a.wit22.hdr.seqd = true) ∧
    (((K14a.wit0.rxTurn 2).rxFields 2 K14a.wit22).expects 2 K14a.wit22 = true) ∧
    (((K14a.wit0.rxTurn 2).rxFields 2 K14a.wit22).dropCause K14a.wit22 = none) ∧ (K14a.wit0.rxSpoilt 2 = false) ∧ (K14a.wit22.op = 9) ∧
    (fieldAt K14a.wit22.payload 0 1 = 1) ∧ (((K14a.wit0.rxTurn 2).rxFields 2 K14a.wit22).idAssigned = true) ∧
    (((K14a.wit0.rxTurn 2).rxFields 2 K14a.wit22).deviceId ≠ fieldAt K14a.wit22.payload 1 2 % 4096) := by decide +kernel
theorem witness_FabricReceive_rrrrrrrrrrrrl : (K14a.wit0.up = true) ∧ (2 < 8) ∧ (K14a.wit0.portIsUp 2 = true) ∧ (K14a.wit23.hdr.seqd = true) ∧
    (((K14a.wit0.rxTurn 2).rxFields 2 K14a.wit23).expects 2 K14a.wit23 = true) ∧
    (((K14a.wit0.rxTurn 2).rxFields 2 K14a.wit23).dropCause K14a.wit23 = none) ∧ (K14a.wit0.rxSpoilt 2 = false) ∧ (K14a.wit23.op = 9) ∧
    (fieldAt K14a.wit23.payload 0 1 = 2) := by decide +kernel
theorem witness_FabricReceive_rrrrrrrrrrrrrl : (K14a.wit0.up = true) ∧ (2 < 8) ∧ (K14a.wit0.portIsUp 2 = true) ∧ (K14a.wit24.hdr.seqd = true) ∧
    (((K14a.wit0.rxTurn 2).rxFields 2 K14a.wit24).expects 2 K14a.wit24 = true) ∧
    (((K14a.wit0.rxTurn 2).rxFields 2 K14a.wit24).dropCause K14a.wit24 = none) ∧ (K14a.wit0.rxSpoilt 2 = false) ∧ (K14a.wit24.op = 9) ∧
    (fieldAt K14a.wit24.payload 0 1 = 3) ∧ (64 ≤ fieldAt K14a.wit24.payload 1 2) ∧ (fieldAt K14a.wit24.payload 1 2 ≤ 2048) ∧
    (64 ≤ fieldAt K14a.wit24.payload 3 2) ∧ (fieldAt K14a.wit24.payload 3 2 ≤ 2048) ∧ (16 ≤ fieldAt K14a.wit24.payload 5 1) := by decide +kernel
theorem witness_FabricReceive_rrrrrrrrrrrrrr : (K14a.wit0.up = true) ∧ (2 < 8) ∧ (K14a.wit0.portIsUp 2 = true) ∧ (K14a.wit25.hdr.seqd = true) ∧
    (((K14a.wit0.rxTurn 2).rxFields 2 K14a.wit25).expects 2 K14a.wit25 = true) ∧
    (((K14a.wit0.rxTurn 2).rxFields 2 K14a.wit25).dropCause K14a.wit25 = none) ∧ (K14a.wit0.rxSpoilt 2 = false) ∧ (K14a.wit25.op = 9) ∧
    (fieldAt K14a.wit25.payload 0 1 = 3) ∧
    (fieldAt K14a.wit25.payload 1 2 < 64 ∨ 2048 < fieldAt K14a.wit25.payload 1 2 ∨ fieldAt K14a.wit25.payload 3 2 < 64 ∨ 2048 < fieldAt K14a.wit25.payload 3 2 ∨ fieldAt K14a.wit25.payload 5 1 < 16) := by decide +kernel
theorem witness_FabricLinks_l : (K14.wit0.up = true) ∧ (2 < 8) ∧ (K14.wit0.portIsUp 2 = true) ∧ (K14.wit0.rxSpoilt 2 = false) ∧
    (K14.wit1.hdr.seqd = true) ∧ (((K14.wit0.rxTurn 2).rxFields 2 K14.wit1).expects 2 K14.wit1 = true) ∧
    (((K14.wit0.rxTurn 2).rxFields 2 K14.wit1).dropCause K14.wit1 = some 1) := by decide +kernel
theorem witness_FabricLinks_rll : (K14.wit2.up = true) ∧ (2 < 8) ∧ (K14.wit2.portIsUp 2 = true) ∧
    ((K14.wit2.port 2).resend = K14.wit3 :: K14.wit4) := by decide +kernel
theorem witness_FabricLinks_rlrl : (K14.wit0.up = true) ∧ (2 < 8) ∧ (K14.wit0.portIsUp 2 = true) ∧ ((K14.wit0.port 2).resend = []) ∧
    (2048 ≤ (K14.wit0.port 2).replay.length ∨ K14.wit0.nextVc 2 = none) := by decide +kernel
theorem witness_FabricLinks_rlrrl : (K14.wit5.up = true) ∧ (2 < 8) ∧ (K14.wit5.portIsUp 2 = true) ∧ ((K14.wit5.port 2).resend = []) ∧
    ((K14.wit5.port 2).replay.length < 2048) ∧ (K14.wit5.nextVc 2 = some 0) ∧
    (Tbl.get [] (K14.wit5.port 2).queue 0 = K14.wit6 :: K14.wit7) := by decide +kernel
theorem witness_FabricLinks_rlrrrl : (K14.wit5.up = true) ∧ (2 < 8) ∧ (K14.wit5.portIsUp 2 = true) ∧ ((K14.wit5.port 2).replay ≠ []) ∧
    ((K14.wit5.port 2).progressAt + 4000 ≤ K14.wit5.now) ∧ ((K14.wit5.port 2).replays < 8) := by decide +kernel
theorem witness_FabricLinks_rlrrrrl : (K14.wit8.up = true) ∧ (2 < 8) ∧ (K14.wit8.portIsUp 2 = true) ∧ ((K14.wit8.port 2).replay ≠ []) ∧
    ((K14.wit8.port 2).progressAt + 4000 ≤ K14.wit8.now) ∧ (8 ≤ (K14.wit8.port 2).replays) := by decide +kernel
theorem witness_FabricLinks_rlrrrrrl : (K14.wit0.up = true) ∧ (2 < 8) ∧ (K14.wit0.portIsUp 2 = true) ∧
    ((K14.wit0.port 2).replay = [] ∨ K14.wit0.now < (K14.wit0.port 2).progressAt + 4000) := by decide +kernel
theorem witness_FabricLinks_rlrrrrrrl : (K14.wit0.up = true) ∧ (2 < 8) ∧ (K14.wit0.portIsUp 2 = true) := by decide +kernel
theorem witness_FabricLinks_rlrrrrrrr : (K14.wit0.up = true) ∧ (2 < 8) ∧ (K14.wit0.portIsUp 2 = true) ∧ (flitOf K14.wit9 = none) := by decide +kernel
theorem witness_FabricLinks_rrl : (K14.wit0.up = true) ∧ (0 < 8) ∧ (K14.wit0.portIsUp 0 = false) := by decide +kernel
theorem witness_FabricLinks_rrrll : (K14.wit10.up = true) ∧ (0 < 8) ∧ (List.find? (fun x => x.tag == 4) K14.wit10.fab.reqs = some K14.wit11) ∧
    (K14.wit11.at_ + K14.wit10.reqTimeout ≤ K14.wit10.now) := by decide +kernel
theorem witness_FabricLinks_rrrlr : (K14.wit10.up = true) ∧ (0 < 8) ∧ (List.find? (fun x => x.tag == 6) K14.wit10.fab.reqs = some K14.wit12) ∧
    (K14.wit10.now < K14.wit12.at_ + K14.wit10.reqTimeout) := by decide +kernel
theorem witness_FabricLinks_rrrrl : (K14.wit13.up = true) ∧ (2 < 8) ∧ (Tbl.get 0 K14.wit13.fab.lastTime 2 ≠ 0) ∧
    (K14.wit13.hasTime 2 = false) := by decide +kernel
theorem witness_FabricLinks_rrrrrll : (K14.wit0.up = true) ∧ (0 < 8) ∧ (K14.wit0.isSet (R.PZL_P_STATUS.licensed 0) = true) ∧
    (0 % 2 = 0) := by decide +kernel
theorem witness_FabricLinks_rrrrrlr : (K14.wit0.up = true) ∧ (0 < 8) ∧ (K14.wit0.isSet (R.PZL_P_STATUS.licensed 0) = true) ∧
    (3 % 2 = 1) := by decide +kernel
theorem witness_FabricLinks_rrrrrrl : (K14.wit0.up = true) ∧ (4 < 8) ∧ (K14.wit0.isSet (R.PZL_P_STATUS.licensed 4) = false) := by decide +kernel
theorem witness_FabricLinks_rrrrrrrl : (K14.wit0.up = true) ∧ (0 < 8) := by decide +kernel
theorem witness_FabricLinks_rrrrrrrrl : (K14.wit0.up = true) ∧ (0 < 8) := by decide +kernel
theorem witness_FabricLinks_rrrrrrrrrl : (K14.wit0.up = true) ∧ (0 < 8) ∧ (0 < 8) ∧
    (K14.wit0.getBit (R.PZL_P_STATUS.local_good 0) 0 = true) := by decide +kernel
theorem witness_FabricLinks_rrrrrrrrrrl : (K14.wit0.up = true) ∧ (0 < 8) ∧ (0 < 8) := by decide +kernel
theorem witness_FabricLinks_rrrrrrrrrrrl : (K14.wit0.up = true) ∧ (0 < 8) ∧ (K14.wit0.portTrains 0 = true) ∧ (255 < 256) ∧
    (trainedWidth (K14.wit0.getF (R.PZL_P_STATUS.local_good 0) &&& 255) = some K14.wit14) := by decide +kernel
theorem witness_FabricLinks_rrrrrrrrrrrrl : (K14.wit0.up = true) ∧ (0 < 8) ∧ (K14.wit0.portTrains 0 = true) ∧ (0 < 256) ∧ (true = true ∧
    trainedWidth (K14.wit0.getF (R.PZL_P_STATUS.local_good 0) &&& 0) = none ∨ true = false ∧ K14.wit0.portState 0 = 3 ∧
    (K14.wit0.port 0).retrainFails = 2) := by decide +kernel
theorem witness_FabricLinks_rrrrrrrrrrrrrl : (K14.wit15.up = true) ∧ (2 < 8) ∧ (K14.wit15.portState 2 = 3) ∧
    ((K14.wit15.port 2).retrainFails < 2) := by decide +kernel
theorem witness_FabricLinks_rrrrrrrrrrrrrr : (K14.wit0.up = true) ∧ (0 < 8) ∧ (K14.wit0.portTrains 0 = true) ∧
    (K14.wit0.portState 0 ≠ 3) := by decide +kernel
theorem witness_EdgeAndMesh_ll : (K15.wit0.up = true) ∧ (¬(0 < 4 ∧ 0 < 10 ∧ meshFits K15.wit1 = true ∧ (0 = 9 ∨ K15.wit0.chestUp 0 = true ∧
    K15.wit0.chestInReset 0 = false))) := by decide +kernel
theorem witness_EdgeAndMesh_lrl : (K15.wit0.up = true) ∧ (0 < 4) ∧ (0 < 10) ∧ (meshFits K15.wit2 = true) ∧ (0 = 9 ∨ K15.wit0.chestUp 0 = true ∧
    K15.wit0.chestInReset 0 = false) ∧ (∀ (e : MeshEnt), (K15.wit0.meshEnter 0 0 K15.wit2).meshHead 0 0 K15.wit2 = some e →
    e.pkt ≠ meshClean K15.wit2) := by decide +kernel
theorem witness_EdgeAndMesh_lrrl : (K15.wit3.up = true) ∧ (0 < 4) ∧ (9 < 10) ∧ (meshFits K15.wit2 = true) ∧ (9 = 9 ∨ K15.wit3.chestUp 0 = true ∧
    K15.wit3.chestInReset 0 = false) ∧ ((K15.wit3.meshEnter 0 9 K15.wit2).meshHead 0 9 K15.wit2 = some K15.wit4) ∧
    (K15.wit4.pkt = meshClean K15.wit2) ∧ ((K15.wit3.meshEnter 0 9 K15.wit2).meshAbsorbs 0 9 K15.wit2 = false) ∧
    ((K15.wit3.meshEnter 0 9 K15.wit2).meshRoom 0 9 K15.wit4 = 0 ∨ Option.map (fun x => x.fst) ((K15.wit3.meshEnter 0 9 K15.wit2).winner ((K15.wit3.meshEnter 0 9 K15.wit2).meshArb 0 9 K15.wit2)) ≠ some (meshBuf 0 9 K15.wit2)) := by decide +kernel
theorem witness_EdgeAndMesh_lrrrl : (K15.wit5.up = true) ∧ (1 < 4) ∧ (9 < 10) ∧ (meshFits K15.wit6 = true) ∧ (9 = 9 ∨ K15.wit5.chestUp 1 = true ∧
    K15.wit5.chestInReset 1 = false) ∧ ((K15.wit5.meshEnter 1 9 K15.wit6).meshHead 1 9 K15.wit6 = some K15.wit7) ∧
    (K15.wit7.pkt = meshClean K15.wit6) ∧ ((K15.wit5.meshEnter 1 9 K15.wit6).meshAbsorbs 1 9 K15.wit6 = true) := by decide +kernel
theorem witness_EdgeAndMesh_lrrrrl : (K15.wit0.up = true) ∧ (0 < 4) ∧ (9 < 10) ∧ (meshFits K15.wit2 = true) ∧ (9 = 9 ∨ K15.wit0.chestUp 0 = true ∧
    K15.wit0.chestInReset 0 = false) ∧ ((K15.wit0.meshEnter 0 9 K15.wit2).meshHead 0 9 K15.wit2 = some K15.wit4) ∧
    (K15.wit4.pkt = meshClean K15.wit2) ∧ ((K15.wit0.meshEnter 0 9 K15.wit2).meshAbsorbs 0 9 K15.wit2 = false) ∧
    (0 < (K15.wit0.meshEnter 0 9 K15.wit2).meshRoom 0 9 K15.wit4) ∧
    (Option.map (fun x => x.fst) ((K15.wit0.meshEnter 0 9 K15.wit2).winner ((K15.wit0.meshEnter 0 9 K15.wit2).meshArb 0 9 K15.wit2)) = some (meshBuf 0 9 K15.wit2)) ∧
    (∀ (b : Nat), b ∈ List.take ((K15.wit0.meshEnter 0 9 K15.wit2).meshRoom 0 9 K15.wit4) (List.drop K15.wit4.gone K15.wit2.beats) →
    b < 2) := by decide +kernel
theorem witness_EdgeAndMesh_lrrrrr : (K15.wit0.up = true) ∧ (0 < 4) ∧ (9 < 10) ∧ (meshFits K15.wit8 = true) ∧ (9 = 9 ∨ K15.wit0.chestUp 0 = true ∧
    K15.wit0.chestInReset 0 = false) ∧ ((K15.wit0.meshEnter 0 9 K15.wit8).meshHead 0 9 K15.wit8 = some K15.wit9) ∧
    (K15.wit9.pkt = meshClean K15.wit8) ∧ ((K15.wit0.meshEnter 0 9 K15.wit8).meshAbsorbs 0 9 K15.wit8 = false) ∧
    (0 < (K15.wit0.meshEnter 0 9 K15.wit8).meshRoom 0 9 K15.wit9) ∧
    (Option.map (fun x => x.fst) ((K15.wit0.meshEnter 0 9 K15.wit8).winner ((K15.wit0.meshEnter 0 9 K15.wit8).meshArb 0 9 K15.wit8)) = some (meshBuf 0 9 K15.wit8)) ∧
    (∃ b, b ∈ List.take ((K15.wit0.meshEnter 0 9 K15.wit8).meshRoom 0 9 K15.wit9) (List.drop K15.wit9.gone K15.wit8.beats) ∧
    2 ≤ b) := by decide +kernel
theorem witness_EdgeAndMesh_rll : (K15.wit0.up = true) ∧ (0 < 8) ∧ (0 < 16) ∧ (¬(K15.wit0.sideState 0 = 0 ∧ K15.wit0.sideState (peerSide 0) = 0 ∧
    bits (K15.wit0.getF (R.LNK_S_WIDTH.width 0)) (2 * 0 + 1) (2 * 0) ≠ 0) ∨ K15.wit0.edgeSent (peerSide 0) 0 K15.wit10 = none) := by decide +kernel
theorem witness_EdgeAndMesh_rlrlr : (K15.wit0.up = true) ∧ (0 < 8) ∧ (1 < 16) ∧ (K15.wit0.sideState 0 = 0) ∧ (K15.wit0.sideState (peerSide 0) = 0) ∧
    (bits (K15.wit0.getF (R.LNK_S_WIDTH.width 0)) (2 * 1 + 1) (2 * 1) ≠ 0) ∧ (K15.wit0.edgeSent (peerSide 0) 1 K15.wit11 = some K15.wit0) ∧
    (edgeArrives K15.wit11 0 = some K15.wit11) := by decide +kernel
theorem witness_EdgeAndMesh_rlrr : (K15.wit0.up = true) ∧ (0 < 8) ∧ (0 < 16) ∧ (K15.wit0.sideState 0 = 0) ∧ (K15.wit0.sideState (peerSide 0) = 0) ∧
    (bits (K15.wit0.getF (R.LNK_S_WIDTH.width 0)) (2 * 0 + 1) (2 * 0) ≠ 0) ∧ (K15.wit12.hdr.seqd = true) ∧
    (K15.wit12.hdr.seq = (K15.wit0.edgeMod (peerSide 0) 0).txNext) ∧ (∀ (g : Nat × EdgeFlit), g ∈ (K15.wit0.edgeMod (peerSide 0) 0).replay →
    g.snd.hdr.seq ≠ K15.wit12.hdr.seq) ∧ ((K15.wit0.edgeMod (peerSide 0) 0).replay.length < 512) ∧
    (K15.wit12.hdr.seq = ((K15.wit0.edgeMod 0 0).rxLast + 1) % 1024) ∧
    ((K15.wit12.hdr.crVc, K15.wit12.hdr.crCls, K15.wit12.hdr.crTotal) = K15.wit0.edgeCount (peerSide 0)) ∧ (edgeHdrBad K15.wit12.hdr = false) ∧
    (K15.wit12.hdr.nak = false) ∧
    ((K15.wit12.hdr.ack + 1 + 1024 - ((K15.wit0.edgeMod 0 0).txNext + 1024 - (K15.wit0.edgeMod 0 0).replay.length % 1024) % 1024) % 1024 ≤ (K15.wit0.edgeMod 0 0).replay.length) ∧
    ((K15.wit0.side 0).parked = []) ∧ ((K15.wit0.side 0).ordIn = (K15.wit0.side (peerSide 0)).ordOut) ∧
    (K15.wit0.edgeNext (peerSide 0) K15.wit12.hdr.vc = some K15.wit13) ∧
    (K15.wit0.edgeIsNext (peerSide 0) 0 K15.wit12 K15.wit13 = true) := by decide +kernel
theorem witness_EdgeAndMesh_rrll : (K15.wit0.up = true) ∧ (0 < 8) ∧ (0 < 16) ∧ (K15.wit0.sideState 0 = 0) ∧ ((K15.wit0.edgeMod 0 0).replay ≠ []) ∧
    ((K15.wit0.edgeMod 0 0).progressAt + 1000 ≤ K15.wit0.now) ∧ ((K15.wit0.edgeMod 0 0).replays < 8) := by decide +kernel
theorem witness_EdgeAndMesh_rrlrl : (K15.wit14.up = true) ∧ (0 < 8) ∧ (0 < 16) ∧ (K15.wit14.sideState 0 = 0) ∧
    ((K15.wit14.edgeMod 0 0).replay ≠ []) ∧ ((K15.wit14.edgeMod 0 0).progressAt + 1000 ≤ K15.wit14.now) ∧
    (8 ≤ (K15.wit14.edgeMod 0 0).replays) := by decide +kernel
theorem witness_EdgeAndMesh_rrlrr : (K15.wit0.up = true) ∧ (0 < 8) ∧ (1 < 16) ∧ (¬(K15.wit0.sideState 0 = 0 ∧ (K15.wit0.edgeMod 0 1).replay ≠ [] ∧
    (K15.wit0.edgeMod 0 1).progressAt + 1000 ≤ K15.wit0.now)) := by decide +kernel
theorem witness_EdgeAndMesh_rrrl : (K15.wit0.up = true) ∧ (0 < 8) := by decide +kernel
theorem witness_EdgeAndMesh_rrrrl : (K15.wit0.up = true) ∧ (0 < 8) := by decide +kernel
theorem witness_EdgeAndMesh_rrrrrll : (K15.wit0.up = true) ∧ (1 < 8) ∧ (K15.wit0.sideState 1 = 1 ∨ K15.wit0.sideState 1 = 3) ∧
    (((K15.wit0.side 1).since + if K15.wit0.sideState 1 = 3 then 100000 else 20000) ≤ K15.wit0.now) ∧
    (K15.wit0.getF (R.LNK_S_STATUS.attempts 1) < 2) := by decide +kernel
theorem witness_EdgeAndMesh_rrrrrlrl : (K15.wit0.up = true) ∧ (0 < 8) ∧ (¬((K15.wit0.sideState 0 = 1 ∨ K15.wit0.sideState 0 = 3) ∧
    ((K15.wit0.side 0).since + if K15.wit0.sideState 0 = 3 then 100000 else 20000) ≤ K15.wit0.now)) := by decide +kernel
theorem witness_EdgeAndMesh_rrrrrlrrl : (K15.wit0.up = true) ∧ (0 < 8) ∧ (K15.wit15 = Instr.edgeAttemptTimeout 0 ∧
    ((K15.wit0.sideState 0 = 1 ∨ K15.wit0.sideState 0 = 3) ∧
    ((K15.wit0.side 0).since + if K15.wit0.sideState 0 = 3 then 100000 else 20000) ≤ K15.wit0.now) ∧
    2 ≤ K15.wit0.getF (R.LNK_S_STATUS.attempts 0) ∨ K15.wit15 = Instr.edgeRetire 0 ∧ K15.wit0.sideState 0 ≠ 4) := by decide +kernel
theorem witness_EdgeAndMesh_rrrrrlrrr : (K15.wit3.up = true) ∧ (0 < 8) ∧ (K15.wit3.sideState 0 = 4) := by decide +kernel
theorem witness_EdgeAndMesh_rrrrrrl : (K15.wit0.up = true) ∧ (0 < 8) ∧ (K15.wit0.sideState 0 = 0) ∧
    ((K15.wit0.side 0).since + 1000000000 ≤ K15.wit0.now) := by decide +kernel
theorem witness_EdgeAndMesh_rrrrrrrl : (K15.wit0.up = true) ∧ (1 < 8) ∧ (¬(K15.wit0.sideState 1 = 0 ∧
    (K15.wit0.side 1).since + 1000000000 ≤ K15.wit0.now)) := by decide +kernel
theorem witness_EdgeAndMesh_rrrrrrrrll : (K15.wit0.up = true) ∧ (0 < 8) ∧ (0 < 16) ∧
    ((K15.wit0.edgeMod 0 0).lmask &&& K15.wit16 ≠ (K15.wit0.edgeMod 0 0).lmask) := by decide +kernel
theorem witness_EdgeAndMesh_rrrrrrrrlr : (K15.wit0.up = true) ∧ (0 < 8) ∧ (0 < 16) ∧
    ((K15.wit0.edgeMod 0 0).lmask &&& K15.wit17 = (K15.wit0.edgeMod 0 0).lmask) := by decide +kernel
theorem witness_EdgeAndMesh_rrrrrrrrrl : (K15.wit0.up = true) ∧ (1 < 8) ∧ (trainable (K15.wit0.sideState 1) = true) ∧
    (trainable (K15.wit0.sideState (peerSide 1)) = true) := by decide +kernel
theorem witness_EdgeAndMesh_rrrrrrrrrr : (K15.wit0.up = true) ∧ (0 < 8) ∧ (¬(trainable (K15.wit0.sideState 0) = true ∧
    trainable (K15.wit0.sideState (peerSide 0)) = true)) := by decide +kernel
theorem witness_Regulation_l : (K16.wit0.up = true) ∧ (¬(K16.wit1.master < 256 ∧ K16.wit1.chest < 4 ∧ K16.wit1.slice < 9)) := by decide +kernel
theorem witness_Regulation_rl : (K16.wit2.up = true) ∧ (K16.wit3.master < 256) ∧ (K16.wit3.chest < 4) ∧ (K16.wit3.slice < 9) ∧
    (K16.wit2.entryFor K16.wit3 = some K16.wit4) := by decide +kernel
theorem witness_Regulation_rrl : (K16.wit0.up = true) ∧ (K16.wit5.kind < 3) ∧ (K16.wit5.chest < 4) ∧ (K16.wit5.pos < 16) ∧ (K16.wit5.res < 64) ∧
    (K16.wit5.free = true) ∧ (K16.wit5.ready ≠ []) ∧ (∀ (r : Nat × Nat × Nat), r ∈ K16.wit5.ready → r.fst < 64 ∧ r.snd.fst < 7) := by decide +kernel
theorem witness_Regulation_rrrl : (K16.wit0.up = true) ∧ (¬(K16.wit6.kind < 3 ∧ K16.wit6.chest < 4 ∧ K16.wit6.pos < 16 ∧ K16.wit6.res < 64 ∧
    K16.wit6.free = true ∧ ∀ (r : Nat × Nat × Nat), r ∈ K16.wit6.ready → r.fst < 64 ∧ r.snd.fst < 7) ∨ K16.wit6.ready = []) := by decide +kernel
theorem witness_Regulation_rrrrl : (K16.wit0.up = true) ∧ (¬(0 < 256 ∧ 70 < 36)) := by decide +kernel
theorem witness_Regulation_rrrrrl : (K16.wit0.up = true) ∧ (0 < 256) ∧ (0 < 36) := by decide +kernel
theorem witness_Regulation_rrrrrrll : (K16.wit0.up = true) ∧ (0 % 2 = 0) := by decide +kernel
theorem witness_Regulation_rrrrrrlrl : (K16.wit7.up = true) ∧ (1 % 2 = 1) ∧ (K16.wit7.qosRefused K16.wit7.qosShadow ≠ 0) := by decide +kernel
theorem witness_Regulation_rrrrrrlrrl : (K16.wit8.up = true) ∧ (1 % 2 = 1) ∧ (K16.wit8.qosRefused K16.wit8.qosShadow = 0) ∧
    (K16.wit8.defers = true) := by decide +kernel
theorem witness_Regulation_rrrrrrlrrr : (K16.wit0.up = true) ∧ (1 % 2 = 1) ∧ (K16.wit0.qosRefused K16.wit0.qosShadow = 0) ∧
    (K16.wit0.defers = false) := by decide +kernel
theorem witness_Regulation_rrrrrrrl : (K16.wit9.up = true) ∧
    (max 1 (K16.wit9.getF R.QOS_STARVE_LIMIT.limit) < (Tbl.get (0, 0, 0) K16.wit9.qos.waits (0 * 64 + 70)).fst) ∧
    (Tbl.get false K16.wit9.qos.episode (0 * 64 + 70) = false) := by decide +kernel
theorem witness_Regulation_rrrrrrrr : (K16.wit0.up = true) ∧
    ((Tbl.get (0, 0, 0) K16.wit0.qos.waits (0 * 64 + 0)).fst ≤ max 1 (K16.wit0.getF R.QOS_STARVE_LIMIT.limit) ∨ Tbl.get false K16.wit0.qos.episode (0 * 64 + 0) = true) := by decide +kernel
theorem witness_UnmatchedRequests_l : (K16.wit0.up = true) ∧ (K16.wit3.master < 256) ∧ (K16.wit3.chest < 4) ∧ (K16.wit3.slice < 9) ∧
    (K16.wit0.entryFor K16.wit3 = none) ∧ (K16.wit0.classOf K16.wit3 ≠ 3) := by decide +kernel
theorem witness_UnmatchedRequests_r : (K16.wit0.up = true) ∧ (K16.wit10.master < 256) ∧ (K16.wit10.chest < 4) ∧ (K16.wit10.slice < 9) ∧
    (K16.wit0.entryFor K16.wit10 = none) ∧ (K16.wit0.classOf K16.wit10 = 3) := by decide +kernel
theorem witness_PowerManagement_ll : (K17.wit0.up = true) := by decide +kernel
theorem witness_PowerManagement_lrl : (K17.wit0.up = true) ∧ (K17.wit0.floorOk 0 = true) := by decide +kernel
theorem witness_PowerManagement_lrrl : (K17.wit1.up = true) ∧ (K17.wit1.floorOk 0 = false) := by decide +kernel
theorem witness_PowerManagement_lrrrl : (K17.wit0.up = true) ∧ (¬(0 < 4 ∧ K17.wit0.ccRuns (1 + 0) = true)) := by decide +kernel
theorem witness_PowerManagement_lrrrrll : (K17.wit2.up = true) ∧ (0 < 4) ∧ (K17.wit2.ccRuns (1 + 0) = true) := by decide +kernel
theorem witness_PowerManagement_lrrrrlrl : (K17.wit2.up = true) ∧ (0 < 4) ∧ (K17.wit2.ccRuns (1 + 0) = true) := by decide +kernel
theorem witness_PowerManagement_lrrrrlrrl : (K17.wit2.up = true) ∧ (0 < 4) ∧ (K17.wit2.ccRuns (1 + 0) = true) ∧ (1 < 4) ∧ (0 ≠ 1) := by decide +kernel
theorem witness_PowerManagement_lrrrrlrrrl : (K17.wit2.up = true) ∧ (0 < 4) ∧ (K17.wit2.ccRuns (1 + 0) = true) ∧ (1 < 4) ∧ (0 ≠ 1) ∧
    (Tbl.get 0 K17.wit2.thm.msgAt (0 * 4 + 1) + 3000000 ≤ K17.wit2.now) := by decide +kernel
theorem witness_PowerManagement_lrrrrlrrrr : (K17.wit3.up = true) ∧ (0 < 4) ∧ (K17.wit3.ccRuns (1 + 0) = true) ∧ (1 < 4) ∧ (0 ≠ 1) ∧
    (K17.wit3.now < Tbl.get 0 K17.wit3.thm.msgAt (0 * 4 + 1) + 3000000) := by decide +kernel
theorem witness_PowerManagement_lrrrrrll : (K17.wit0.up = true) ∧ (bits 1 1 0 = 3 ∨ bits 1 1 0 = 1 ∧ K17.wit0.licensed 0 = false) := by decide +kernel
theorem witness_PowerManagement_lrrrrrlr : (K17.wit0.up = true) ∧ (bits 0 1 0 ≠ 3) ∧ (bits 0 1 0 = 1 →
    K17.wit0.licensed 0 = true) := by decide +kernel
theorem witness_PowerManagement_lrrrrrrl : (K17.wit0.up = true) := by decide +kernel
theorem witness_PowerManagement_lrrrrrrrl : (K17.wit0.up = true) := by decide +kernel
theorem witness_PowerManagement_lrrrrrrrrll : (K17.wit4.up = true) ∧ (K17.wit4.sprintOpen = true) ∧
    (true = true ∨ K17.wit4.thm.sprintAt + 250000000 ≤ K17.wit4.now) ∧ (K17.wit4.defers = false) := by decide +kernel
theorem witness_PowerManagement_lrrrrrrrrlr : (K17.wit5.up = true) ∧ (K17.wit5.sprintOpen = true) ∧
    (true = true ∨ K17.wit5.thm.sprintAt + 250000000 ≤ K17.wit5.now) ∧ (K17.wit5.defers = true) := by decide +kernel
theorem witness_PowerManagement_lrrrrrrrrrl : (K17.wit0.up = true) ∧ (¬(K17.wit0.sprintOpen = true ∧
    (true = true ∨ K17.wit0.thm.sprintAt + 250000000 ≤ K17.wit0.now))) := by decide +kernel
theorem witness_PowerManagement_lrrrrrrrrrrl : (K17.wit0.up = true) ∧ (¬(300 < 4 ∧ K17.wit0.chestUp 300 = true ∧ K17.wit0.floorOk 300 = true ∧
    K17.wit0.paused = false ∧ K17.wit0.park.current = none)) := by decide +kernel
theorem witness_PowerManagement_lrrrrrrrrrrrl : (K17.wit6.up = true) ∧ (0 < 4) ∧ (K17.wit6.chestUp 0 = true) ∧ (K17.wit6.floorOk 0 = true) ∧
    (K17.wit6.paused = false) ∧ (K17.wit6.park.current = none) ∧
    ((K17.wit6.defers && !K17.wit6.isSet (R.CHS_GOV.chest_fallback 0)) = true) := by decide +kernel
theorem witness_PowerManagement_lrrrrrrrrrrrr : (K17.wit0.up = true) ∧ (0 < 4) ∧ (K17.wit0.chestUp 0 = true) ∧ (K17.wit0.floorOk 0 = true) ∧
    (K17.wit0.paused = false) ∧ (K17.wit0.park.current = none) ∧
    ((K17.wit0.defers && !K17.wit0.isSet (R.CHS_GOV.chest_fallback 0)) = false) := by decide +kernel
theorem witness_PowerManagement_r : (K17.wit7.up = false) := by decide +kernel
theorem witness_SensorsAndCooling_ll : (K18.wit0.up = true) ∧ (K18.wit0.sensorThere 0 0 = true) := by decide +kernel
theorem witness_SensorsAndCooling_lrll : (K18.wit0.up = true) ∧ (K18.wit0.sensorThere 0 0 = true) ∧ (K18.wit0.sensorBroken 0 0 = false) ∧
    (Tbl.get 0 K18.wit0.thm.convAt (sensorKey 0 0) + 1000000 ≤ K18.wit0.now) := by decide +kernel
theorem witness_SensorsAndCooling_lrlrl : (K18.wit1.up = true) ∧ (K18.wit1.sensorThere 0 0 = true) ∧
    (K18.wit1.sensorBroken 0 0 = true ∨ K18.wit1.now < Tbl.get 0 K18.wit1.thm.convAt (sensorKey 0 0) + 1000000) := by decide +kernel
theorem witness_SensorsAndCooling_lrlrrl : (K18.wit2.up = true) ∧ (K18.wit2.sensorThere 0 72 = true) ∧ (K18.wit2.sensorOver 0 72 = true) ∧
    (K18.wit2.reading 0 72 < K18.wit2.softLimit 72) ∧ (Tbl.get 0 K18.wit2.thm.warmAt (sensorKey 0 72) + 100000000 ≤ K18.wit2.now) ∧
    (72 < 72 ∨ K18.wit2.disagrees 0 (sensorSpot 72) = false ∨ K18.wit2.reading 0 (sensorPartner 72) < K18.wit2.softLimit (sensorPartner 72) ∧
    Tbl.get 0 K18.wit2.thm.warmAt (sensorKey 0 (sensorPartner 72)) + 100000000 ≤ K18.wit2.now) := by decide +kernel
theorem witness_SensorsAndCooling_lrlrrr : (K18.wit0.up = true) ∧ (K18.wit0.sensorThere 0 0 = true) ∧
    (K18.wit0.sensorOver 0 0 = false ∨ ¬((K18.wit0.reading 0 0 < K18.wit0.softLimit 0 ∧
    Tbl.get 0 K18.wit0.thm.warmAt (sensorKey 0 0) + 100000000 ≤ K18.wit0.now) ∧
    (0 < 72 ∨ K18.wit0.disagrees 0 (sensorSpot 0) = false ∨ K18.wit0.reading 0 (sensorPartner 0) < K18.wit0.softLimit (sensorPartner 0) ∧
    Tbl.get 0 K18.wit0.thm.warmAt (sensorKey 0 (sensorPartner 0)) + 100000000 ≤ K18.wit0.now))) := by decide +kernel
theorem witness_SensorsAndCooling_lrrl : (K18.wit0.up = true) ∧ (K18.wit0.sensorThere 0 0x123456 = false) := by decide +kernel
theorem witness_SensorsAndCooling_lrrrl : (K18.wit0.up = true) ∧ (¬(0 < 4 ∧ 0 < 22 ∧ K18.wit0.disagrees 0 0 = true ∧ K18.wit0.spotWorks 0 0 = true ∧
    Tbl.get 0 K18.wit0.thm.winAt (spotKey 0 0) + 50000000 ≤ K18.wit0.now)) := by decide +kernel
theorem witness_SensorsAndCooling_lrrrrll : (K18.wit3.up = true) ∧ (0 < 4) ∧ (0 < 22) ∧ (K18.wit3.disagrees 0 0 = true) ∧
    (K18.wit3.spotWorks 0 0 = true) ∧ (Tbl.get 0 K18.wit3.thm.winAt (spotKey 0 0) + 50000000 ≤ K18.wit3.now) ∧ (K18.wit3.arbitrates 0 0 = true ∧
    K18.wit3.windowOff 0 0 0 = true ∨ K18.wit3.arbitrates 0 0 = true ∧ K18.wit3.windowOff 0 0 1 = true) := by decide +kernel
theorem witness_SensorsAndCooling_lrrrrlrl : (K18.wit4.up = true) ∧ (0 < 4) ∧ (0 < 22) ∧ (K18.wit4.disagrees 0 0 = true) ∧
    (K18.wit4.spotWorks 0 0 = true) ∧ (Tbl.get 0 K18.wit4.thm.winAt (spotKey 0 0) + 50000000 ≤ K18.wit4.now) ∧ (¬(K18.wit4.arbitrates 0 0 = true ∧
    K18.wit4.windowOff 0 0 0 = true)) ∧ (¬(K18.wit4.arbitrates 0 0 = true ∧ K18.wit4.windowOff 0 0 1 = true)) ∧ (K18.wit4.spotDiffers 0 0 = false) ∧
    (Tbl.get false K18.wit4.thm.winBad (spotKey 0 0 * 2) = false) := by decide +kernel
theorem witness_SensorsAndCooling_lrrrrlrr : (K18.wit5.up = true) ∧ (0 < 4) ∧ (0 < 22) ∧ (K18.wit5.disagrees 0 0 = true) ∧
    (K18.wit5.spotWorks 0 0 = true) ∧ (Tbl.get 0 K18.wit5.thm.winAt (spotKey 0 0) + 50000000 ≤ K18.wit5.now) ∧ (¬(K18.wit5.arbitrates 0 0 = true ∧
    K18.wit5.windowOff 0 0 0 = true)) ∧ (¬(K18.wit5.arbitrates 0 0 = true ∧ K18.wit5.windowOff 0 0 1 = true)) ∧
    (K18.wit5.spotDiffers 0 0 = true ∨ Tbl.get false K18.wit5.thm.winBad (spotKey 0 0 * 2) = true) := by decide +kernel
theorem witness_SensorsAndCooling_lrrrrrl : (K18.wit0.up = true) := by decide +kernel
theorem witness_SensorsAndCooling_lrrrrrrl : (K18.wit0.up = true) ∧ (K18.wit0.isSet R.THM_COOLANT.stale = false) ∧
    (K18.wit0.thm.coolantAt + 5000000000 ≤ K18.wit0.now) := by decide +kernel
theorem witness_SensorsAndCooling_lrrrrrrrl : (K18.wit6.up = true) ∧
    (K18.wit6.isSet R.THM_COOLANT.stale = true ∨ K18.wit6.now < K18.wit6.thm.coolantAt + 5000000000) := by decide +kernel
theorem witness_SensorsAndCooling_lrrrrrrrrll : (K18.wit7.up = true) ∧ (K18.wit7.getF R.THM_RTH.limit ≠ 0) ∧
    (K18.wit7.getF R.THM_RTH.limit < K18.wit7.getF R.THM_RTH.estimate) ∧ (K18.wit7.thm.rthOver ≠ 0) ∧
    (K18.wit7.thm.rthOver + 100000000 ≤ K18.wit7.now + 1) ∧ (K18.wit7.isSet R.THM_STATUS.degraded = false) := by decide +kernel
theorem witness_SensorsAndCooling_lrrrrrrrrlr : (K18.wit0.up = true) ∧ (¬(K18.wit0.getF R.THM_RTH.limit ≠ 0 ∧
    K18.wit0.getF R.THM_RTH.limit < K18.wit0.getF R.THM_RTH.estimate ∧ K18.wit0.thm.rthOver ≠ 0 ∧
    K18.wit0.thm.rthOver + 100000000 ≤ K18.wit0.now + 1 ∧ K18.wit0.isSet R.THM_STATUS.degraded = false)) := by decide +kernel
theorem witness_SensorsAndCooling_lrrrrrrrrrll : (K18.wit8.up = true) ∧ (K18.wit8.getF R.THM_RTH.estimate < K18.wit8.getF R.THM_RTH.limit) ∧
    (K18.wit8.thm.rthUnder ≠ 0) ∧ (K18.wit8.thm.rthUnder + 1000000000 ≤ K18.wit8.now + 1) := by decide +kernel
theorem witness_SensorsAndCooling_lrrrrrrrrrlr : (K18.wit0.up = true) ∧ (¬(K18.wit0.getF R.THM_RTH.estimate < K18.wit0.getF R.THM_RTH.limit ∧
    K18.wit0.thm.rthUnder ≠ 0 ∧ K18.wit0.thm.rthUnder + 1000000000 ≤ K18.wit0.now + 1)) := by decide +kernel
theorem witness_SensorsAndCooling_lrrrrrrrrrrl : (K18.wit0.up = true) ∧ (K18.wit0.pins.coolFaultN = true) := by decide +kernel
theorem witness_SensorsAndCooling_lrrrrrrrrrrrl : (K18.wit9.up = true) ∧ (K18.wit9.pins.coolFaultN = false) := by decide +kernel
theorem witness_SensorsAndCooling_lrrrrrrrrrrrrl : (K18.wit0.up = true) := by decide +kernel
theorem witness_SensorsAndCooling_lrrrrrrrrrrrrrl : (K18.wit10.up = true) ∧ (K18.wit10.thm.pausing = true) := by decide +kernel
theorem witness_SensorsAndCooling_lrrrrrrrrrrrrrrl : (K18.wit0.up = true) ∧ (K18.wit0.thm.pausing = false) := by decide +kernel
theorem witness_SensorsAndCooling_lrrrrrrrrrrrrrrrl : (K18.wit10.up = true) ∧
    (List.find? (fun h => reqExternal h.snd) K18.wit10.thm.held = some K18.wit11) ∧ (K18.wit11.fst + 5000000 ≤ K18.wit10.now) := by decide +kernel
theorem witness_SensorsAndCooling_lrrrrrrrrrrrrrrrrl : (K18.wit0.up = true) ∧
    (∀ (q : Nat × MemReq), List.find? (fun h => reqExternal h.snd) K18.wit0.thm.held = some q → K18.wit0.now < q.fst + 5000000) := by decide +kernel
theorem witness_SensorsAndCooling_lrrrrrrrrrrrrrrrrrl : (K18.wit12.up = true) ∧ (K18.wit12.isSet R.THM_STATUS.paused = true) ∧
    (K18.wit12.isSet R.THM_STATUS.resuming = false) ∧ (K18.wit12.coolEnough = true) ∧
    (K18.wit12.thm.stirAt + 100000000 ≤ K18.wit12.now) := by decide +kernel
theorem witness_SensorsAndCooling_lrrrrrrrrrrrrrrrrrr : (K18.wit0.up = true) ∧ (¬(K18.wit0.isSet R.THM_STATUS.paused = true ∧
    K18.wit0.isSet R.THM_STATUS.resuming = false ∧ K18.wit0.coolEnough = true ∧ K18.wit0.thm.stirAt + 100000000 ≤ K18.wit0.now)) := by decide +kernel
theorem witness_SensorsAndCooling_r : (K18.wit13.up = false) := by decide +kernel
theorem witness_ParksTokensDebug_lll : (K19.wit0.up = true) ∧ (bit 0 0 = false) := by decide +kernel
theorem witness_ParksTokensDebug_llrl : (K19.wit0.up = true) ∧ (bit 1 0 = true) ∧
    ((K19.wit0.setF R.BST_CTRL.select (bits 1 2 1)).parkRefusal K19.wit1 ≠ 0) := by decide +kernel
theorem witness_ParksTokensDebug_llrr : (K19.wit2.up = true) ∧ (bit 7 0 = true) ∧
    ((K19.wit2.setF R.BST_CTRL.select (bits 7 2 1)).parkRefusal K19.wit1 = 0) := by decide +kernel
theorem witness_ParksTokensDebug_lrll : (K19.wit3.up = true) ∧ (K19.wit3.park.current = some K19.wit4) ∧ (K19.wit3.paused = true) := by decide +kernel
theorem witness_ParksTokensDebug_lrlr : (K19.wit5.up = true) ∧ (K19.wit5.park.current = some K19.wit4) ∧
    (K19.wit5.paused = false) := by decide +kernel
theorem witness_ParksTokensDebug_lrrl : (K19.wit5.up = true) ∧ (K19.wit5.suppliesOk K19.wit6 = false) ∧
    (K19.wit5.park.current = some K19.wit4) := by decide +kernel
theorem witness_ParksTokensDebug_lrrrl : (K19.wit0.up = true) ∧
    (K19.wit0.suppliesOk K19.wit1 = true ∨ K19.wit0.park.current = none) := by decide +kernel
theorem witness_ParksTokensDebug_lrrrrl : (K19.wit0.up = true) ∧ (K19.wit0.park.current = none) := by decide +kernel
theorem witness_ParksTokensDebug_lrrrrrlll : (K19.wit0.up = true) ∧
    (tokKnown K19.wit0.token = false ∨ tokKind K19.wit0.token ≠ 1) := by decide +kernel
theorem witness_ParksTokensDebug_lrrrrrllr : (K19.wit7.up = true) ∧ (tokKnown K19.wit7.token = true) ∧
    (tokKind K19.wit7.token = 1) := by decide +kernel
theorem witness_ParksTokensDebug_lrrrrrlrl : (K19.wit7.up = true) ∧ (tokKnown K19.wit7.token = true) := by decide +kernel
theorem witness_ParksTokensDebug_lrrrrrlrr : (K19.wit0.up = true) ∧ (tokKnown K19.wit0.token = false) := by decide +kernel
theorem witness_ParksTokensDebug_lrrrrrrll : (K19.wit0.up = true) ∧ (K19.wit0.sec.burn = none) := by decide +kernel
theorem witness_ParksTokensDebug_lrrrrrrlr : (K19.wit8.up = true) ∧ (K19.wit8.sec.burn = some (1, 2, 77)) := by decide +kernel
theorem witness_ParksTokensDebug_lrrrrrrrl : (K19.wit0.up = true) ∧ (K19.wit0.sec.zeroing = false) := by decide +kernel
theorem witness_ParksTokensDebug_lrrrrrrrr : (K19.wit9.up = true) ∧ (K19.wit9.sec.zeroing = true) := by decide +kernel
theorem witness_ParksTokensDebug_rl : (K19.wit10.pins.vio = false) := by decide +kernel
theorem witness_ParksTokensDebug_rr : (K19.wit0.pins.vio = true) := by decide +kernel
theorem witness_SpdmAndIde_l : (K20.wit0.up = true) := by decide +kernel
theorem witness_SpdmAndIde_rl : (K20.wit0.up = true) := by decide +kernel
theorem witness_SpdmAndIde_rrl : (K20.wit0.up = true) ∧ (K20.wit0.sec.conn < 3) := by decide +kernel
theorem witness_SpdmAndIde_rrrl : (K20.wit1.up = true) ∧ (1 ≤ K20.wit1.sec.conn) := by decide +kernel
theorem witness_SpdmAndIde_rrrrll : (K20.wit2.up = true) ∧ (2 ≤ K20.wit2.sec.conn) := by decide +kernel
theorem witness_SpdmAndIde_rrrrlr : (K20.wit2.up = true) ∧ (2 ≤ K20.wit2.sec.conn) := by decide +kernel
theorem witness_SpdmAndIde_rrrrrll : (K20.wit3.up = true) ∧ (3 ≤ K20.wit3.sec.conn) := by decide +kernel
theorem witness_SpdmAndIde_rrrrrlrl : (K20.wit3.up = true) ∧ (3 ≤ K20.wit3.sec.conn) := by decide +kernel
theorem witness_SpdmAndIde_rrrrrlrrll : (K20.wit3.up = true) ∧ (3 ≤ K20.wit3.sec.conn) ∧ (1 ≠ 0) := by decide +kernel
theorem witness_SpdmAndIde_rrrrrlrrlr : (K20.wit3.up = true) ∧ (3 ≤ K20.wit3.sec.conn) ∧ (0 = 0) := by decide +kernel
theorem witness_SpdmAndIde_rrrrrlrrrll : (K20.wit3.up = true) ∧ (3 ≤ K20.wit3.sec.conn) ∧ (6 < 7) ∧ (7 ≠ 255) := by decide +kernel
theorem witness_SpdmAndIde_rrrrrlrrrlr : (K20.wit3.up = true) ∧ (3 ≤ K20.wit3.sec.conn) ∧ (0 ≤ 6 ∨ 0 = 255) := by decide +kernel
theorem witness_SpdmAndIde_rrrrrlrrrrl : (K20.wit3.up = true) ∧ (3 ≤ K20.wit3.sec.conn) ∧ (1 ≠ 0) := by decide +kernel
theorem witness_SpdmAndIde_rrrrrlrrrrrl : (K20.wit4.up = true) ∧ (3 ≤ K20.wit4.sec.conn) ∧ (4 ≤ K20.wit4.sec.sessions.length) := by decide +kernel
theorem witness_SpdmAndIde_rrrrrlrrrrrr : (K20.wit3.up = true) ∧ (3 ≤ K20.wit3.sec.conn) ∧ (K20.wit3.sec.sessions.length < 4) := by decide +kernel
theorem witness_SpdmAndIde_rrrrrrl : (K20.wit0.up = true) ∧ (K20.wit0.inSession 0 false = false) := by decide +kernel
theorem witness_SpdmAndIde_rrrrrrrll : (K20.wit5.up = true) ∧ (K20.wit5.inSession 2 false = true) ∧
    (K20.wit5.sec.sessions.length ≤ 4) := by decide +kernel
theorem witness_SpdmAndIde_rrrrrrrlr : (K20.wit5.up = true) ∧ (K20.wit5.inSession 2 false = true) ∧
    (K20.wit5.sec.sessions.length ≤ 4) := by decide +kernel
theorem witness_SpdmAndIde_rrrrrrrrl : (K20.wit0.up = true) ∧ (K20.wit0.inSession 0 true = false) := by decide +kernel
theorem witness_SpdmAndIde_rrrrrrrrrll : (K20.wit5.up = true) ∧ (K20.wit5.inSession 1 true = true) ∧
    (K20.wit5.sec.sessions.length ≤ 4) := by decide +kernel
theorem witness_SpdmAndIde_rrrrrrrrrlrl : (K20.wit5.up = true) ∧ (K20.wit5.inSession 1 true = true) ∧
    (K20.wit5.sec.sessions.length ≤ 4) := by decide +kernel
theorem witness_SpdmAndIde_rrrrrrrrrlrrl : (K20.wit5.up = true) ∧ (K20.wit5.inSession 1 true = true) ∧
    (K20.wit5.sec.sessions.length ≤ 4) := by decide +kernel
theorem witness_SpdmAndIde_rrrrrrrrrlrrr : (K20.wit5.up = true) ∧ (K20.wit5.inSession 1 true = true) ∧ (K20.wit5.sec.sessions.length ≤ 4) ∧ (0 < 4) ∧
    (0 < 3) ∧ (0 < 2) := by decide +kernel
theorem witness_SpdmAndIde_rrrrrrrrrr : (K20.wit0.up = true) ∧ (K20.wit0.inSession 0 true = false ∨ 4 ≤ 0 ∨ 3 ≤ 0 ∨ 2 ≤ 0) := by decide +kernel
theorem witness_ResetValues_rrrrrrrrrrrrl : (0 < 4) := by decide +kernel
theorem witness_ResetValues_rrrrrrrrrrrrrll : (0 < 36) := by decide +kernel
theorem witness_ResetValues_rrrrrrrrrrrrrlrl : (0 < 36) := by decide +kernel
theorem witness_ResetValues_rrrrrrrrrrrrrlrrl : (0 < 36) := by decide +kernel
theorem witness_ResetValues_rrrrrrrrrrrrrlrrrl : (0 < 36) := by decide +kernel
theorem witness_ResetValues_rrrrrrrrrrrrrlrrrrl : (0 < 36) := by decide +kernel
theorem witness_ResetValues_rrrrrrrrrrrrrlrrrrr : (0 < 36) := by decide +kernel
theorem witness_ResetValues_rrrrrrrrrrrrrrll : (0 < 8) := by decide +kernel
theorem witness_ResetValues_rrrrrrrrrrrrrrlrl : (0 < 8) := by decide +kernel
theorem witness_ResetValues_rrrrrrrrrrrrrrlrrl : (0 < 8) := by decide +kernel
theorem witness_ResetValues_rrrrrrrrrrrrrrlrrr : (0 < 8) := by decide +kernel
theorem witness_ResetValues_rrrrrrrrrrrrrrrrl : (0 < 36) := by decide +kernel
theorem witness_ServiceTiers_ : (K21.wit0.up = true) ∧ (2 < 7) ∧ (K21.wit0.stepState 2 = 1) ∧ (∀ (j : Nat), j < 2 →
    K21.wit0.stepState j ≠ 1) := by decide +kernel

end Sys2Proof.Tests
end

section
/-!
SUPPORT. The part of the state that the layout loader owns (chapter 10): `State.lay` and the LAY_ registers. Every operation of
memory, cores, regulators and resets leaves it as it is, one lemma per operation.
-/

namespace Sys2Proof.Machine

/-! ### The loader's part of the state -/

/-- The words of the loader's registers, LAY_STATUS and the 63 words after it. -/
def State.layWord (s : State) (k : Fin 64) : Nat := s.getW (R.LAY_STATUS + 4 * k)

/-- What the loader owns: its run-time state and its registers. -/
def State.layPart (s : State) : LaySt × (Fin 64 → Nat) := (s.lay, s.layWord)

/-- A register outside the loader's block. -/
def offLay (off : Nat) : Prop := off < R.LAY_STATUS ∨ R.LAY_STATUS + 0x100 ≤ off

theorem State.layPart_eq {s t : State} (hl : t.lay = s.lay) (hw : ∀ off, ¬ offLay off → t.getW off = s.getW off) :
    t.layPart = s.layPart :=
  Prod.ext hl (funext fun k => hw _ (by unfold offLay; omega))

theorem State.lay_of_layPart {s t : State} (h : t.layPart = s.layPart) : t.lay = s.lay := congrArg Prod.fst h

theorem State.getW_of_layPart {s t : State} (h : t.layPart = s.layPart) (k : Fin 64) :
    t.getW (R.LAY_STATUS + 4 * k) = s.getW (R.LAY_STATUS + 4 * k) := congrFun (congrArg Prod.snd h) k

theorem State.layState_of_layPart {s t : State} (h : t.layPart = s.layPart) : t.layState = s.layState :=
  congrArg (bits · 2 0) (State.getW_of_layPart h 0)

theorem State.layId_of_layPart {s t : State} (h : t.layPart = s.layPart) : t.getPair R.LAY_ID_LO = s.getPair R.LAY_ID_LO := by
  have hlo : t.getW R.LAY_ID_LO = s.getW R.LAY_ID_LO := State.getW_of_layPart h 6
  have hhi : t.getW (R.LAY_ID_LO + 4) = s.getW (R.LAY_ID_LO + 4) := State.getW_of_layPart h 7
  unfold State.getPair
  rw [hlo, hhi]

/-! ### Registers of other blocks -/

theorem offLay_cor (k n : Nat) : offLay (R.corBase k + n) := by
  unfold offLay R.corBase R.chestBase R.LAY_STATUS
  omega

theorem offLay_slc (k n : Nat) : offLay (R.slcBase k + n) := by
  unfold offLay R.slcBase R.chestBase R.LAY_STATUS
  omega

theorem offLay_lnk (c n : Nat) : offLay (R.lnkBase c + n) := by
  unfold offLay R.lnkBase R.chestBase R.LAY_STATUS
  omega

theorem offLay_chs (c n : Nat) : offLay (R.chsBase c + n) := by
  unfold offLay R.chsBase R.chestBase R.LAY_STATUS
  omega

/-- A register of the floor's blocks below the loader's. -/
theorem offLay_below {off : Nat} (h : off < 0xA00000) : offLay off := Or.inl h

theorem not_noteReg_of_lay {off : Nat} (h : ¬ offLay off) : ¬ noteReg off := by
  unfold offLay at h
  simp only [noteReg, R.LAY_STATUS, R.GLB_INT_STATUS, R.ERR_SEQ, R.ERR_INT_CLASS] at *
  omega

/-! ### Registers, interrupts and the log -/

theorem State.setW_layPart (s : State) {off : Nat} (v : Nat) (h : offLay off) : (s.setW off v).layPart = s.layPart :=
  State.layPart_eq rfl fun _ hj => State.getW_setW_ne _ _ _ (fun e => hj (e ▸ h))

theorem State.setF_layPart (s : State) {f : Fld} (v : Nat) (h : offLay f.off) : (s.setF f v).layPart = s.layPart :=
  State.setW_layPart s _ h

theorem State.incSat_layPart (s : State) {f : Fld} (n : Nat) (h : offLay f.off) : (s.incSat f n).layPart = s.layPart :=
  State.setF_layPart s _ h

theorem State.putBit_layPart (s : State) {f : Fld} (i : Nat) (b : Bool) (h : offLay f.off) : (s.putBit f i b).layPart = s.layPart :=
  State.setF_layPart s _ h

theorem State.flag_layPart (s : State) {f : Fld} (h : offLay f.off) : (s.flag f).layPart = s.layPart := State.setF_layPart s 1 h

theorem State.setPair_layPart (s : State) {lo : Nat} (v : Nat) (h : offLay lo) (h4 : offLay (lo + 4)) :
    (s.setPair lo v).layPart = s.layPart := by
  unfold State.setPair
  rw [State.setW_layPart _ _ h4, State.setW_layPart _ _ h]

/-- Registers of a range outside the loader's block go back to their Reset values. -/
theorem State.resetRange_layPart (s : State) {lo hi : Nat} (h : ∀ off, lo ≤ off → off < hi → offLay off) :
    (s.resetRange lo hi).layPart = s.layPart := by
  refine State.layPart_eq rfl fun off hj => ?_
  have hk : (!(decide (lo ≤ off) && decide (off < hi))) = true := by
    have := h off
    grind
  unfold State.resetRange State.getW
  rw [Tbl.get_keep, if_pos hk]

theorem State.notesOnly.lay_eq {s t : State} (h : s.notesOnly t) : t.lay = s.lay := by
  unfold State.notesOnly at h
  rw [h]

@[simp] theorem State.raise_layPart (s : State) (i : Nat) : (s.raise i).layPart = s.layPart :=
  State.layPart_eq (State.raise_notes s i).lay_eq fun _ hj => State.getW_raise _ _ fun e => not_noteReg_of_lay hj (Or.inl e)

theorem State.flagC_layPart (s : State) {f : Fld} (c : Nat) (h : offLay f.off) : (s.flagC f c).layPart = s.layPart := by
  unfold State.flagC
  rw [State.raise_layPart, State.setF_layPart _ _ h]

theorem State.logE_layPart (s : State) (chest kind idx ev : Nat) {cls : Nat} (av : Bool) (addr detail count : Nat) (h : cls ≤ 4) :
    (s.logE chest kind idx ev cls av addr detail count).layPart = s.layPart :=
  State.layPart_eq (State.logE_notes _ _ _ _ _ _ _ _ _ _).lay_eq fun _ hj => State.getW_logE _ _ _ _ _ _ _ _ _ _ h (not_noteReg_of_lay hj)

@[simp] theorem State.logT_layPart (s : State) (c idx ev addr detail : Nat) : (s.logT c idx ev addr detail).layPart = s.layPart :=
  State.logE_layPart _ _ _ _ _ _ _ _ _ (by decide)

@[simp] theorem State.emit_layPart (s : State) (e : OutEvent) : (s.emit e).layPart = s.layPart := rfl

@[simp] theorem State.tick_layPart (s : State) : s.tick.layPart = s.layPart := rfl

theorem State.seal_layPart (s t : State) : (s.seal t).layPart = t.layPart :=
  State.layPart_eq rfl fun _ hj => State.getW_seal _ _ fun e => hj (e ▸ offLay_below (by decide))

@[simp] theorem State.updateService_layPart (s : State) : s.updateService.layPart = s.layPart := by
  unfold State.updateService
  extract_lets off usable tier old s1
  have h1 : s1.layPart = s.layPart :=
    (State.setF_layPart _ _ (offLay_below (by decide))).trans (State.setF_layPart _ _ (offLay_below (by decide)))
  split
  · rfl
  · rw [State.raise_layPart, State.logE_layPart _ _ _ _ _ _ _ _ _ (by split <;> decide), h1]

/-! ### Folds -/

/-- What every step of a fold keeps of its first component, the fold keeps. -/
theorem foldl_fst_keeps {α β γ : Type} (p : State → β) (f : State × γ → α → State × γ) (h : ∀ st a, p (f st a).1 = p st.1)
    (l : List α) : ∀ st, p (l.foldl f st).1 = p st.1 := by
  induction l with
  | nil => exact fun _ => rfl
  | cons a l ih => exact fun st => (ih _).trans (h st a)

/-- A fold over the members of a list, whose steps are known to name members alone. -/
theorem State.each_keeps_mem {α β : Type} (p : State → β) (f : State → α → State) (l : List α) :
    (∀ s, ∀ a ∈ l, p (f s a) = p s) → ∀ s : State, p (s.each l f) = p s := by
  induction l with
  | nil => exact fun _ _ => rfl
  | cons a l ih =>
    intro h s
    rw [State.each_cons, ih (fun s b hb => h s b (List.mem_cons_of_mem _ hb)), h s a List.mem_cons_self]

/-! ### Updates of one table -/

@[simp] theorem State.setSlice_layPart (s : State) (u : Nat) (f : SliceSt → SliceSt) : (s.setSlice u f).layPart = s.layPart := rfl

@[simp] theorem State.setCore_layPart (s : State) (u : Nat) (f : CoreSt → CoreSt) : (s.setCore u f).layPart = s.layPart := rfl

@[simp] theorem State.setPup_layPart (s : State) (u : Nat) (f : PupSt → PupSt) : (s.setPup u f).layPart = s.layPart := rfl

@[simp] theorem State.setSlot_layPart (s : State) (k : Nat) (v : Slot) : (s.setSlot k v).layPart = s.layPart := rfl

@[simp] theorem State.setGov_layPart (s : State) (k : Nat) (f : GovSt → GovSt) : (s.setGov k f).layPart = s.layPart := rfl

@[simp] theorem State.setLines_layPart (s : State) (key : Nat) (ls : List Line) : (s.setLines key ls).layPart = s.layPart := rfl

@[simp] theorem State.wrBytes_layPart (l : List Byte) : ∀ (s : State) (a : Nat), (s.wrBytes a l).layPart = s.layPart := by
  induction l with
  | nil => exact fun _ _ => rfl
  | cons b l ih => exact fun s a => ih (s.wrByte a b) (a + 1)

/-! ### Sectors (R195-R207) -/

@[simp] theorem State.recordDefect_layPart (s : State) (d : Nat) : (s.recordDefect d).layPart = s.layPart := by
  unfold State.recordDefect
  split <;> rfl

@[simp] theorem State.rowStays_layPart (s : State) (u key : Nat) : (s.rowStays u key).layPart = s.layPart := by
  unfold State.rowStays
  rw [State.recordDefect_layPart, State.logE_layPart _ _ _ _ _ _ _ _ _ (by decide), State.flag_layPart]
  exact offLay_slc u _

@[simp] theorem State.declareBad_layPart (s : State) (u key : Nat) : (s.declareBad u key).layPart = s.layPart := by
  unfold State.declareBad
  split
  · rfl
  · simp only
    split <;> simp

@[simp] theorem State.countErr_layPart (s : State) (u ch bank : Nat) : (s.countErr u ch bank).layPart = s.layPart := by
  unfold State.countErr
  exact State.setSlice_layPart s u _

theorem State.logSlice_layPart (s : State) (l : Loc) (ev : Nat) {cls : Nat} (a detail : Nat) (h : cls ≤ 4) :
    (s.logSlice l ev cls a detail).layPart = s.layPart := State.logE_layPart _ _ _ _ _ _ _ _ _ h

@[simp] theorem State.noteCorrected_layPart (s : State) (l : Loc) (a : Nat) : (s.noteCorrected l a).layPart = s.layPart := by
  unfold State.noteCorrected
  extract_lets sec key s1 s2 s3 thr
  have h1 : s1.layPart = s.layPart := (State.flag_layPart _ (offLay_slc l.u _)).trans (State.incSat_layPart _ _ (offLay_slc l.u _))
  have h2 : s2.layPart = s.layPart := (State.logSlice_layPart s1 l _ _ _ (by decide)).trans h1
  have h3 : s3.layPart = s.layPart := by rw [State.setSlice_layPart, State.countErr_layPart, h2]
  split
  · rw [State.declareBad_layPart, h3]
  · exact h3

@[simp] theorem State.noteUncorrectable_layPart (s : State) (l : Loc) (a : Nat) : (s.noteUncorrectable l a).layPart = s.layPart := by
  unfold State.noteUncorrectable
  rw [State.declareBad_layPart, State.countErr_layPart, State.logSlice_layPart _ _ _ _ _ (by decide), State.flag_layPart]
  exact offLay_slc l.u _

@[simp] theorem State.backsFirst_layPart (s : State) (l : Loc) : (s.backsFirst l).layPart = s.layPart := by
  unfold State.backsFirst
  split <;> rfl

@[simp] theorem State.readSector_layPart (s : State) (a : Nat) : (s.readSector a).1.layPart = s.layPart := by
  unfold State.readSector
  extract_lets sec
  split
  · rfl
  · simp only
    split
    · simp
    · split
      · simp
      · split <;> simp

@[simp] theorem State.writeSector_layPart (s : State) (a : Nat) (b : List Byte) : (s.writeSector a b).layPart = s.layPart := by
  unfold State.writeSector
  extract_lets sec s1 m s2 s3
  have h2 : s2.layPart = s.layPart := State.wrBytes_layPart b s sec
  have h3 : s3.layPart = s.layPart := by
    unfold s3
    split
    · exact (State.setF_layPart _ _ (offLay_below (by decide))).trans h2
    · exact h2
  split <;> exact h3

@[simp] theorem State.writePart_layPart (s : State) (sec : Nat) (upd : Nat → Option Byte) : (s.writePart sec upd).1.layPart = s.layPart := by
  unfold State.writePart
  simp only
  split
  · simp
  · split <;> simp

@[simp] theorem State.readRange_layPart (s : State) (a n : Nat) : (s.readRange a n).1.layPart = s.layPart := by
  refine foldl_fst_keeps State.layPart _ (fun st sec => ?_) (sectorsOf a n) (s, some [])
  simp only
  split <;> simp

@[simp] theorem State.writeRange_layPart (s : State) (a : Nat) (b : List Byte) (en : List Bool) : (s.writeRange a b en).1.layPart = s.layPart := by
  refine foldl_fst_keeps State.layPart _ (fun st sec => ?_) (sectorsOf a b.length) (s, true)
  exact State.writePart_layPart st.1 sec _

@[simp] theorem State.zeroRange_layPart (s : State) (a n : Nat) : (s.zeroRange a n).layPart = s.layPart := by
  unfold State.zeroRange
  extract_lets s1
  have h1 : s1.layPart = s.layPart := by
    unfold s1
    split
    · rfl
    · simp
  exact h1

/-! ### The sideboard cache (R213, R214) -/

@[simp] theorem State.writeBackLine_layPart (s : State) (key : Nat) (l : Line) : (s.writeBackLine key l).layPart = s.layPart := by
  unfold State.writeBackLine
  simp only
  split
  · rfl
  · split
    · exact State.logE_layPart _ _ _ _ _ _ _ _ _ (by decide)
    · exact State.each_keeps State.layPart _ (fun s i => State.writeSector_layPart s _ _) _ s

@[simp] theorem State.evictLine_layPart (s : State) (key : Nat) : (s.evictLine key).layPart = s.layPart := by
  unfold State.evictLine
  simp only
  split
  · rfl
  · exact State.each_keeps State.layPart _ (fun s l => State.writeBackLine_layPart s key l) _ s.tick

@[simp] theorem State.putSector_layPart (s : State) (a : Nat) (b : List Byte) (dirty : Bool) : (s.putSector a b dirty).layPart = s.layPart := by
  unfold State.putSector
  simp only
  split <;> simp

@[simp] theorem State.fillLine_layPart (s : State) (a : Nat) (whole : List Nat) : (s.fillLine a whole).layPart = s.layPart := by
  refine State.each_keeps State.layPart _ (fun s x => ?_) _ s
  split
  · rfl
  · simp only
    split <;> simp

@[simp] theorem State.cacheRead_layPart (s : State) (a n : Nat) : (s.cacheRead a n).1.layPart = s.layPart := by
  have hf : (s.each (linesOf a n) (fun s' x => s'.fillLine x [])).layPart = s.layPart :=
    State.each_keeps State.layPart _ (fun s x => State.fillLine_layPart s x []) _ s
  refine (foldl_fst_keeps State.layPart _ (fun st sec => ?_) (sectorsOf a n) _).trans hf
  extract_lets q
  have hq : q.1.layPart = st.1.layPart := by
    unfold q
    split
    · exact State.readSector_layPart _ _
    · rfl
  split <;> exact hq

@[simp] theorem State.cacheWriteSector_layPart (s : State) (sec : Nat) (upd : Nat → Option Byte) :
    (s.cacheWriteSector sec upd).1.layPart = s.layPart := by
  unfold State.cacheWriteSector
  split
  · simp
  · split <;> simp

@[simp] theorem State.cacheWrite_layPart (s : State) (a : Nat) (b : List Byte) (en : List Bool) : (s.cacheWrite a b en).1.layPart = s.layPart := by
  unfold State.cacheWrite
  extract_lets secs whole s1
  have h1 : s1.layPart = s.layPart := State.each_keeps State.layPart _ (fun s x => State.fillLine_layPart s x whole) _ s
  refine (foldl_fst_keeps State.layPart _ (fun st sec => ?_) secs (s1, true)).trans h1
  exact State.cacheWriteSector_layPart st.1 sec _

@[simp] theorem State.memRead_layPart (s : State) (a n : Nat) : (s.memRead a n).1.layPart = s.layPart := by
  unfold State.memRead
  split <;> simp

@[simp] theorem State.memWrite_layPart (s : State) (a : Nat) (b : List Byte) (en : List Bool) : (s.memWrite a b en).1.layPart = s.layPart := by
  unfold State.memWrite
  split <;> simp

@[simp] theorem State.ownWrite_layPart (s : State) (a : Nat) (b : List Byte) : (s.ownWrite a b).layPart = s.layPart :=
  State.memWrite_layPart s a b []

@[simp] theorem State.ownRead_layPart (s : State) (a n : Nat) : (s.ownRead a n).1.layPart = s.layPart := State.memRead_layPart s a n

@[simp] theorem State.bypassLine_layPart (s : State) (key : Nat) (l : Line) : (s.bypassLine key l).layPart = s.layPart := by
  unfold State.bypassLine
  simp only
  split <;> simp

@[simp] theorem State.regionsTake_layPart (s : State) : s.regionsTake.layPart = s.layPart := by
  refine State.each_keeps State.layPart _ (fun t e => ?_) s.lines s
  exact State.each_keeps State.layPart _ (fun u l => State.bypassLine_layPart u e.1 l) e.2 t

/-! ### The staging area (R294, R296) -/

@[simp] theorem State.stageBytes_layPart (fuel : Nat) : ∀ (s : State) (a : Nat) (b : List Byte),
    (State.stageBytes fuel s a b).1.layPart = s.layPart := by
  induction fuel with
  | zero => exact fun _ _ _ => rfl
  | succ fuel ih =>
    intro s a b
    unfold State.stageBytes
    split
    · rfl
    · split
      · rfl
      · simp [ih]

@[simp] theorem State.stageImage_layPart (s : State) (b : List Byte) : (s.stageImage b).1.layPart = s.layPart := by
  unfold State.stageImage
  split
  · exact State.stageBytes_layPart _ s _ b
  · rfl

end Sys2Proof.Machine
end

section
/-!
SUPPORT. Cores, puppets, slots, the journal and takeovers leave the loader's part of the state.
-/

namespace Sys2Proof.Machine

/-! ### What registers show of cores, puppets and slices -/

@[simp] theorem State.showArr_layPart (s : State) (u : Nat) : (s.showArr u).layPart = s.layPart := by
  unfold State.showArr
  simp only
  rw [State.setF_layPart, State.setF_layPart, State.setF_layPart, State.setF_layPart, State.setF_layPart]
  all_goals exact offLay_cor u _

@[simp] theorem State.showVec_layPart (s : State) (u : Nat) : (s.showVec u).layPart = s.layPart := by
  unfold State.showVec
  extract_lets t s1
  have h1 : s1.layPart = s.layPart := (State.setF_layPart _ _ (offLay_cor u _)).trans (State.setF_layPart _ _ (offLay_cor u _))
  split
  · exact (State.setF_layPart _ _ (offLay_cor u _)).trans h1
  · exact h1

@[simp] theorem State.showFus_layPart (s : State) (u : Nat) : (s.showFus u).layPart = s.layPart := by
  unfold State.showFus
  extract_lets t pair s1
  have h1 : s1.layPart = s.layPart := (State.setF_layPart _ _ (offLay_cor u _)).trans (State.setF_layPart _ _ (offLay_cor u _))
  split
  · exact (State.setF_layPart _ _ (offLay_cor u _)).trans h1
  · exact h1

@[simp] theorem State.showPup_layPart (s : State) (u : Nat) : (s.showPup u).layPart = s.layPart := by
  unfold State.showPup
  simp only
  rw [State.setF_layPart, State.setF_layPart, State.setF_layPart, State.setF_layPart, State.setF_layPart]
  all_goals exact offLay_slc u _

@[simp] theorem State.updateOffline_layPart (s : State) : s.updateOffline.layPart = s.layPart := by
  refine State.each_keeps State.layPart _ (fun t u => ?_) _ s
  exact State.setF_layPart t _ (offLay_slc u _)

/-! ### Cores -/

@[simp] theorem State.dropWork_layPart (s : State) (u : Nat) : (s.dropWork u).layPart = s.layPart := by
  simp [State.dropWork, State.showCore]

@[simp] theorem State.putTile_layPart (s : State) (u off : Nat) (b : List Byte) : (s.putTile u off b).layPart = s.layPart := rfl

@[simp] theorem State.clearCore_layPart (s : State) (u : Nat) : (s.clearCore u).layPart = s.layPart := by
  unfold State.clearCore
  rw [State.setF_layPart _ _ (offLay_cor u _), State.resetRange_layPart _ (fun off hlo _ => ?_), State.setCore_layPart]
  obtain ⟨n, rfl⟩ := Nat.exists_eq_add_of_le hlo
  exact offLay_cor u n

@[simp] theorem State.loadChains_layPart (s : State) (u id : Nat) : (s.loadChains u id).layPart = s.layPart := by
  unfold State.loadChains
  exact State.setF_layPart _ _ (offLay_cor u _)

@[simp] theorem State.restoreRegions_layPart (s : State) (u area : Nat) (l : List (Nat × Nat)) :
    (s.restoreRegions u area l).layPart = s.layPart := by
  refine foldl_fst_keeps State.layPart _ (fun st p => ?_) l (s, area)
  simp only
  split <;> simp

@[simp] theorem State.loadTile_layPart (s : State) (u id : Nat) : (s.loadTile u id).layPart = s.layPart := by
  unfold State.loadTile
  extract_lets s1 ds s2
  have h2 : s2.layPart = s.layPart := State.each_keeps State.layPart _ (fun t d => State.putTile_layPart t u d.addr d.bytes) ds s1
  split
  · rw [State.restoreRegions_layPart, h2]
  · exact h2

@[simp] theorem State.reload_layPart (s : State) (u : Nat) : (s.reload u).layPart = s.layPart := by
  unfold State.reload State.reloadCore
  split
  · split <;> simp
  · simp

@[simp] theorem State.dutyTakes_layPart (s : State) (u : Nat) : (s.dutyTakes u).layPart = s.layPart := by
  unfold State.dutyTakes
  rw [State.showArr_layPart, State.setF_layPart]
  exact offLay_cor u _

@[simp] theorem State.giveDuty_layPart (s : State) (u : Nat) : (s.giveDuty u).layPart = s.layPart := by
  unfold State.giveDuty
  simp only
  split <;> simp

/-! ### The journal (R414, R415) -/

@[simp] theorem State.clearTray_layPart (s : State) {t : Nat} (h : t < 1088) : (s.clearTray t).layPart = s.layPart :=
  State.resetRange_layPart s fun off _ hhi => offLay_below (by unfold R.trayBase at hhi; omega)

@[simp] theorem State.discard_layPart (s : State) (t : Nat) : (s.discard t).layPart = s.layPart := by
  unfold State.discard
  split
  · rename_i h
    simp only
    split
    · rfl
    · exact State.clearTray_layPart _ h.1
  · rfl

@[simp] theorem State.abortEntry_layPart (s : State) (jid : Nat) : (s.abortEntry jid).layPart = s.layPart := by
  unfold State.abortEntry State.finishEntry
  simp only
  split
  · rw [State.discard_layPart]
    rfl
  · rfl

@[simp] theorem State.replayEntry_layPart (s : State) (jid : Nat) : (s.replayEntry jid).layPart = s.layPart := by
  unfold State.replayEntry
  split
  · rfl
  · split
    · rfl
    · split
      · simp
      · rw [State.flagC_layPart _ _ (offLay_below (by decide)), State.incSat_layPart _ _ (offLay_below (by decide))]
        rfl

@[simp] theorem State.replayReady_layPart (s : State) : s.replayReady.layPart = s.layPart := by
  refine State.each_keeps State.layPart _ (fun t e => ?_) _ s
  exact State.replayEntry_layPart t e.jid

/-! ### Takeovers (R456) -/

@[simp] theorem State.setTakeover_layPart (s : State) (c v : Nat) : (s.setTakeover c v).layPart = s.layPart :=
  State.putBit_layPart _ _ _ (offLay_below (by decide))

/-- GLB_CHEST_MAP of a chest lies below the loader's block. -/
theorem offLay_chestMap {c : Nat} (h : c < 4) : offLay (R.GLB_CHEST_MAP c) :=
  offLay_below (by unfold R.GLB_CHEST_MAP; omega)

theorem State.takeOver_layPart (s : State) {c : Nat} (h : c < 4) : (s.takeOver c).layPart = s.layPart := by
  unfold State.takeOver
  simp only
  rw [State.updateService_layPart, State.replayReady_layPart, State.raise_layPart, State.logE_layPart _ _ _ _ _ _ _ _ _ (by decide),
    State.giveDuty_layPart, State.reload_layPart, State.putBit_layPart, State.setF_layPart, State.setF_layPart,
    State.setTakeover_layPart, State.clearCore_layPart]
  all_goals exact offLay_chestMap h

@[simp] theorem State.takeovers_layPart (s : State) : s.takeovers.layPart = s.layPart := by
  refine State.each_keeps_mem State.layPart _ _ (fun t c hc => ?_) s
  split
  · exact State.takeOver_layPart t (List.mem_range.mp hc)
  · rfl

@[simp] theorem State.takeoversNow_layPart (s : State) : s.takeoversNow.layPart = s.layPart := by
  unfold State.takeoversNow
  split <;> simp

/-! ### Puppets and reduction slots of an act (R225, R217) -/

@[simp] theorem State.loadPup_layPart (s : State) (u : Nat) : (s.loadPup u).layPart = s.layPart := by
  unfold State.loadPup
  simp only
  rw [State.showPup_layPart, State.setF_layPart, State.setF_layPart, State.setPup_layPart]
  all_goals exact offLay_slc u _

@[simp] theorem State.loadSlots_layPart (s : State) (c : Nat) : (s.loadSlots c).layPart = s.layPart := by
  unfold State.loadSlots
  extract_lets s1
  refine (State.each_keeps State.layPart _ (fun t x => ?_) _ s1).trans rfl
  exact State.setSlot_layPart t _ _

/-! ### What waits for a boundary (R314) and the end of a pause (R495) -/

theorem State.withThm_layPart (s : State) (x : ThmSt) : ({ s with thm := x } : State).layPart = s.layPart := rfl

@[simp] theorem State.showGov_layPart (s : State) (c : Nat) : (s.showGov c).layPart = s.layPart := by
  unfold State.showGov
  extract_lets s1
  have h1 : s1.layPart = s.layPart := (State.setF_layPart _ _ (offLay_chs c _)).trans (State.setF_layPart _ _ (offLay_chs c _))
  exact (State.each_keeps State.layPart _ (fun t p => State.giveDuty_layPart t (c * 9 + p)) _ s1).trans h1

@[simp] theorem State.modeTakes_layPart (s : State) : s.modeTakes.layPart = s.layPart := by
  unfold State.modeTakes
  extract_lets s1 s2
  have h1 : s1.layPart = s.layPart := State.setF_layPart _ _ (offLay_below (by decide))
  have h2 : s2.layPart = s1.layPart := State.each_keeps State.layPart _ (fun t k => State.setGov_layPart t k (clampGov s1.topRung)) _ s1
  rw [State.each_keeps State.layPart _ (fun t c => State.showGov_layPart t c), h2, h1]

@[simp] theorem State.closeSprint_layPart (s : State) (early : Bool) (ms : Nat) : (s.closeSprint early ms).layPart = s.layPart := by
  unfold State.closeSprint
  extract_lets s1 s2
  have h1 : s1.layPart = s.layPart :=
    (State.setF_layPart _ _ (offLay_below (by decide))).trans (State.setF_layPart _ _ (offLay_below (by decide)))
  have h2 : s2.layPart = s1.layPart := by
    unfold s2
    split
    · rw [State.logT_layPart, State.incSat_layPart _ _ (offLay_below (by decide))]
    · rfl
  exact (State.modeTakes_layPart _).trans (h2.trans h1)

@[simp] theorem State.openSprint_layPart (s : State) : s.openSprint.layPart = s.layPart := by
  unfold State.openSprint
  simp only
  rw [State.modeTakes_layPart, State.withThm_layPart, State.incSat_layPart, State.setF_layPart]
  all_goals exact offLay_below (by decide)

@[simp] theorem State.sprintFits_layPart (s : State) : s.sprintFits.layPart = s.layPart := by
  unfold State.sprintFits
  simp only
  split <;> simp

@[simp] theorem State.setMode_layPart (s : State) (m : Nat) (st : Bool) : (s.setMode m st).layPart = s.layPart := by
  unfold State.setMode
  rw [State.sprintFits_layPart, State.setF_layPart, State.setF_layPart]
  all_goals exact offLay_below (by decide)

@[simp] theorem State.govTakes_layPart (s : State) (c k : Nat) (g : GovSt) : (s.govTakes c k g).layPart = s.layPart := by
  unfold State.govTakes
  simp only
  split <;> simp

@[simp] theorem State.govsTake_layPart (s : State) : s.govsTake.layPart = s.layPart := by
  refine (State.each_keeps State.layPart _ (fun t (p : Nat × GovSt) => ?_) s.thm.govPend { s with thm := { s.thm with govPend := [] } }).trans rfl
  exact State.govTakes_layPart t _ p.1 p.2

theorem State.rescale_layPart (s : State) {i : Nat} (h : i < 36) : (s.rescale i).layPart = s.layPart := by
  have hq : offLay (R.QOS_SHORT i) := offLay_below (by unfold R.QOS_SHORT; omega)
  unfold State.rescale
  extract_lets u es fl f old s1 s2
  have h1 : s1.layPart = s.layPart := by
    unfold s1
    rw [State.setF_layPart, State.setF_layPart, State.setF_layPart]
    all_goals exact hq
  have h2 : s2.layPart = s.layPart := (State.logE_layPart _ _ _ _ _ _ _ _ _ (by decide)).trans h1
  split
  · exact h1
  · split
    · exact (State.flagC_layPart _ _ (offLay_below (by decide))).trans h2
    · exact h2

@[simp] theorem State.showAdmit_layPart (s : State) : s.showAdmit.layPart = s.layPart := by
  unfold State.showAdmit
  refine State.each_keeps_mem State.layPart _ _ (fun t i hi => ?_) s
  have hq : offLay (R.QOS_ADMIT i) := offLay_below (by have := List.mem_range.mp hi; unfold R.QOS_ADMIT; omega)
  exact (State.setF_layPart _ _ hq).trans (State.setF_layPart _ _ hq)

@[simp] theorem State.qosApply_layPart (s : State) (t : Tbl Word32) : (s.qosApply t).layPart = s.layPart := by
  unfold State.qosApply
  extract_lets s1
  rw [State.each_keeps_mem State.layPart _ _ (fun t i hi => State.rescale_layPart t (List.mem_range.mp hi)), State.showAdmit_layPart,
    State.setF_layPart _ _ (offLay_below (by decide))]
  rfl

@[simp] theorem State.deferredTake_layPart (s : State) : s.deferredTake.layPart = s.layPart := by
  unfold State.deferredTake
  extract_lets s1 s2 s3 s4 thm s5
  have h2 : s2.layPart = s.layPart := by
    unfold s2
    split
    · rw [State.each_keeps State.layPart _ (fun t u => State.dutyTakes_layPart t u), State.govsTake_layPart]
    · exact State.govsTake_layPart s
  have h3 : s3.layPart = s2.layPart := by
    unfold s3
    split
    · split
      · rfl
      · split <;> simp
    · rfl
  have h4 : s4.layPart = s3.layPart := by
    unfold s4
    split <;> simp
  have h5 : s5.layPart = s.layPart := h4.trans (h3.trans h2)
  split
  · rw [State.qosApply_layPart, h5]
  · exact h5

/-! ### Requests that a pause held (R494) -/

@[simp] theorem State.respond_layPart (s : State) (src : ReqSrc) (status : Nat) (d : List Byte) :
    (s.respond src status d).layPart = s.layPart := by
  unfold State.respond State.fabricRespond
  simp only
  split
  · split <;> rfl
  · rfl
  · split
    · split <;> rfl
    · rfl

@[simp] theorem State.answer_layPart (s : State) (q : MemReq) (status : Nat) (d : List Byte) : (s.answer q status d).layPart = s.layPart := by
  unfold State.answer
  split
  · split
    · rfl
    · split <;> rfl
  · simp

@[simp] theorem State.absorb_layPart (s : State) (f : RunReset → Bool) (posted : Bool) : (s.absorb f posted).layPart = s.layPart := by
  unfold State.absorb
  extract_lets s1
  have h1 : s1.layPart = s.layPart := by
    refine State.incSat_layPart _ _ ?_
    split <;> exact offLay_below (by decide)
  exact h1

@[simp] theorem State.refuse_layPart (s : State) (q : MemReq) (why : Nat) : (s.refuse q why).1.layPart = s.layPart := by
  have hlog : ∀ (t : State) (c k i ev : Nat), (t.logE c k i ev 2 true q.addr q.mid 1).layPart = t.layPart :=
    fun t c k i ev => State.logE_layPart _ _ _ _ _ _ _ _ _ (by decide)
  unfold State.refuse
  simp only
  split
  · exact hlog _ _ _ _ _
  · split
    · exact hlog _ _ _ _ _
    · split
      · simp
      · split
        · exact hlog _ _ _ _ _
        · split
          · rfl
          · rw [hlog, State.setPair_layPart, State.flag_layPart]
            · exact offLay_slc _ 0x8008
            · exact offLay_slc _ 0x8018
            · exact offLay_slc _ 0x801C

@[simp] theorem State.slotRefuse_layPart (s : State) (q : MemReq) : (s.slotRefuse q).1.layPart = s.layPart :=
  State.logE_layPart _ _ _ _ _ _ _ _ _ (by decide)

@[simp] theorem State.slotAccess_layPart (s : State) (q : MemReq) : (s.slotAccess q).1.layPart = s.layPart := by
  unfold State.slotAccess
  simp only
  split
  · rfl
  · split
    · simp
    · split
      · rfl
      · split
        · rfl
        · split
          · split <;> simp
          · rfl
  · simp

@[simp] theorem State.refreshFirst_layPart (s : State) (q : MemReq) : (s.refreshFirst q).layPart = s.layPart := by
  refine State.each_keeps State.layPart _ (fun t a => ?_) _ s
  split
  · split <;> rfl
  · rfl

@[simp] theorem State.serve_layPart (s : State) (q : MemReq) : (s.serve q).1.layPart = s.layPart := by
  unfold State.serve
  split
  · simp only
    split <;> simp
  · simp
  · simp only
    split <;> simp

@[simp] theorem State.access_layPart (s : State) (q : MemReq) : (s.access q).1.layPart = s.layPart := by
  unfold State.access
  split
  · simp
  · split
    · simp
    · split
      · simp
      · split
        · rfl
        · split <;> simp

@[simp] theorem State.request_layPart (s : State) (q : MemReq) : (s.request q).layPart = s.layPart := by
  unfold State.request
  simp only
  split
  · simp
  · simp
  · exact State.access_layPart s q

@[simp] theorem State.showHolds_layPart (s : State) : s.showHolds.layPart = s.layPart := by
  unfold State.showHolds
  rw [State.each_keeps State.layPart _ (fun t u => State.showPup_layPart t u),
    State.each_keeps State.layPart _ (fun t u => State.showArr_layPart t u)]

@[simp] theorem State.pauseLifts_layPart (s : State) : s.pauseLifts.layPart = s.layPart := by
  unfold State.pauseLifts
  extract_lets held thm s1 s2 s3 s4
  have h2 : s2.layPart = s.layPart :=
    (State.setF_layPart _ _ (offLay_below (by decide))).trans (State.setF_layPart _ _ (offLay_below (by decide)))
  have h3 : s3.layPart = s2.layPart := State.each_keeps State.layPart _ (fun t k => State.setGov_layPart t k (restartGov s2.topRung)) _ s2
  have h4 : s4.layPart = s3.layPart := by
    unfold s4
    rw [State.showHolds_layPart, State.each_keeps State.layPart _ (fun t c => State.showGov_layPart t c)]
  rw [State.each_keeps State.layPart _ (fun t (h : Nat × MemReq) => State.request_layPart t h.2), State.raise_layPart, State.logT_layPart, h4, h3, h2]

end Sys2Proof.Machine
end

section
/-!
SUPPORT. What a commit and its parts leave of the loader's run-time state (R297, R298, R300).
-/

namespace Sys2Proof.Machine

/-! ### The state field of LAY_STATUS -/

theorem State.setLayState_notes (s : State) (v : Nat) : s.notesOnly (s.setLayState v) := by
  unfold State.setLayState
  split
  · exact State.notesOnly.refl s
  · exact (State.setF_notes s _ _).trans (State.raise_notes _ _)

@[simp] theorem State.setLayState_lay (s : State) (v : Nat) : (s.setLayState v).lay = s.lay := (State.setLayState_notes s v).lay_eq

theorem State.setLayState_layState (s : State) {v : Nat} (h : v < 8) : (s.setLayState v).layState = v := by
  unfold State.setLayState
  split
  · assumption
  · rw [State.layState_of_layPart (State.raise_layPart _ _)]
    exact (State.getF_setF_same s R.LAY_STATUS.state v (by decide)).trans (Nat.mod_eq_of_lt h)

theorem State.getW_setLayState (s : State) (v : Nat) {off : Nat} (h : off ≠ R.LAY_STATUS) (hi : off ≠ R.GLB_INT_STATUS) :
    (s.setLayState v).getW off = s.getW off := by
  unfold State.setLayState
  split
  · rfl
  · rw [State.getW_raise _ _ hi]
    exact State.getW_setF_ne _ _ _ h

theorem State.layState_seal (s t : State) : (s.seal t).layState = t.layState := State.layState_of_layPart (State.seal_layPart s t)

/-! ### Stopping (R297 step 1, R300) -/

theorem State.epochsEnd_lay (s : State) : s.epochsEnd.lay = { s.lay with
    start := 0, began := false, slotSt := [], closes := [], closed := false, switchDue := false, stopDue := false } := by
  unfold State.epochsEnd
  extract_lets lay s1 s2
  have h2 : s2.lay = s1.lay := State.lay_of_layPart (State.deferredTake_layPart s1)
  split
  · rw [State.lay_of_layPart (State.pauseLifts_layPart s2), h2]
    rfl
  · rw [h2]
    rfl

theorem State.setLevel_layPart (s : State) (b : Nat) : (s.setLevel b).layPart = s.layPart := by
  unfold State.setLevel
  simp only
  rw [State.setF_layPart, State.setF_layPart, State.setF_layPart]
  all_goals exact offLay_below (by decide)

theorem State.zeroDegraded_layPart (s : State) : s.zeroDegraded.layPart = s.layPart := by
  refine State.each_keeps State.layPart _ (fun t u => ?_) _ s
  rw [State.zeroRange_layPart, State.setSlice_layPart]

theorem State.commitBegin_began (s : State) (i : Image) : (s.commitBegin i).lay.began = false := by
  unfold State.commitBegin
  extract_lets lay s1
  rw [State.lay_of_layPart (State.zeroDegraded_layPart _), State.lay_of_layPart (State.setLevel_layPart _ _)]
  exact congrArg LaySt.began (State.epochsEnd_lay s)

/-! ### What a commit writes (R297) -/

theorem State.setW_lay (s : State) (off v : Nat) : (s.setW off v).lay = s.lay := (State.setW_notes s off v).lay_eq

theorem State.setF_lay (s : State) (f : Fld) (v : Nat) : (s.setF f v).lay = s.lay := (State.setF_notes s f v).lay_eq

theorem State.setPair_lay (s : State) (lo v : Nat) : (s.setPair lo v).lay = s.lay := by simp

theorem State.setFreeList_lay (s : State) (g : KvGeo) (k : Nat) (l : List Nat) : (s.setFreeList g k l).lay = s.lay := by
  unfold State.setFreeList
  rw [State.setF_lay]

theorem State.putHdrs_layPart (s : State) (g : KvGeo) (p : Nat) (hdr : Nat → PageHdr) : (s.putHdrs g p hdr).layPart = s.layPart := by
  unfold State.putHdrs
  rw [State.ownWrite_layPart]

theorem State.loadPool_lay (s : State) (g : KvGeo) (k : Nat) : (s.loadPool g k).lay = s.lay := by
  unfold State.loadPool
  extract_lets fr pages
  have hp := State.each_keeps State.layPart _ (fun t p => State.putHdrs_layPart t g p (s.loadHdr g fr)) pages s
  rw [State.setFreeList_lay, State.lay_of_layPart hp]

theorem State.kvLoad_lay (s : State) : s.kvLoad.lay = s.lay := by
  unfold State.kvLoad
  extract_lets s1 s2 s3
  have h2 : s2.lay = s.lay := by
    unfold s2
    rw [State.each_keeps State.lay _ (fun t r => State.setPair_lay t r 0),
      State.each_keeps State.lay _ (fun t i => State.setW_lay t (R.KVM_FREE i) 0)]
  have h3 : s3.lay = s.lay := (State.setW_lay s2 _ _).trans h2
  split
  · exact h3
  · rename_i g _
    rw [State.each_keeps State.lay _ (fun t k => State.loadPool_lay t g k),
      State.each_keeps State.lay _ (fun t c => State.lay_of_layPart (State.zeroRange_layPart t (mkAddr c 8 g.seqBase) (2 ^ 24))), h3]

theorem State.writeAreas_layPart (s : State) (i : Image) : (s.writeAreas i).layPart = s.layPart := by
  refine State.each_keeps State.layPart _ (fun t a => ?_) _ s
  extract_lets t1
  have h1 : t1.layPart = t.layPart :=
    State.each_keeps State.layPart _ (fun u (d : Nat × Nat × List (List Byte)) => State.ownWrite_layPart u d.2.1 d.2.2.flatten) _ t
  refine (State.each_keeps State.layPart _ (fun u e => ?_) _ t1).trans h1
  exact State.ownWrite_layPart u _ _

theorem State.clearRun_layPart (s : State) (u : Nat) : (s.clearRun u).layPart = s.layPart := by
  unfold State.clearRun
  rw [State.resetRange_layPart _ (fun off hlo _ => ?_), State.setCore_layPart, State.dropWork_layPart]
  obtain ⟨n, rfl⟩ := Nat.exists_eq_add_of_le hlo
  rw [R.COR_ARR_ARRIVE, Nat.add_assoc, Nat.add_assoc]
  exact offLay_cor u _

/-! ### Act 0 (R297 step 5) -/

theorem State.loadCores_layPart (s : State) : s.loadCores.layPart = s.layPart := by
  refine State.each_keeps State.layPart _ (fun t id => ?_) _ s
  split
  · simp only
    split <;> simp
  · rfl

theorem State.updateRoutes_layPart (s : State) : s.updateRoutes.layPart = s.layPart := by
  unfold State.updateRoutes
  extract_lets ret
  refine State.each_keeps State.layPart _ (fun t c => ?_) _ s
  exact (State.setF_layPart _ _ (offLay_lnk c _)).trans (State.setF_layPart _ _ (offLay_lnk c _))

/-- The routes of an act change the directions of the diagonals alone. -/
theorem State.loadRoutes_lay (s : State) : ∃ r, s.loadRoutes.lay = { s.lay with routeRev := r } := by
  unfold State.loadRoutes
  extract_lets rs rev
  exact ⟨rev, State.lay_of_layPart (State.updateRoutes_layPart _)⟩

theorem State.loadQos_lay (s : State) (i : Image) : (s.loadQos i).lay = s.lay := by
  unfold State.loadQos
  extract_lets t isQos s1 s2
  have h2 : s2.lay = s1.lay := State.each_keeps State.lay _ (fun u (p : Nat × Word32) => State.setW_lay u p.1 p.2.toNat) t s1
  rw [State.lay_of_layPart (State.qosApply_layPart _ _),
    State.each_keeps State.lay _ (fun u k => State.setF_lay u (R.QOS_ADMIT.cue_share k) (shareOf i k)), h2]

theorem State.loadPower_layPart (s : State) (i : Image) : (s.loadPower i).layPart = s.layPart := by
  unfold State.loadPower
  split
  · rw [State.setMode_layPart, State.setF_layPart, State.setF_layPart]
    all_goals exact offLay_below (by decide)
  · rfl

theorem State.loadAct0_lay (s : State) (i : Image) : ∃ r, (s.loadAct0 i).lay = { s.lay with routeRev := r } := by
  unfold State.loadAct0
  extract_lets s1 s2 s3
  have h2 : s2.layPart = s.layPart := by
    refine (State.each_keeps State.layPart _ (fun t u => ?_) _ s1).trans (State.loadCores_layPart s)
    rw [State.loadPup_layPart, State.setPup_layPart]
  have h4 := State.each_keeps State.layPart _ (fun t c => State.loadSlots_layPart t c) (List.range 4) s2
  obtain ⟨r, hr⟩ := State.loadRoutes_lay (s2.each (List.range 4) (fun s' c => s'.loadSlots c))
  refine ⟨r, ?_⟩
  rw [State.lay_of_layPart (State.loadPower_layPart _ _), State.loadQos_lay, hr, State.lay_of_layPart (h4.trans h2)]

theorem State.showLayout_lay (s : State) (i : Image) : (s.showLayout i).lay = s.lay := by
  unfold State.showLayout
  extract_lets g s1 s2
  have h1 : s1.lay = s.lay := by
    unfold s1
    rw [State.setF_lay, State.setF_lay, State.setF_lay, State.setPair_lay]
  have h2 : s2.lay = s1.lay := State.each_keeps State.lay _ (fun t r => State.setPair_lay t r 0) _ s1
  rw [State.setF_lay, State.setF_lay, h2, h1]

/-! ### The commit (R297) -/

/-- A commit puts its image in force and starts no epochs. -/
theorem State.commit_lay (s : State) (i : Image) : (s.commit i).lay.force = some i ∧ (s.commit i).lay.began = false := by
  unfold State.commit
  extract_lets s1 lay s2 s3 s4 lay4 s5
  have h2 : s2.lay = { s1.lay with force := some i, staged := some i } := by
    unfold s2
    rw [State.lay_of_layPart (State.writeAreas_layPart _ _), State.kvLoad_lay, State.lay_of_layPart (State.regionsTake_layPart _)]
  obtain ⟨r, h3⟩ : ∃ r, s3.lay = { s2.lay with routeRev := r } := by
    obtain ⟨r, hr⟩ := State.loadAct0_lay (s2.each (List.range 36) (fun s' u => s'.clearRun u)) i
    refine ⟨r, hr.trans ?_⟩
    rw [State.lay_of_layPart (State.each_keeps State.layPart _ (fun t u => State.clearRun_layPart t u) _ s2)]
  have h4 : s4.lay = s3.lay := (State.lay_of_layPart (State.takeovers_layPart _)).trans (State.showLayout_lay s3 i)
  have h : ((s5.setLayState 4).setF R.MBX_LOCK.locked 1).updateOffline.lay = { s4.lay with left := (s4.schedAt 0).epochs } := by
    rw [State.lay_of_layPart (State.updateOffline_layPart _), State.setF_lay, State.setLayState_lay]
  rw [h, h4, h3, h2]
  exact ⟨rfl, State.commitBegin_began s i⟩

theorem State.commit_layState (s : State) (i : Image) : (s.commit i).layState = 4 := by
  unfold State.commit
  extract_lets s1 lay s2 s3 s4 lay4 s5
  rw [State.layState_of_layPart (State.updateOffline_layPart _),
    State.layState_of_layPart (State.setF_layPart _ _ (offLay_below (by decide))), State.setLayState_layState _ (by decide)]

/-! ### No layout in force (R298, R300) -/

theorem State.dropLayout_lay (s : State) : s.dropLayout.lay = { s.lay with force := none, staged := none } := by
  unfold State.dropLayout
  extract_lets lay s1 s2 s3 s4 s5
  have h1 : s1.lay = { s.lay with force := none, staged := none } := State.lay_of_layPart (State.regionsTake_layPart _)
  have h2 : s2.lay = s1.lay := by
    refine State.each_keeps State.lay _ (fun t u => ?_) _ s1
    rw [State.setF_lay, State.lay_of_layPart (State.setCore_layPart _ _ _)]
  have h3 : s3.lay = s2.lay := State.lay_of_layPart (State.each_keeps State.layPart _ (fun t u => State.loadPup_layPart t u) _ s2)
  have h4 : s4.lay = s3.lay := by
    unfold s4
    rw [State.setPair_lay, State.lay_of_layPart (State.each_keeps State.layPart _ (fun t c => State.loadSlots_layPart t c) _ s3)]
  have h5 : s5.lay = s4.lay := by
    unfold s5
    rw [State.setF_lay, State.setF_lay, State.setF_lay]
  rw [State.lay_of_layPart (State.updateOffline_layPart _), State.setF_lay, h5, h4, h3, h2, h1]

/-- A register pair reads what was written. -/
theorem State.getPair_setPair (s : State) (lo v : Nat) : (s.setPair lo v).getPair lo = v % 2 ^ 64 := by
  unfold State.getPair State.setPair
  rw [State.getW_setW_ne _ _ _ (by omega), State.getW_setW_same, State.getW_setW_same]
  omega

theorem State.getPair_setF (s : State) (f : Fld) (v : Nat) {lo : Nat} (h : lo ≠ f.off) (h4 : lo + 4 ≠ f.off) :
    (s.setF f v).getPair lo = s.getPair lo := by
  unfold State.getPair
  rw [State.getW_setF_ne _ _ _ h, State.getW_setF_ne _ _ _ h4]

theorem State.dropLayout_layId (s : State) : s.dropLayout.getPair R.LAY_ID_LO = 0 := by
  unfold State.dropLayout
  extract_lets lay s1 s2 s3 s4 s5
  have h5 : s5.getPair R.LAY_ID_LO = s4.getPair R.LAY_ID_LO := by
    unfold s5
    rw [State.getPair_setF, State.getPair_setF, State.getPair_setF]
    all_goals decide
  rw [State.layId_of_layPart (State.updateOffline_layPart _), State.getPair_setF _ _ _ (by decide) (by decide), h5,
    State.getPair_setPair, Nat.zero_mod]

end Sys2Proof.Machine
end

section
/-!
O48: the loader's commands, what each does in each of its cases, and the statement assembled from them (R295-R300, R307).
-/

namespace Sys2Proof.Machine

/-! ### LAY_REFUSE -/

/-- Registers alone differ. -/
def State.regsOnly (s t : State) : Prop := t = { s with regs := t.regs }

theorem State.regsOnly.trans {s t u : State} (h : s.regsOnly t) (k : t.regsOnly u) : s.regsOnly u := by
  unfold State.regsOnly at *
  rw [h] at k
  exact k

theorem State.setF_regsOnly (s : State) (f : Fld) (v : Nat) : s.regsOnly (s.setF f v) := rfl

theorem State.layCode_regsOnly (s : State) (c sec it : Nat) : s.regsOnly (s.layCode c sec it) :=
  ((State.setF_regsOnly s _ _).trans (State.setF_regsOnly _ _ _)).trans (State.setF_regsOnly _ _ _)

theorem State.layCode_lay (s : State) (c sec it : Nat) : (s.layCode c sec it).lay = s.lay := by
  unfold State.layCode
  rw [State.setF_lay, State.setF_lay, State.setF_lay]

theorem State.getW_layCode (s : State) (c sec it : Nat) {off : Nat} (h : off ≠ R.LAY_REFUSE) : (s.layCode c sec it).getW off = s.getW off := by
  unfold State.layCode
  rw [State.getW_setF_ne _ _ _ h, State.getW_setF_ne _ _ _ h, State.getW_setF_ne _ _ _ h]

/-- LAY_REFUSE holds a refusal's code, section and item, as far as its fields reach. -/
def State.refusalIs (t : State) (c sec it : Nat) : Prop :=
  t.getF R.LAY_REFUSE.code = c % 32 ∧ t.getF R.LAY_REFUSE.section = sec % 256 ∧ t.getF R.LAY_REFUSE.item = it % 65536

theorem State.layCode_refusalIs (s : State) (c sec it : Nat) : (s.layCode c sec it).refusalIs c sec it := by
  unfold State.layCode
  refine ⟨?_, ?_, State.getF_setF_same _ _ _ (by decide)⟩
  · rw [State.getF_setF_disjoint _ _ _ _ (by decide) (by decide) (by decide),
      State.getF_setF_disjoint _ _ _ _ (by decide) (by decide) (by decide), State.getF_setF_same _ _ _ (by decide)]
    rfl
  · rw [State.getF_setF_disjoint _ _ _ _ (by decide) (by decide) (by decide), State.getF_setF_same _ _ _ (by decide)]
    rfl

theorem State.refusalIs.of_getW {s t : State} {c sec it : Nat} (h : s.refusalIs c sec it) (hw : t.getW R.LAY_REFUSE = s.getW R.LAY_REFUSE) :
    t.refusalIs c sec it := by
  have hf : ∀ f : Fld, f.off = R.LAY_REFUSE → t.getF f = s.getF f := by
    intro f e
    unfold State.getF
    rw [e, hw]
  obtain ⟨hc, hs, hi⟩ := h
  exact ⟨(hf _ rfl).trans hc, (hf _ rfl).trans hs, (hf _ rfl).trans hi⟩

theorem State.refusalIs.of_layPart {s t : State} {c sec it : Nat} (h : s.refusalIs c sec it) (hp : t.layPart = s.layPart) :
    t.refusalIs c sec it := h.of_getW (State.getW_of_layPart hp 5)

theorem State.refusalIs.setLayState {s : State} {c sec it : Nat} (h : s.refusalIs c sec it) (v : Nat) :
    (s.setLayState v).refusalIs c sec it := h.of_getW (State.getW_setLayState s v (by decide) (by decide))

/-- A refusal that a command shows when it ends. -/
theorem State.refusalIs.sealed {s t : State} {c sec it : Nat} (h : t.refusalIs c sec it) : (s.seal t).refusalIs c sec it :=
  h.of_layPart (State.seal_layPart s t)

/-- A refusal that writes LAY_REFUSE and no more. -/
theorem State.seal_layCode {s t : State} {c : Nat} (hc : c < 32) (ht : t = s.seal (s.layCode c 0xFF 0xFFFF)) :
    (t.getF R.LAY_REFUSE.code = c ∧ t.getF R.LAY_REFUSE.section = 0xFF ∧ t.getF R.LAY_REFUSE.item = 0xFFFF) ∧
    t = { s with regs := t.regs } ∧ sameRegsBut [R.LAY_REFUSE] s t := by
  subst ht
  obtain ⟨hcode, hsec, hitem⟩ := (s.layCode_refusalIs c 0xFF 0xFFFF).sealed (s := s)
  refine ⟨⟨hcode.trans (Nat.mod_eq_of_lt hc), hsec, hitem⟩, State.seal_regsOnly (State.layCode_regsOnly _ _ _ _), fun off hoff => ?_⟩
  simp only [List.mem_cons, List.not_mem_nil, or_false, not_or] at hoff
  rw [State.getW_seal _ _ hoff.1, State.getW_layCode _ _ _ _ hoff.2]

/-! ### A refused load (R296) -/

theorem State.layFail_lay (s : State) (c sec it : Nat) : (s.layFail c sec it).lay = s.lay := by
  unfold State.layFail
  rw [State.lay_of_layPart (State.logE_layPart _ _ _ _ _ _ _ _ _ (by decide)), State.setLayState_lay, State.layCode_lay]

theorem State.layFail_layState (s : State) (c sec it : Nat) (h : s.lay.before < 8) : (s.layFail c sec it).layState = s.lay.before := by
  unfold State.layFail
  rw [State.layState_of_layPart (State.logE_layPart _ _ _ _ _ _ _ _ _ (by decide)), State.setLayState_layState _ h]

theorem State.layFail_refusalIs (s : State) (c sec it : Nat) : (s.layFail c sec it).refusalIs c sec it :=
  ((s.layCode_refusalIs c sec it).setLayState _).of_layPart (State.logE_layPart _ _ _ _ _ _ _ _ _ (by decide))

/-! ### LAY_CTRL.load -/

theorem layoutLoadOp_clear (s : State) {v : Nat} (h : bit v 0 = false) : layoutLoadOp s v = s := by
  simp [layoutLoadOp, h]

theorem layoutLoadOp_busy (s : State) {v : Nat} (h : bit v 0 = true) (hb : s.loadBusy = true ∨ s.stepState 6 ≠ 2) :
    layoutLoadOp s v = s.layCode 1 0xFF 0xFFFF := by
  have hc : (s.loadBusy || s.stepState 6 != 2) = true := by simpa using hb
  simp [layoutLoadOp, h, hc]

/-- R295: is the image's place or length one that a load refuses? -/
def State.badSource (s : State) : Prop :=
  s.getF R.LAY_SRC_LO.address % 64 ≠ 0 ∨ s.getF R.LAY_LEN.units < 16 ∨ 0x1000000 < s.getF R.LAY_LEN.units

theorem layoutLoadOp_idle (s : State) {v : Nat} (h : bit v 0 = true) (hb : s.loadBusy = false) (h6 : s.stepState 6 = 2)
    {s1 : State} (hs1 : s1 = { s with lay := { s.lay with before := s.layState } }) :
    (s.badSource → layoutLoadOp s v = s1.layFail 2 0xFF 0xFFFF) ∧ (¬ s.badSource → layoutLoadOp s v = (s1.setLayState 1).updateOffline) := by
  have hc : (s.getF R.LAY_SRC_LO.address % 64 != 0 || decide (s.getF R.LAY_LEN.units < 16) || decide (0x1000000 < s.getF R.LAY_LEN.units)) = true ↔
      s.badSource := by
    simp [State.badSource, or_assoc]
  have hi : (s.loadBusy || s.stepState 6 != 2) = false := by simp [hb, h6]
  unfold layoutLoadOp
  rw [h, hi, ← hs1]
  exact ⟨fun hz => if_pos (hc.mpr hz), fun hz => if_neg (fun k => hz (hc.mp k))⟩

theorem State.updateOffline_notes (s : State) : s.notesOnly s.updateOffline :=
  State.notesOnly.each _ _ fun t u => State.setF_notes t (R.SLC_STATUS.offline u) _

/-- R295: a load that is taken reports state 1 and remembers the state before it; the journal and memory stay. -/
theorem State.loadTaken (s : State) {t : State}
    (ht : t = (({ s with lay := { s.lay with before := s.layState } } : State).setLayState 1).updateOffline) :
    t.layState = 1 ∧ t.lay = { s.lay with before := s.layState } ∧ t.journal = s.journal ∧ t.mem = s.mem := by
  have hn : ({ s with lay := { s.lay with before := s.layState } } : State).notesOnly t := by
    rw [ht]
    exact (State.setLayState_notes _ 1).trans (State.updateOffline_notes _)
  refine ⟨?_, hn.lay_eq, ?_, ?_⟩
  · rw [ht, State.layState_of_layPart (State.updateOffline_layPart _), State.setLayState_layState _ (by decide)]
  · unfold State.notesOnly at hn
    rw [hn]
  · unfold State.notesOnly at hn
    rw [hn]

/-! ### The end of the image's fetch (R295, R296) -/

/-- R296: the state in which the image is checked: staged, in state 2. -/
def State.checking (s : State) (img : ImageIn) : State := (s.stageImage img.bytes).1.setLayState 2

/-- The outcome of the image's checks: none, or the first that fails. -/
def State.imageCheck (s : State) (img : ImageIn) : Fail := (s.checking img).checkLayout img (img.ok && (s.stageImage img.bytes).2)

/-- A fetch that can end so: the image whole, or less of it where a host read failed. -/
structure State.fetchEnds (s : State) (img : ImageIn) : Prop where
  loading : s.layState = 1
  whole : img.ok = true → img.bytes.length = s.getF R.LAY_LEN.units * 64
  part : img.ok = false → img.bytes.length < s.getF R.LAY_LEN.units * 64

theorem State.fetchEnds.guard {s : State} {img : ImageIn} (h : s.fetchEnds img) :
    (s.layState == 1 && (if img.ok then img.bytes.length == s.getF R.LAY_LEN.units * 64
      else decide (img.bytes.length < s.getF R.LAY_LEN.units * 64))) = true := by
  cases ho : img.ok
  · simp [h.loading, h.part ho]
  · simp [h.loading, h.whole ho]

theorem imageFetchEndOp_passes {s : State} {img : ImageIn} (h : s.fetchEnds img) (hc : s.imageCheck img = none) :
    imageFetchEndOp s img =
      ({ s.checking img with lay := { (s.checking img).lay with staged := some (imageOf img) } } : State).setLayState 3 := by
  unfold State.imageCheck State.checking at hc
  unfold imageFetchEndOp State.checking
  simp only [h.guard, State.guard_true, hc]

theorem imageFetchEndOp_fails {s : State} {img : ImageIn} (h : s.fetchEnds img) {f : Nat × Nat × Nat} (hc : s.imageCheck img = some f) :
    imageFetchEndOp s img = ((s.checking img).layFail f.1 f.2.1 f.2.2).updateOffline := by
  unfold State.imageCheck State.checking at hc
  unfold imageFetchEndOp State.checking
  simp only [h.guard, State.guard_true, hc]

/-- Staging an image and reporting state 2 leaves the loader's run-time state. -/
theorem State.checking_lay (s : State) (img : ImageIn) : (s.checking img).lay = s.lay := by
  rw [State.checking, State.setLayState_lay, State.lay_of_layPart (State.stageImage_layPart s _)]

/-! ### The commit (R297, R298) -/

theorem layoutCommitOp_none (s : State) (f : Option Nat) (h : s.lay.staged = none) : layoutCommitOp s f = s := by
  unfold layoutCommitOp
  rw [h]

/-- Does nothing hold a commit back: no pause, no partial reset, no margin test on a slice of act 0 (R453, R500, R554)? -/
def State.commitOpen (s : State) (i : Image) : Bool := s.layState == 3 && !s.paused && s.rst.running.isEmpty && !s.marginMeets i 0

theorem layoutCommitOp_whole (s : State) {i : Image} (h : s.lay.staged = some i) :
    layoutCommitOp s none = s.guard (s.commitOpen i) (fun t => t.commit i) := by
  unfold layoutCommitOp
  rw [h]
  exact rfl

theorem layoutCommitOp_stopped (s : State) (a : Nat) {i : Image} (h : s.lay.staged = some i) :
    layoutCommitOp s (some a) = s.guard (s.commitOpen i) (fun t => t.commitFails i a) := by
  unfold layoutCommitOp
  rw [h]
  exact rfl

theorem layoutCommitOp_waits (s : State) (f : Option Nat) {i : Image} (h : s.lay.staged = some i)
    (hw : s.paused = true ∨ s.rst.running ≠ [] ∨ s.marginMeets i 0 = true) : layoutCommitOp s f = s := by
  have ho : s.commitOpen i = false := by
    unfold State.commitOpen
    rcases hw with hp | hr | hm
    · simp [hp]
    · simp [hr]
    · simp [hm]
  cases f with
  | none => rw [layoutCommitOp_whole s h, ho, State.guard_false]
  | some a => rw [layoutCommitOp_stopped s a h, ho, State.guard_false]

/-- The staged image can be committed now. -/
structure State.commitReady (s : State) (i : Image) : Prop where
  staged : s.lay.staged = some i
  loaded : s.layState = 3
  awake : s.paused = false
  quiet : s.rst.running = []
  untested : s.marginMeets i 0 = false

theorem layoutCommitOp_ready {s : State} {i : Image} (h : s.commitReady i) :
    layoutCommitOp s none = s.commit i ∧ ∀ a, layoutCommitOp s (some a) = s.commitFails i a := by
  have ho : s.commitOpen i = true := by
    simp [State.commitOpen, h.loaded, h.awake, h.quiet, h.untested]
  refine ⟨?_, fun a => ?_⟩
  · rw [layoutCommitOp_whole s h.staged, ho, State.guard_true]
  · rw [layoutCommitOp_stopped s a h.staged, ho, State.guard_true]

/-- What a failed commit leaves before it writes its log entry. -/
def State.failedCommit (s : State) (i : Image) : State :=
  ((((s.commitBegin i).dropLayout).layCode 0x11 0xFF 0xFFFF).setLayState 0).updateOffline

theorem State.commitFails_eq (s : State) (i : Image) (a : Nat) :
    s.commitFails i a = (s.failedCommit i).logE 0 0xA 0 0x1B 1 true (a / 64 * 64) (0x11 + 0xFF * 32) 1 := rfl

theorem State.commitFails_layPart (s : State) (i : Image) (a : Nat) : (s.commitFails i a).layPart = (s.failedCommit i).layPart := by
  rw [State.commitFails_eq, State.logE_layPart _ _ _ _ _ _ _ _ _ (by decide)]

theorem State.failedCommit_lay (s : State) (i : Image) :
    (s.failedCommit i).lay = { (s.commitBegin i).lay with force := none, staged := none } := by
  unfold State.failedCommit
  rw [State.lay_of_layPart (State.updateOffline_layPart _), State.setLayState_lay, State.layCode_lay, State.dropLayout_lay]

theorem State.failedCommit_layState (s : State) (i : Image) : (s.failedCommit i).layState = 0 := by
  unfold State.failedCommit
  rw [State.layState_of_layPart (State.updateOffline_layPart _), State.setLayState_layState _ (by decide)]

theorem State.failedCommit_refusalIs (s : State) (i : Image) : (s.failedCommit i).refusalIs 0x11 0xFF 0xFFFF :=
  ((State.layCode_refusalIs _ 0x11 0xFF 0xFFFF).setLayState 0).of_layPart (State.updateOffline_layPart _)

/-- The newest entry of the log stands in the slot before the one that ERR_SEQ names. -/
theorem logged.newest {s t : State} {e : LogEntry} (h : logged s t e) :
    Tbl.get LogEntry.zero t.log.ring ((t.getF R.ERR_SEQ.seq + (2 ^ 32 - 1)) % 2 ^ 32 % 512) = e := by
  obtain ⟨hring, hseq⟩ := h
  have hlt : s.getF R.ERR_SEQ.seq < 2 ^ 32 := bits_lt _ 31 0
  have hslot : (t.getF R.ERR_SEQ.seq + (2 ^ 32 - 1)) % 2 ^ 32 % 512 = s.getF R.ERR_SEQ.seq % 512 := by omega
  rw [hslot, hring]

/-- A command that leaves its state as it is completes without an effect, whether the part runs or not. -/
theorem completes_untouched {c : Instr} {t : State} {f : State → State} (he : exec c t = whenUp t f) (hf : f t = t) :
    completes c t (fun u => untouched t u) := by
  cases hu : t.up
  · exact ⟨t, he.trans (whenUp_down t f hu), rfl, fun _ _ => rfl⟩
  · exact completes_whenUp he hu (by rw [hf]; exact State.untouched_seal t)

/-! ### LAY_CTRL.start and LAY_CTRL.unload (R300, R307) -/

theorem layoutStartOp_clear (s : State) {v : Nat} (h : bit v 1 = false) : layoutStartOp s v = s := by
  simp [layoutStartOp, h]

theorem layoutStartOp_late (s : State) {v : Nat} (h : bit v 1 = true) (hl : s.layState ≠ 4 ∨ s.getPair R.LAY_START_LO < s.tickNow + 16) :
    layoutStartOp s v = s.layCode 0x12 0xFF 0xFFFF := by
  unfold layoutStartOp
  simp only [h, Bool.not_true, Bool.false_eq_true, if_false]
  exact if_pos hl

theorem layoutStartOp_inTime (s : State) {v : Nat} (h : bit v 1 = true) (h4 : s.layState = 4) (ht : s.tickNow + 16 ≤ s.getPair R.LAY_START_LO) :
    layoutStartOp s v = { s with lay := { s.lay with start := s.getPair R.LAY_START_LO } } := by
  unfold layoutStartOp
  simp only [h, Bool.not_true, Bool.false_eq_true, if_false]
  exact if_neg (by omega)

theorem layoutUnloadOp_clear (s : State) {v : Nat} (h : bit v 2 = false) : layoutUnloadOp s v = s := by
  simp [layoutUnloadOp, h]

theorem layoutUnloadOp_busy (s : State) {v : Nat} (h : bit v 2 = true) (hb : s.loadBusy = true) :
    layoutUnloadOp s v = s.layCode 1 0xFF 0xFFFF := by
  simp [layoutUnloadOp, h, hb]

theorem layoutUnloadOp_taken (s : State) {v : Nat} (h : bit v 2 = true) (hb : s.loadBusy = false) :
    layoutUnloadOp s v = ((s.epochsEnd.dropLayout).setLayState 0).takeoversNow := by
  simp [layoutUnloadOp, h, hb]

/-- R300: after an unload no layout is in force, none is staged, and LAY_ID reads zero. -/
theorem State.unloaded (s : State) {t : State} (ht : t.layPart = ((s.epochsEnd.dropLayout).setLayState 0).layPart) :
    t.layState = 0 ∧ t.lay.force = none ∧ t.lay.staged = none ∧ t.lay.began = false ∧ t.getPair R.LAY_ID_LO = 0 := by
  have hl : t.lay = { s.epochsEnd.lay with force := none, staged := none } := by
    rw [State.lay_of_layPart ht, State.setLayState_lay, State.dropLayout_lay]
  have hid : t.getPair R.LAY_ID_LO = 0 := by
    rw [State.layId_of_layPart ht, ← State.dropLayout_layId s.epochsEnd]
    unfold State.getPair
    rw [State.getW_setLayState _ _ (by decide) (by decide), State.getW_setLayState _ _ (by decide) (by decide)]
  refine ⟨(State.layState_of_layPart ht).trans (State.setLayState_layState _ (by decide)), ?_, ?_, ?_, hid⟩
  · rw [hl]
  · rw [hl]
  · rw [hl]
    exact congrArg LaySt.began (State.epochsEnd_lay s)

/-! ### The clauses of O48 -/

theorem State.seal_lay (s t : State) : (s.seal t).lay = t.lay := State.lay_of_layPart (State.seal_layPart s t)

theorem logged.sealed {s u t : State} {e : LogEntry} (h : logged u t e) : logged u (s.seal t) e :=
  ⟨h.1, (State.getF_seal _ _ _ (by decide)).trans h.2⟩

/-- A command that changes the loader's run-time state alone. -/
theorem State.seal_withLay {s t : State} {l : LaySt} (ht : t = s.seal { s with lay := l }) :
    t.lay = l ∧ t = { s with regs := t.regs, lay := t.lay } ∧ sameRegsBut [] s t := by
  subst ht
  exact ⟨rfl, rfl, fun off hoff => State.getW_seal _ _ (by simpa using hoff)⟩

/-- What a command completes with, its effect known. -/
theorem completes_of_effect {c : Instr} {s t : State} {f : State → State} {P : State → Prop} (he : exec c s = whenUp s f)
    (hup : s.up = true) (hf : f s = t) (hp : P (s.seal t)) : completes c s P := completes_whenUp he hup (hf ▸ hp)

section
variable {s : State} {v : Nat} (hup : s.up = true)
include hup

theorem completes_layoutLoad_taken (h : bit v 0 = true) (hb : s.loadBusy = false) (h6 : s.stepState 6 = 2) (hz : ¬ s.badSource) :
    completes (.layoutLoad v) s fun t =>
      t.layState = 1 ∧ t.lay = { s.lay with before := s.layState } ∧ t.journal = s.journal ∧ t.mem = s.mem := by
  refine completes_of_effect (f := fun s => layoutLoadOp s v) rfl hup rfl ?_
  obtain ⟨hst, hlay, hj, hm⟩ := s.loadTaken ((layoutLoadOp_idle s h hb h6 rfl).2 hz)
  exact ⟨(State.layState_seal _ _).trans hst, (State.seal_lay _ _).trans hlay, hj, hm⟩

theorem completes_layoutLoad_badSource (h : bit v 0 = true) (hb : s.loadBusy = false) (h6 : s.stepState 6 = 2) (h8 : s.layState < 8)
    (hz : s.badSource) :
    completes (.layoutLoad v) s fun t => t.refusalIs 2 0xFF 0xFFFF ∧ t.layState = s.layState ∧ t.lay.force = s.lay.force := by
  refine completes_of_effect (f := fun s => layoutLoadOp s v) rfl hup ((layoutLoadOp_idle s h hb h6 rfl).1 hz) ?_
  refine ⟨(State.layFail_refusalIs _ 2 0xFF 0xFFFF).sealed, ?_, ?_⟩
  · rw [State.layState_seal, State.layFail_layState _ _ _ _ h8]
  · rw [State.seal_lay, State.layFail_lay]

theorem completes_imageFetchEnd_passes {img : ImageIn} (h : s.fetchEnds img) (hc : s.imageCheck img = none) :
    completes (.imageFetchEnd img) s fun t => t.layState = 3 ∧ t.lay = { s.lay with staged := some (imageOf img) } := by
  refine completes_of_effect (f := fun s => imageFetchEndOp s img) rfl hup (imageFetchEndOp_passes h hc) ⟨?_, ?_⟩
  · rw [State.layState_seal, State.setLayState_layState _ (by decide)]
  · rw [State.seal_lay, State.setLayState_lay, State.checking_lay]

theorem completes_imageFetchEnd_fails {img : ImageIn} (h : s.fetchEnds img) (h8 : s.lay.before < 8) {f : Nat × Nat × Nat}
    (hc : s.imageCheck img = some f) :
    completes (.imageFetchEnd img) s fun t => t.layState = s.lay.before ∧ t.lay = s.lay ∧ t.refusalIs f.1 f.2.1 f.2.2 := by
  have hp := State.updateOffline_layPart ((s.checking img).layFail f.1 f.2.1 f.2.2)
  have hb : (s.checking img).lay.before < 8 := by rw [State.checking_lay]; exact h8
  refine completes_of_effect (f := fun s => imageFetchEndOp s img) rfl hup (imageFetchEndOp_fails h hc)
    ⟨?_, ?_, ((State.layFail_refusalIs _ f.1 f.2.1 f.2.2).of_layPart hp).sealed⟩
  · rw [State.layState_seal, State.layState_of_layPart hp, State.layFail_layState _ _ _ _ hb, State.checking_lay]
  · rw [State.seal_lay, State.lay_of_layPart hp, State.layFail_lay, State.checking_lay]

theorem completes_layoutCommit {i : Image} (h : s.commitReady i) :
    completes (.layoutCommit none) s fun t => t.layState = 4 ∧ t.lay.force = some i ∧ t.lay.began = false := by
  refine completes_of_effect (f := fun s => layoutCommitOp s none) rfl hup (layoutCommitOp_ready h).1 ?_
  rw [State.seal_lay]
  exact ⟨(State.layState_seal _ _).trans (State.commit_layState s i), State.commit_lay s i⟩

theorem completes_layoutCommit_failed {i : Image} (h : s.commitReady i) (a : Nat) :
    completes (.layoutCommit (some a)) s fun t => t.layState = 0 ∧ t.lay.force = none ∧ t.lay.staged = none ∧ t.refusalIs 0x11 0xFF 0xFFFF ∧
      (let e := Tbl.get LogEntry.zero t.log.ring ((t.getF R.ERR_SEQ.seq + (2 ^ 32 - 1)) % 2 ^ 32 % 512)
       e.event = 0x1B ∧ e.cls = 1 ∧ e.addrValid = true ∧ e.address = a / 64 * 64) ∧
      ∀ f, completes (.layoutCommit f) t fun u => untouched t u := by
  refine completes_of_effect (f := fun s => layoutCommitOp s (some a)) rfl hup ((layoutCommitOp_ready h).2 a) ?_
  have hp : (s.seal (s.commitFails i a)).layPart = (s.failedCommit i).layPart :=
    (State.seal_layPart _ _).trans (State.commitFails_layPart s i a)
  have hlay := (State.lay_of_layPart hp).trans (State.failedCommit_lay s i)
  have hlog : logged (s.failedCommit i) (s.seal (s.commitFails i a))
      ((s.failedCommit i).entry 0xA 0 0x1B 1 true (a / 64 * 64) (0x11 + 0xFF * 32) 1) :=
    (State.logE_logged (s.failedCommit i) 0xA 0 0x1B 1 true (a / 64 * 64) (0x11 + 0xFF * 32) 1 (by decide)).sealed
  have hstaged : (s.seal (s.commitFails i a)).lay.staged = none := by rw [hlay]
  refine ⟨(State.layState_of_layPart hp).trans (State.failedCommit_layState s i), by rw [hlay], hstaged,
    (State.failedCommit_refusalIs s i).of_layPart hp, ?_, fun f => ?_⟩
  · rw [hlog.newest]
    exact ⟨rfl, rfl, rfl, rfl⟩
  · exact completes_untouched (f := fun s => layoutCommitOp s f) rfl (layoutCommitOp_none _ f hstaged)

theorem completes_layoutStart (h : bit v 1 = true) (h4 : s.layState = 4) (ht : s.tickNow + 16 ≤ s.getPair R.LAY_START_LO) :
    completes (.layoutStart v) s fun t => t.lay = { s.lay with start := s.getPair R.LAY_START_LO } ∧
      t = { s with regs := t.regs, lay := t.lay } ∧ sameRegsBut [] s t := by
  exact completes_of_effect (f := fun s => layoutStartOp s v) rfl hup (layoutStartOp_inTime s h h4 ht) (State.seal_withLay rfl)

theorem completes_layoutUnload (h : bit v 2 = true) (hb : s.loadBusy = false) :
    completes (.layoutUnload v) s fun t =>
      t.layState = 0 ∧ t.lay.force = none ∧ t.lay.staged = none ∧ t.lay.began = false ∧ t.getPair R.LAY_ID_LO = 0 := by
  refine completes_of_effect (f := fun s => layoutUnloadOp s v) rfl hup (layoutUnloadOp_taken s h hb) ?_
  exact s.unloaded ((State.seal_layPart _ _).trans (State.takeoversNow_layPart _))

end

end Sys2Proof.Machine

namespace Sys2Proof

open Sys2Proof.Machine

/-- Settles O48, command by command: each command's effect in each of its cases, and the frame of the loader's part of the state for
what follows it. The whole image as one operand and the commit in one step are the model's choices (log entries 87 and 88). -/
theorem layoutLoading : Obligations.LayoutLoading := by
  unfold Obligations.LayoutLoading
  intro s v hup
  extract_lets code refused
  have hrefused : ∀ {c : Instr} {f : State → State} {n : Nat}, exec c s = whenUp s f → n < 32 → f s = s.layCode n 0xFF 0xFFFF →
      completes c s fun t => refused t n := by
    intro c f n he hn hf
    exact completes_of_effect he hup hf (State.seal_layCode hn rfl)
  refine ⟨?_, ?_, ?_, ?_, ?_, ?_, ?_, ?_, ?_, ?_, ?_, ?_, ?_⟩
  · intro h hb h6 ha hl hu
    exact completes_layoutLoad_taken hup h hb h6 (by unfold State.badSource; omega)
  · exact fun h => completes_untouched (f := fun s => layoutLoadOp s v) rfl (layoutLoadOp_clear s h)
  · exact fun h hb => hrefused (f := fun s => layoutLoadOp s v) rfl (by decide) (layoutLoadOp_busy s h hb)
  · intro h hb h6 h8 hz
    exact completes_layoutLoad_badSource hup h hb h6 h8 hz
  · intro img h1 h8 hok hbad st
    have he : s.fetchEnds img := ⟨h1, hok, hbad⟩
    cases hc : (st.1.setLayState 2).checkLayout img (img.ok && st.2) with
    | none => exact completes_imageFetchEnd_passes hup he hc
    | some f => exact completes_imageFetchEnd_fails hup he h8 hc
  · intro i hs h3 hp hr hm
    exact ⟨completes_layoutCommit hup ⟨hs, h3, hp, hr, hm⟩, completes_layoutCommit_failed hup ⟨hs, h3, hp, hr, hm⟩⟩
  · exact fun i f hs _ hw => completes_untouched (f := fun s => layoutCommitOp s f) rfl (layoutCommitOp_waits s f hs hw)
  · exact fun h => completes_untouched (f := fun s => layoutStartOp s v) rfl (layoutStartOp_clear s h)
  · exact fun h => completes_untouched (f := fun s => layoutUnloadOp s v) rfl (layoutUnloadOp_clear s h)
  · exact fun h h4 ht => completes_layoutStart hup h h4 ht
  · exact fun h hl => hrefused (f := fun s => layoutStartOp s v) rfl (by decide) (layoutStartOp_late s h hl)
  · exact fun h hb => completes_layoutUnload hup h hb
  · exact fun h hb => hrefused (f := fun s => layoutUnloadOp s v) rfl (by decide) (layoutUnloadOp_busy s h hb)

end Sys2Proof
end
